-- ==== Sys2Proof/Word.lean ====
section
/-! DEFINITION. The plain words of the part: bytes, line sets, the numbers that name players, lists, inputs and lines,
the frame of the link, and the operands that say in which order agents act within one event. -/

namespace Sys2Proof

/-- One byte of the link (R141). -/
abbrev Byte := BitVec 8

/-- A set of the 24 output lines, or a set of levels; OUTn is bit n (section 5.3 of the scope file). -/
abbrev LineSet := BitVec 24

/-- P0 to P5. -/
abbrev PlayerId := Fin 6

/-- The id of a list record, 0 to 63 (R2). -/
abbrev ListId := Fin 64

/-- IN0 to IN7. -/
abbrev InputId := Fin 8

/-- OUT0 to OUT23. -/
abbrev LineId := Fin 24

/-- The six players in the order of their numbers. -/
def allPlayers : List PlayerId := [0, 1, 2, 3, 4, 5]

/-- One frame of the link between its SOF and its end (R153): LEN is the payload's length plus 2. -/
structure Frame where
  tag     : Byte
  kind    : Byte
  payload : List Byte
  check   : BitVec 16
deriving DecidableEq, Repr

/-- The agents that the Timebase hands a superframe start to (R28): each player, the Safe Unit, and the Notice Queue with
the SUPERFRAME notice. -/
inductive Actor where
  | player (p : PlayerId)
  | safeUnit
  | superframeNotice
deriving DecidableEq, Repr

/-- The order in which agents act within one event. The spec leaves it open (R53, R75, R94, R100, R123, R132, R134, R137), so it is an
operand of the command that stands for the event, and every order can be written (log 3).
`first`: the agents that act first, in this order; the others follow as `Actor.usual` has them.
`startFirst`: the players whose start point acts before their superframe commit (R75); for the others the commit is first.
`late`: the players that a safe entry made within the event reaches only after their own action (R132, R137; log 6).
`lateEvent`: the players that this event of the Timebase reaches only after a later event of the same tick (R94, R100; log 5).
`ends`: the players whose phase ends in their turn within the event when its tick takes their count to 0 (R53, R132, R134); for
the others the count falls due and the row of the phase ends it (log 4).
`actions`: how many of its actions a start-up goes on by before another event comes, to its end where none is named (R179; log 42). -/
structure Order where
  first      : List Actor := []
  startFirst : List PlayerId := []
  late       : List PlayerId := []
  lateEvent  : List PlayerId := []
  ends       : List PlayerId := []
  actions    : Option Nat := none
deriving DecidableEq, Repr

/-- What makes a start-up reset from outside (R179): power-on, or a low on RESET_N. -/
inductive ResetCause where
  | powerOn
  | resetN
deriving DecidableEq, Repr

end Sys2Proof
end

