-- ==== Sys2Proof/Syntax.lean ====
section
/-! DEFINITION. The commands: one constructor for each row of spec/opcode_table.json, in the table's order.
A take of a request has no operand for the request itself: the request is the frame at the front of the inbox (R156; log 1).
`o` is the order in which agents act within the command's event (log 3). -/

namespace Sys2Proof

/-- The commands of the SQ624. -/
inductive Instr where
  -- takes of Cue Store requests
  | listCreate
  | listAppend
  | listTruncate
  | listSeal
  | listUnseal
  | listDelete
  | listInfo
  | listRead
  | storeInfo
  -- takes of player requests
  | playerBind
  | playerUnbind
  | playerStart (o : Order)
  | playerCancel
  | playerStop
  | playerHold
  | playerResume (o : Order)
  | playerSetStop
  | playerClear
  | playerStatus
  | playerReplace
  | playerWithdraw
  -- takes of Timebase requests
  | tbStart (o : Order)
  | tbStop (o : Order)
  | tbStatus
  -- takes of line, input and safe requests
  | lineDrive
  | lineStatus
  | inputRead
  | safeEnter (o : Order)
  | safeRelease (o : Order)
  | safeStatus
  -- takes of parameter requests
  | paramGet
  | paramSet
  | paramSetStaged
  | paramSetStoppedClass
  | paramSetSyncOutSrc
  | paramSetLinkRate
  | paramSetHoldLevel (o : Order)
  | paramSetInEdge
  | paramSetInFilter
  | paramSetLineIdle
  | paramSetLineSafe
  | paramSetNoticeMask
  -- takes of notice, image, autostart and device requests
  | noticeMute
  | noticeUnmute
  | imageSave
  | imageErase
  | imageInfo
  | autostartSet
  | autostartClear
  | autostartRead
  | deviceStatus
  | deviceResetWarm
  | deviceResetReload
  | unknownKindRequest
  -- link events
  /-- A whole frame arrives on LINK_RX (R143). -/
  | frameReceived (f : Frame)
  /-- The byte taken in LENGTH is outside 2-250 (R144). -/
  | linkBadLength (len : Byte)
  | linkByteError
  | linkTimeout
  | frameSent
  -- Timebase events
  | internalTick (o : Order)
  | tickInEdge (o : Order)
  /-- SYNC_IN is sampled at a new level, `true` for high (R31). -/
  | syncInEdge (level : Bool) (o : Order)
  | syncOutPulseEnd
  -- step events, each of one player
  | setDwellEnd (p : PlayerId) (o : Order)
  | pulseTrailingEdge (p : PlayerId) (o : Order)
  | pulseDwellEnd (p : PlayerId) (o : Order)
  | waitEdgeTimeout (p : PlayerId) (o : Order)
  -- input and safe events
  | acceptedChange (n : InputId) (o : Order)
  /-- HOLD_IN is sampled at a new level, `true` for high (R130). -/
  | holdInChange (level : Bool) (o : Order)
  -- image events: `ok` is what the nonvolatile bank's read-back answers
  | saveCompletion (ok : Bool)
  | eraseCompletion (ok : Bool)
  -- device events
  | startUpReset (cause : ResetCause)
  | imageLoad (o : Order)
  | sofReceived
  /-- One sample of a watch input at a raw level, `true` for high (R119). -/
  | inputSample (n : InputId) (level : Bool) (o : Order)
  | bankATreated (ok : Bool)
  | resetNRelease
  | powerFailure
deriving DecidableEq, Repr

end Sys2Proof
end

