-- ==== Sys2Proof/Decode.lean ====
section
/-! DEFINITION. The commands of the table that a word spells. No row of spec/opcode_table.json gives bits (its "fields" are
empty and it has no "fixed"), so no word spells a command (log 32). -/

namespace Sys2Proof

/-- The command that a word spells by the table's bits: none, since no row of the table gives any. -/
def decodeTableWord (_nbits _w : Nat) : Option Instr := none

end Sys2Proof
end

