-- ==== Sys2Proof/Machine/Records.lean ====
section
/-! DEFINITION. The records that the part stores and saves: steps, parameters, autostart entries and images. -/

namespace Sys2Proof.Machine

/-- What a step does, with the fields its kind takes (R6). -/
inductive StepAction where
  | set (lines levels : LineSet) (dwell : BitVec 16)
  | pulse (lines levels : LineSet) (width dwell : BitVec 16)
  | waitEdge (input : InputId) (timeout : BitVec 16)
  | align (offset : BitVec 16)
deriving DecidableEq, Repr

/-- One step record (R6) with its flags (R7). -/
structure Step where
  action       : StepAction
  halt         : Bool
  note         : Bool
  fit          : Bool
  fresh        : Bool
  strict       : Bool
  timeoutFault : Bool
deriving DecidableEq, Repr

/-- The states of a list record (R3). -/
inductive ListState where
  | free
  | opened
  | sealed
deriving DecidableEq, Repr

inductive TickSource where
  | internal
  | tickIn
deriving DecidableEq, Repr

inductive SyncMode where
  | free
  | triggered
  | gated
  | aligned
deriving DecidableEq, Repr

inductive SyncEdge where
  | rise
  | fall
deriving DecidableEq, Repr

/-- SYNC_OUT_SRC (R41). -/
inductive SyncOutSrc where
  | off
  | frame
  | superframe
  | running
  | note (p : PlayerId)
deriving DecidableEq, Repr

/-- IN_EDGE (R118). -/
inductive InEdge where
  | off
  | rise
  | fall
  | both
deriving DecidableEq, Repr

inductive LinkRate where
  | baud115200
  | baud460800
  | baud1000000
  | baud2000000
deriving DecidableEq, Repr

/-- The parameters that an image retains: every one of R160 but LINK_RATE. FRAME_LEN and SUPER_LEN are the values in force.
A level is `true` for high. -/
structure Params where
  tickSource  : TickSource
  tickDiv     : Nat
  frameLen    : Nat
  superLen    : Nat
  syncMode    : SyncMode
  syncEdge    : SyncEdge
  syncOutSrc  : SyncOutSrc
  fitMargin   : Nat
  inEdge      : Vector InEdge 8
  inFilter    : Vector Nat 8
  lineIdle    : LineSet
  lineSafe    : LineSet
  holdLevel   : Bool
  autoRelease : Bool
  autoResume  : Bool
  faultToSafe : Bool
  noticeMask  : BitVec 16
deriving DecidableEq, Repr

/-- The defaults of R160 and R167. -/
def Params.default : Params where
  tickSource  := .internal
  tickDiv     := 1000
  frameLen    := 1000
  superLen    := 1
  syncMode    := .free
  syncEdge    := .rise
  syncOutSrc  := .off
  fitMargin   := 0
  inEdge      := Vector.replicate 8 .off
  inFilter    := Vector.replicate 8 3
  lineIdle    := 0
  lineSafe    := 0
  holdLevel   := false
  autoRelease := false
  autoResume  := false
  faultToSafe := false
  noticeMask  := 0x6DF7

/-- The event that an armed player waits for (R68, R75). -/
inductive StartPoint where
  | now
  | frame
  | superframe
  | sync
  | input (n : InputId)
deriving DecidableEq, Repr

/-- The commit point of a replacement (R91). -/
inductive CommitPoint where
  | passEnd
  | superframe
deriving DecidableEq, Repr

/-- One occupied entry of the autostart table (R178); its player is its place in the table. -/
structure AutoEntry where
  list      : ListId
  lines     : LineSet
  start     : StartPoint
  passLimit : Nat
  stopIndex : Option Nat
deriving DecidableEq, Repr

/-- The autostart table (R178). -/
structure Autostart where
  entries  : Vector (Option AutoEntry) 6
  timebase : Bool
deriving DecidableEq, Repr

/-- A table whose entries are EMPTY and whose flag is off (R178). -/
def Autostart.empty : Autostart := { entries := Vector.replicate 6 none, timebase := false }

/-- One list as an image holds it (R173). -/
structure SavedList where
  id    : ListId
  label : List Byte
  steps : List Step
deriving DecidableEq, Repr

/-- The contents of a complete bank (R173). -/
structure Image where
  lists     : List SavedList
  params    : Params
  autostart : Autostart
deriving DecidableEq, Repr

end Sys2Proof.Machine
end

