-- ==== Sys2Proof/Config.lean ====
section
/-! DEFINITION. What the part fixes (section 6 of the scope file) and the values that its manual leaves free. -/

namespace Sys2Proof.Config

/-- Step slots in the pool (R1). -/
def stepSlots : Nat := 2048
/-- The most steps a list holds (R2). -/
def listSteps : Nat := 255
/-- Request frames in the inbox (R145). -/
def inboxSize : Nat := 8
/-- Entries of the reply queue (R145). -/
def replyEntries : Nat := 12
/-- Entries of the replay cache (R147). -/
def cacheSize : Nat := 4
/-- Records in the Notice Queue (R168). -/
def noticeSize : Nat := 32
/-- The inter-byte timer's limit in microseconds (R144). -/
def interByteLimit : Nat := 5000

/-- The actions of a start-up after its step 1: load, judgement of HOLD_IN, Timebase, six entries, READY (R179, R180; log 42). -/
def startUpActions : Nat := 10

/-- How many admissions a player is followed through within one event. An event runs through at most the rest of one pass
and one whole further pass (R50, R87), 510 steps, so no event of a list of at most 255 steps reaches the limit (log 29). -/
def chainFuel : Nat := 1024

/-- The bytes of an image in its bank. The manual gives no layout (R173), so this is free (log 15). -/
opaque imageLayout : Machine.Image → List Byte

/-- The checksum field of a header that is not COMPLETE. The manual gives no value (R173 to R176), so this is free: the
argument is a counter that is fresh at every use (log 15). -/
opaque openChecksum : Nat → BitVec 16

end Sys2Proof.Config
end

