-- ==== Sys2Proof/Machine/State.lean ====
section
/-! DEFINITION. The state of the part: every record the spec gives it, the queue of commands, and the state after reset. -/

namespace Sys2Proof.Machine

/-- Supply and RESET_N (R150): without supply; held from power-on or by RESET_N low until the reset's effects are applied; live. -/
inductive Phase where
  | off
  | held
  | live
deriving DecidableEq, Repr

/-- A stamp (R29): frame number and frame position. -/
structure Stamp where
  frame    : BitVec 32
  position : Nat
deriving DecidableEq, Repr

/-! ### Cue Store -/

/-- A list record (R2). An absent label is the empty one (R4); the step count is the number of steps; `derived` is the
footprint and the fixed duration, absent while not derived (R5). -/
structure ListRec where
  state    : ListState
  label    : List Byte
  steps    : List Step
  derived  : Option (LineSet × Nat)
  useCount : Nat
deriving DecidableEq, Repr

/-- A FREE record (R2). -/
def ListRec.blank : ListRec := { state := .free, label := [], steps := [], derived := none, useCount := 0 }

/-- The Cue Store (R1, R2, R10). -/
structure Store where
  lists     : Vector ListRec 64
  freeSlots : Nat
  busy      : Bool
deriving DecidableEq, Repr

def Store.blank : Store := { lists := Vector.replicate 64 ListRec.blank, freeSlots := Config.stepSlots, busy := false }

/-! ### Timebase -/

inductive TbState where
  | stopped
  | awaitSync
  | running
  | paused
deriving DecidableEq, Repr

/-- The Timebase record (R23), but for the values in force of FRAME_LEN and SUPER_LEN, which stand in `Params`.
`syncHold`: a SYNC_OUT high level raised while the Timebase was not RUNNING is in its one microsecond (R41). -/
structure Timebase where
  state        : TbState
  position     : Nat
  index        : Nat
  number       : BitVec 32
  pendFrameLen : Option Nat
  pendSuperLen : Option Nat
  divider      : Nat
  syncIn       : Bool
  syncOut      : Bool
  syncHold     : Bool
deriving DecidableEq, Repr

/-- R45; the level of SYNC_IN is log 13's. -/
def Timebase.blank : Timebase where
  state        := .stopped
  position     := 0
  index        := 0
  number       := 0
  pendFrameLen := none
  pendSuperLen := none
  divider      := 0
  syncIn       := false
  syncOut      := false
  syncHold     := false

/-! ### Players -/

/-- The states of a player (R69). -/
inductive PlayerState where
  | idle
  | bound
  | armed
  | running
  | held
  | faulted
deriving DecidableEq, Repr

/-- What the current step is doing (R48). -/
inductive Activity where
  | none
  | stepping
  | pulseWidth
  | edgeWait
  | alignWait
  | fitWait
deriving DecidableEq, Repr

inductive HoldCause where
  | stepHold
  | haltFlag
  | safe
deriving DecidableEq, Repr

inductive FaultCause where
  | waitTimeout
  | neverFits
  | edgeDoubled
deriving DecidableEq, Repr

/-- What the Timebase hands to the players at one event (R25, R28, R31): a tick, a frame start, a superframe start, an active
SYNC_IN edge, the end of a pause, and the FRAME_LEN in force just before it (R57). -/
structure TbEvent where
  tick     : Bool
  frame    : Bool
  super    : Bool
  sync     : Bool
  unpause  : Bool
  oldLen   : Nat
deriving DecidableEq, Repr

/-- Nothing but a FRAME_LEN in force. -/
def TbEvent.plain (oldLen : Nat) : TbEvent :=
  { tick := false, frame := false, super := false, sync := false, unpause := false, oldLen := oldLen }

/-- An event of the Timebase that has been handed out and reaches the player only after a later event of the same tick (log 5):
the event, whether the player no longer acts on it but by a commit (R134, R138), and whether the player's start point acts before
its commit (R75). -/
structure Owed where
  event      : TbEvent
  lost       : Bool
  startFirst : Bool
deriving DecidableEq, Repr

/-- A player record (R68). Two fields are the model's own: `due`, the tick at which the phase count reaches 0 has been made
and has not reached the player yet (log 4); `owed`, an event of the Timebase that has not reached it yet (log 5). -/
structure Player where
  state       : PlayerState
  boundList   : Option ListId
  claimed     : LineSet
  index       : Nat
  activity    : Activity
  remaining   : Nat
  passCount   : Nat
  passLimit   : Nat
  stopIndex   : Option Nat
  relaunch    : Bool
  holdPending : Bool
  holdCause   : Option HoldCause
  startPoint  : Option StartPoint
  replacement : Option (ListId × CommitPoint)
  faultCause  : Option FaultCause
  passBegun   : Bool
  deferred    : Bool
  due         : Bool
  owed        : Option Owed
deriving DecidableEq, Repr

/-- R90. -/
def Player.blank : Player where
  state       := .idle
  boundList   := none
  claimed     := 0
  index       := 0
  activity    := .none
  remaining   := 0
  passCount   := 0
  passLimit   := 1
  stopIndex   := none
  relaunch    := false
  holdPending := false
  holdCause   := none
  startPoint  := none
  replacement := none
  faultCause  := none
  passBegun   := false
  deferred    := false
  due         := false
  owed        := none

/-! ### Lines and inputs -/

/-- The Line Unit's own state (R104): owners and logical levels. Idle and safe levels are parameters, and the presented level
has no value of its own (log 27). -/
structure Lines where
  owners  : Vector (Option PlayerId) 24
  logical : LineSet
deriving DecidableEq, Repr

def Lines.blank : Lines := { owners := Vector.replicate 24 none, logical := 0 }

/-- An input record (R118). `sampled`: the first sample after a start-up reset has been taken (R128). -/
structure Input where
  filtered  : Bool
  sampled   : Bool
  candidate : Nat
  pending   : Bool
  stamp     : Stamp
  level     : Bool
  doubled   : Bool
deriving DecidableEq, Repr

/-- R128; the filtered level before the first sample is log 16's. -/
def Input.blank : Input where
  filtered  := false
  sampled   := false
  candidate := 0
  pending   := false
  stamp     := { frame := 0, position := 0 }
  level     := false
  doubled   := false

/-! ### Safe Unit -/

inductive SafeState where
  | clear
  | active
  | latched
deriving DecidableEq, Repr

/-- A cause set (R129). -/
structure Causes where
  holdLine : Bool
  request  : Bool
  fault    : Bool
deriving DecidableEq, Repr

def Causes.empty : Causes := { holdLine := false, request := false, fault := false }

/-- The safe record (R129) with the last sample of HOLD_IN (R130, R139). Pn is bit n of the fault players. -/
structure Safe where
  state        : SafeState
  causes       : Causes
  faultPlayers : BitVec 6
  holdActive   : Bool
  holdIn       : Bool
  lastChange   : Stamp
deriving DecidableEq, Repr

/-- R140; the level of HOLD_IN is log 13's. -/
def Safe.blank : Safe where
  state        := .clear
  causes       := Causes.empty
  faultPlayers := 0
  holdActive   := false
  holdIn       := true
  lastChange   := { frame := 0, position := 0 }

/-! ### Command link -/

/-- The receiver (R143): HUNT; LENGTH; BODY with the LEN byte and the bytes stored so far; CHECK with the bytes and the first
check byte if it has come. -/
inductive Receiver where
  | hunt
  | length
  | body (len : Nat) (got : List Byte)
  | check (got : List Byte) (first : Option Byte)
deriving DecidableEq, Repr

/-- What the end of a reply does beside freeing its entry: change the link rate (R142), or begin the start-up reset (R165). -/
inductive ReplyEffect where
  | plain
  | setRate (r : LinkRate)
  | reload
deriving DecidableEq, Repr

/-- A filled entry of the reply queue (R145). -/
structure ReplyEntry where
  frame  : Frame
  effect : ReplyEffect
deriving DecidableEq, Repr

/-- An entry of the replay cache (R147). -/
structure CacheEntry where
  tag   : Byte
  check : BitVec 16
  reply : Frame
deriving DecidableEq, Repr

/-- Where the frame being sent came from (R149): the oldest filled reply entry, the busy-reject slot, the Notice Queue. -/
inductive TxSource where
  | reply
  | reject
  | notice
deriving DecidableEq, Repr

/-- The frame being sent. -/
structure Sending where
  source : TxSource
  frame  : Frame
deriving DecidableEq, Repr

/-- The Link Interface. The entries of the reply queue that are reserved are one for each frame of the inbox (R145), so they
are counted by it; `replies` holds the filled ones, oldest first; the oldest stays there until its last byte is sent. -/
structure Link where
  rate    : LinkRate
  rx      : Receiver
  timer   : Option Nat
  inbox   : List Frame
  replies : List ReplyEntry
  reject  : Option Frame
  cache   : List CacheEntry
  tx      : Option Sending
deriving DecidableEq, Repr

/-- R150. -/
def Link.blank : Link where
  rate    := .baud115200
  rx      := .hunt
  timer   := none
  inbox   := []
  replies := []
  reject  := none
  cache   := []
  tx      := none

/-! ### Banks and notices -/

inductive BankId where
  | a
  | b
deriving DecidableEq, Repr

/-- The state of a bank header (R173). -/
inductive BankState where
  | erased
  | writing
  | complete
  | damaged
deriving DecidableEq, Repr

/-- A bank (R173). `agrees`: the checksum agrees with the contents as they now stand (log 22); `mark`: it did when it was last
judged (R177). -/
structure Bank where
  state    : BankState
  seq      : BitVec 32
  checksum : BitVec 16
  image    : Option Image
  agrees   : Bool
  mark     : Bool
deriving DecidableEq, Repr

/-- A bank of a part that has never saved (log 14). -/
def Bank.blank : Bank := { state := .erased, seq := 0, checksum := 0, image := none, agrees := false, mark := false }

/-- The image operation in flight (R174, R176): a save with its target, sequence and snapshot; an erase that is treating bank
A; one that is treating bank B, with how A read back. -/
inductive ImageOp where
  | none
  | save (target : BankId) (seq : BitVec 32) (params : Params) (autostart : Autostart)
  | eraseA
  | eraseB (aOk : Bool)
deriving DecidableEq, Repr

/-- The Image Unit (R173, R178). -/
structure ImageUnit where
  bankA     : Bank
  bankB     : Bank
  op        : ImageOp
  autostart : Autostart
deriving DecidableEq, Repr

def ImageUnit.blank : ImageUnit :=
  { bankA := Bank.blank, bankB := Bank.blank, op := .none, autostart := Autostart.empty }

inductive StartCause where
  | now
  | frame
  | superframe
  | sync
  | input (n : InputId)
  | relaunch
deriving DecidableEq, Repr

inductive RunEndCause where
  | limit
  | stopIndex
deriving DecidableEq, Repr

inductive TbEventKind where
  | started
  | stopped
  | paused
  | unpaused
  | commit
deriving DecidableEq, Repr

inductive LinkCause where
  | badLength
  | timeout
  | byteError
  | badCheck
deriving DecidableEq, Repr

inductive ImageResult where
  | loaded
  | none
  | damaged
deriving DecidableEq, Repr

/-- The result of an autostart entry (R180). -/
inductive AutoResult where
  | ok
  | empty
  | noList
  | lineOwned
  | footprint
  | safeActive
deriving DecidableEq, Repr

/-- The content of a notice, by its kind (R166). A list that a player record holds may be absent in its type, so it may here. -/
inductive NoticeBody where
  | ready (result : ImageResult) (bank : Option BankId) (seq : BitVec 32) (tbStarted : Bool) (entries : List AutoResult)
  | started (p : PlayerId) (list : Option ListId) (cause : StartCause)
  | stepNote (p : PlayerId) (list : Option ListId) (index pass : Nat)
  | passEnd (p : PlayerId) (list : Option ListId) (pass : Nat)
  | runEnd (p : PlayerId) (list : Option ListId) (cause : RunEndCause) (pass : Nat)
  | halted (p : PlayerId) (index : Nat) (cause : HoldCause)
  | fault (p : PlayerId) (list : Option ListId) (index : Nat) (cause : FaultCause) (dropped : Option ListId)
  | replaced (p : PlayerId) (old : Option ListId) (new : ListId) (point : CommitPoint)
  | startCancelled (p : PlayerId)
  | inputEdge (n : InputId) (level doubled : Bool)
  | safe (state : SafeState) (causes : Causes) (players : BitVec 6)
  | timebase (event : TbEventKind) (state : TbState) (mode : SyncMode) (frameLen superLen : Nat) (recorded : Option Stamp)
  | superframe
  | image (erase : Bool) (ok : Bool) (bank : Option BankId) (seq : BitVec 32)
  | link (cause : LinkCause)
deriving DecidableEq, Repr

/-- A notice record (R166). -/
structure Notice where
  body   : NoticeBody
  stamp  : Stamp
  repeats : Nat
deriving DecidableEq, Repr

/-- The Notice Queue (R168 to R171), oldest record first. -/
structure Notices where
  queue : List Notice
  muted : Bool
  gap   : Bool
  seq   : Byte
deriving DecidableEq, Repr

def Notices.blank : Notices := { queue := [], muted := false, gap := false, seq := 0 }

/-! ### Start-up -/

/-- The image result with its bank and sequence (R179). -/
structure LoadResult where
  result : ImageResult
  bank   : Option BankId
  seq    : BitVec 32
deriving DecidableEq, Repr

/-- How far a start-up has come (R179; log 42): its values are taken (step 1); the image is loaded (step 2); HOLD_IN is judged
(step 3); the Timebase has had its autostart, and the entries from P0 on have had theirs, with these results (step 4). -/
inductive BootStage where
  | values
  | loaded (load : LoadResult)
  | judged (load : LoadResult)
  | autostart (load : LoadResult) (results : List AutoResult)
deriving DecidableEq, Repr

/-- The boot state of the Command Processor (R156): BOOTING with the start-up's progress, or READY. -/
inductive Boot where
  | booting (stage : BootStage)
  | ready
deriving DecidableEq, Repr

/-! ### The whole part -/

/-- The state of the part. `fresh` is the counter of the free checksum values (log 15) and `pending` the queue of commands that
are waiting. -/
structure State where
  phase         : Phase
  boot          : Boot
  reloadPending : Bool
  store         : Store
  tb            : Timebase
  params        : Params
  players       : Vector Player 6
  lines         : Lines
  inputs        : Vector Input 8
  safe          : Safe
  link          : Link
  notices       : Notices
  image         : ImageUnit
  fresh         : Nat
  pending       : List Instr
deriving DecidableEq, Repr

/-- Why the part stops: nothing does. The spec names no event that stops it (INVENTORY.md, Faults). -/
inductive Fault where
deriving DecidableEq, Repr

/-- Why the model has no meaning for a command. -/
inductive Refusal where
  /-- Raised by an arm of the dispatch whose command has no meaning in this model; safe. -/
  | notModelled (mnemonic : String)
deriving DecidableEq, Repr

/-- The part right after a start-up reset whose effects have been applied and before its image is loaded (R179 step 1). -/
def State.reset : State where
  phase         := .live
  boot          := .booting .values
  reloadPending := false
  store         := Store.blank
  tb            := Timebase.blank
  params        := Params.default
  players       := Vector.replicate 6 Player.blank
  lines         := Lines.blank
  inputs        := Vector.replicate 8 Input.blank
  safe          := Safe.blank
  link          := Link.blank
  notices       := Notices.blank
  image         := ImageUnit.blank
  fresh         := 0
  pending       := []

end Sys2Proof.Machine
end

