-- ==== Sys2Proof/Machine/Operands.lean ====
section
/-! DEFINITION. The fields of frames: byte order (R152), check value (R153), codes and field sizes (R158, R159), the step record
(R155) and its validation (R7, R8). -/

namespace Sys2Proof.Machine

/-! ### Byte order (R152) -/

/-- Two bytes, most significant first. -/
def be16 (n : Nat) : List Byte := [BitVec.ofNat 8 (n / 256), BitVec.ofNat 8 n]

/-- Four bytes, most significant first. -/
def be32 (n : Nat) : List Byte :=
  [BitVec.ofNat 8 (n / 16777216), BitVec.ofNat 8 (n / 65536), BitVec.ofNat 8 (n / 256), BitVec.ofNat 8 n]

/-- The 16-bit value of two bytes, most significant first. -/
def word16 (hi lo : Byte) : BitVec 16 := hi ++ lo

/-- A line set or level set: OUT0 to OUT7 in the first byte (R152). -/
def lineBytes (l : LineSet) : List Byte := [l.extractLsb' 0 8, l.extractLsb' 8 8, l.extractLsb' 16 8]

/-- The line set of three bytes, the first holding OUT0 to OUT7. -/
def linesOf (b0 b1 b2 : Byte) : LineSet := b2 ++ b1 ++ b0

/-! ### The check value (R153) -/

/-- One bit of the CRC with polynomial 1021h. -/
def crcBit (c : BitVec 16) : BitVec 16 := if c.msb then (c <<< 1) ^^^ 0x1021#16 else c <<< 1

/-- One byte of the CRC, most significant bit first. -/
def crcByte (c : BitVec 16) (b : Byte) : BitVec 16 := Nat.repeat crcBit 8 (c ^^^ (b ++ 0#8))

/-- CRC-16 with initial value FFFFh, no reflection and no final inversion. -/
def crc16 (bs : List Byte) : BitVec 16 := bs.foldl crcByte 0xFFFF#16

/-- The CHECK of a frame: over the bytes from LEN to the last payload byte. -/
def frameCheck (tag kind : Byte) (payload : List Byte) : BitVec 16 :=
  crc16 (BitVec.ofNat 8 (payload.length + 2) :: tag :: kind :: payload)

/-- A frame as the part sends it, with its CHECK. -/
def mkFrame (tag kind : Byte) (payload : List Byte) : Frame :=
  { tag := tag, kind := kind, payload := payload, check := frameCheck tag kind payload }

/-- The bytes of a frame on the wire from LEN to the second check byte; SOF is before them. -/
def frameBytesAfterSof (f : Frame) : List Byte :=
  BitVec.ofNat 8 (f.payload.length + 2) :: f.tag :: f.kind ::
    (f.payload ++ [f.check.extractLsb' 8 8, f.check.extractLsb' 0 8])

/-- All bytes of a frame on the wire. -/
def frameBytes (f : Frame) : List Byte := 0xA5#8 :: frameBytesAfterSof f

/-! ### Bytes on the line (R141) -/

/-- The ten levels of a byte on LINK_RX or LINK_TX, one a bit time: the start bit low, the data bits least significant first, no
parity, the stop bit high. -/
def uartBits (b : Byte) : List Bool :=
  [false, b.getLsbD 0, b.getLsbD 1, b.getLsbD 2, b.getLsbD 3, b.getLsbD 4, b.getLsbD 5, b.getLsbD 6, b.getLsbD 7, true]

/-- One data bit of a byte. -/
def bitAt (k : Nat) (high : Bool) : Byte := if high then 1#8 <<< k else 0

/-- The byte that ten levels spell, and whether its stop bit is high; none where they do not begin with a start bit. -/
def uartByte : List Bool → Option (Byte × Bool)
  | [false, b0, b1, b2, b3, b4, b5, b6, b7, stop] =>
      some (bitAt 0 b0 ||| bitAt 1 b1 ||| bitAt 2 b2 ||| bitAt 3 b3 ||| bitAt 4 b4 ||| bitAt 5 b5 ||| bitAt 6 b6 ||| bitAt 7 b7,
        stop)
  | _ => none

/-- The levels of a frame on LINK_TX, one a bit time: its bytes back to back, with no idle time between them. -/
def frameLevels (f : Frame) : List Bool := (frameBytes f).flatMap uartBits

/-- Bits a second (R141). -/
def LinkRate.baud : LinkRate → Nat
  | .baud115200 => 115200
  | .baud460800 => 460800
  | .baud1000000 => 1000000
  | .baud2000000 => 2000000

/-! ### Statuses (R158) -/

inductive Status where
  | ok
  | applied
  | pending
  | queued
  | already
  | superseded
  | inboxFull
  | notReady
  | unknownKind
  | badLength
  | badValue
  | noSuch
  | wrongState
  | lineOwned
  | footprint
  | storeFull
  | listFull
  | invalidStep
  | inUse
  | storeBusy
  | safeActive
  | holdActive
  | busy
deriving DecidableEq, Repr

def Status.code : Status → Byte
  | .ok => 0x00
  | .applied => 0x01
  | .pending => 0x02
  | .queued => 0x03
  | .already => 0x04
  | .superseded => 0x05
  | .inboxFull => 0x20
  | .notReady => 0x21
  | .unknownKind => 0x22
  | .badLength => 0x23
  | .badValue => 0x24
  | .noSuch => 0x25
  | .wrongState => 0x26
  | .lineOwned => 0x27
  | .footprint => 0x28
  | .storeFull => 0x29
  | .listFull => 0x2A
  | .invalidStep => 0x2B
  | .inUse => 0x2C
  | .storeBusy => 0x2D
  | .safeActive => 0x2E
  | .holdActive => 0x2F
  | .busy => 0x30

/-- A reply: its status, the fields after it, and what its end does. -/
structure Reply where
  status : Status
  fields : List Byte
  effect : ReplyEffect
deriving DecidableEq, Repr

/-- A reply of a status alone. -/
def Reply.bare (st : Status) : Reply := { status := st, fields := [], effect := .plain }

/-- A reply of a status and fields. -/
def Reply.of (st : Status) (fields : List Byte) : Reply := { status := st, fields := fields, effect := .plain }

/-! ### Field codes (R159) -/

/-- A one-byte number. -/
def byteOf (n : Nat) : Byte := BitVec.ofNat 8 n

/-- A mark: 00h no, 01h yes. -/
def markByte (b : Bool) : Byte := if b then 1 else 0

/-- FFh for an absent field (R159), else its code. -/
def orAbsent {α : Type} (code : α → Byte) : Option α → Byte
  | none => 0xFF
  | some a => code a

def finByte {n : Nat} (i : Fin n) : Byte := byteOf i.val

def listByte (l : Option ListId) : Byte := orAbsent finByte l

def stopByte (i : Option Nat) : Byte := orAbsent byteOf i

def stampBytes (t : Stamp) : List Byte := be32 t.frame.toNat ++ be16 t.position

def ListState.code : ListState → Byte
  | .free => 0
  | .opened => 1
  | .sealed => 2

def PlayerState.code : PlayerState → Byte
  | .idle => 0
  | .bound => 1
  | .armed => 2
  | .running => 3
  | .held => 4
  | .faulted => 5

def Activity.code : Activity → Byte
  | .none => 0
  | .stepping => 1
  | .pulseWidth => 2
  | .edgeWait => 3
  | .alignWait => 4
  | .fitWait => 5

def HoldCause.code : HoldCause → Byte
  | .stepHold => 1
  | .haltFlag => 2
  | .safe => 3

def FaultCause.code : FaultCause → Byte
  | .waitTimeout => 1
  | .neverFits => 2
  | .edgeDoubled => 3

def StartPoint.code : StartPoint → Byte
  | .now => 0
  | .frame => 1
  | .superframe => 2
  | .sync => 3
  | .input _ => 4

/-- The input number that goes with a start point, if it has one. -/
def StartPoint.inputOf : StartPoint → Option InputId
  | .input n => some n
  | _ => none

def CommitPoint.code : CommitPoint → Byte
  | .passEnd => 0
  | .superframe => 1

def TbState.code : TbState → Byte
  | .stopped => 0
  | .awaitSync => 1
  | .running => 2
  | .paused => 3

def SafeState.code : SafeState → Byte
  | .clear => 0
  | .active => 1
  | .latched => 2

def Causes.code (c : Causes) : Byte :=
  (if c.holdLine then 1 else 0) ||| (if c.request then 2 else 0) ||| (if c.fault then 4 else 0)

def Boot.code : Boot → Byte
  | .booting _ => 0
  | .ready => 1

def BankId.code : BankId → Byte
  | .a => 0
  | .b => 1

def BankState.code : BankState → Byte
  | .erased => 0
  | .writing => 1
  | .complete => 2
  | .damaged => 3

/-- A set of players (R159): Pn in bit n. -/
def playersByte (s : BitVec 6) : Byte := s.setWidth 8

/-- The set of the players that satisfy a condition. -/
def playerSet (f : PlayerId → Bool) : BitVec 6 :=
  allPlayers.foldl (fun acc p => if f p then acc ||| (1#6 <<< p.val) else acc) 0

/-! ### Parameter codes (R160) -/

def TickSource.code : TickSource → Nat
  | .internal => 0
  | .tickIn => 1

def TickSource.ofCode : Nat → TickSource
  | 0 => .internal
  | _ => .tickIn

def SyncMode.code : SyncMode → Nat
  | .free => 0
  | .triggered => 1
  | .gated => 2
  | .aligned => 3

def SyncMode.ofCode : Nat → SyncMode
  | 0 => .free
  | 1 => .triggered
  | 2 => .gated
  | _ => .aligned

def SyncEdge.code : SyncEdge → Nat
  | .rise => 0
  | .fall => 1

def SyncEdge.ofCode : Nat → SyncEdge
  | 0 => .rise
  | _ => .fall

def SyncOutSrc.code : SyncOutSrc → Nat
  | .off => 0
  | .frame => 1
  | .superframe => 2
  | .running => 3
  | .note p => 4 + p.val

def SyncOutSrc.ofCode : Nat → SyncOutSrc
  | 0 => .off
  | 1 => .frame
  | 2 => .superframe
  | 3 => .running
  | 4 => .note 0
  | 5 => .note 1
  | 6 => .note 2
  | 7 => .note 3
  | 8 => .note 4
  | _ => .note 5

def InEdge.code : InEdge → Nat
  | .off => 0
  | .rise => 1
  | .fall => 2
  | .both => 3

def InEdge.ofCode : Nat → InEdge
  | 0 => .off
  | 1 => .rise
  | 2 => .fall
  | _ => .both

def LinkRate.code : LinkRate → Nat
  | .baud115200 => 0
  | .baud460800 => 1
  | .baud1000000 => 2
  | .baud2000000 => 3

def LinkRate.ofCode : Nat → LinkRate
  | 0 => .baud115200
  | 1 => .baud460800
  | 2 => .baud1000000
  | _ => .baud2000000

def boolCode (b : Bool) : Nat := if b then 1 else 0

/-! ### Numbers of a request -/

/-- The player a byte names; a number of 6 or above names none (R68). -/
def playerOf (b : Byte) : Option PlayerId := if h : b.toNat < 6 then some ⟨b.toNat, h⟩ else none

/-- The list a byte names; 40h and above name none (R11). -/
def listOf (b : Byte) : Option ListId := if h : b.toNat < 64 then some ⟨b.toNat, h⟩ else none

/-- The input a byte names; 8 and above name none (R126). -/
def inputOf (b : Byte) : Option InputId := if h : b.toNat < 8 then some ⟨b.toNat, h⟩ else none

/-- A stop index: FFh is NONE (R72). -/
def stopOf (b : Byte) : Option Nat := if b = 0xFF then none else some b.toNat

/-- A commit point code (R159). -/
def commitPointOf (b : Byte) : Option CommitPoint :=
  if b = 0 then some .passEnd else if b = 1 then some .superframe else none

/-- A start point with its input byte, judged as R72 orders it: an unknown start point is BAD_VALUE; with INPUT an input above
7 is NO_SUCH; with any other, an input byte other than 0 is BAD_VALUE. -/
def startPointOf (sp input : Byte) : Except Status StartPoint :=
  if sp = 4 then
    match inputOf input with
    | some n => .ok (.input n)
    | none => .error .noSuch
  else if 4 < sp then .error .badValue
  else if input ≠ 0 then .error .badValue
  else if sp = 0 then .ok .now
  else if sp = 1 then .ok .frame
  else if sp = 2 then .ok .superframe
  else .ok .sync

/-! ### The step record (R155) -/

/-- The flags byte of a step. -/
def Step.flagByte (st : Step) : Byte :=
  (if st.halt then 1 else 0) ||| (if st.note then 2 else 0) ||| (if st.fit then 4 else 0) |||
  (if st.fresh then 8 else 0) ||| (if st.strict then 16 else 0) ||| (if st.timeoutFault then 32 else 0)

/-- The high and low byte of a 16-bit count. -/
def countBytes (c : BitVec 16) : List Byte := [c.extractLsb' 8 8, c.extractLsb' 0 8]

/-- The 12 bytes of a step record. -/
def Step.record (st : Step) : List Byte :=
  match st.action with
  | .set lines levels dwell => 1 :: st.flagByte :: (lineBytes lines ++ lineBytes levels ++ countBytes dwell ++ [0, 0])
  | .pulse lines levels width dwell =>
      2 :: st.flagByte :: (lineBytes lines ++ lineBytes levels ++ countBytes width ++ countBytes dwell)
  | .waitEdge input timeout => 3 :: st.flagByte :: ([finByte input, 0, 0, 0, 0, 0] ++ countBytes timeout ++ [0, 0])
  | .align offset => 4 :: st.flagByte :: ([0, 0, 0, 0, 0, 0] ++ countBytes offset ++ [0, 0])

/-- A step's flags are those its kind takes (R7), and its fields are legal (R8 items 3, 4 and 6). -/
def Step.valid (st : Step) : Bool :=
  match st.action with
  | .set lines levels _ => !st.fresh && !st.strict && !st.timeoutFault && decide (levels &&& ~~~lines = 0)
  | .pulse lines levels width _ =>
      !st.fresh && !st.strict && !st.timeoutFault && decide (levels &&& ~~~lines = 0) && decide (lines ≠ 0) && decide (width ≠ 0)
  | .waitEdge _ timeout => !st.fit && (!st.timeoutFault || decide (timeout ≠ 0))
  | .align _ => !st.fit && !st.fresh && !st.strict && !st.timeoutFault

/-- A step with the flags of a flags byte. -/
def Step.withFlags (action : StepAction) (flags : Byte) : Step where
  action       := action
  halt         := flags.getLsbD 0
  note         := flags.getLsbD 1
  fit          := flags.getLsbD 2
  fresh        := flags.getLsbD 3
  strict       := flags.getLsbD 4
  timeoutFault := flags.getLsbD 5

/-- The action of a step record, absent when its kind or input is illegal or a place its kind does not take is not zero (R8
items 1, 5 and 7). -/
def actionOfRecord (kind : Byte) (b2 b3 b4 b5 b6 b7 b8 b9 b10 b11 : Byte) : Option StepAction :=
  let first := word16 b8 b9
  let second := word16 b10 b11
  if kind = 1 then
    if second = 0 then some (.set (linesOf b2 b3 b4) (linesOf b5 b6 b7) first) else none
  else if kind = 2 then some (.pulse (linesOf b2 b3 b4) (linesOf b5 b6 b7) first second)
  else if kind = 3 then
    match inputOf b2 with
    | some n => if b3 = 0 ∧ b4 = 0 ∧ linesOf b5 b6 b7 = 0 ∧ second = 0 then some (.waitEdge n first) else none
    | none => none
  else if kind = 4 then
    if linesOf b2 b3 b4 = 0 ∧ linesOf b5 b6 b7 = 0 ∧ second = 0 then some (.align first) else none
  else none

/-- The step that a record of 12 bytes holds, absent when it is invalid (R8). -/
def Step.ofRecord : List Byte → Option Step
  | [kind, flags, b2, b3, b4, b5, b6, b7, b8, b9, b10, b11] =>
    match actionOfRecord kind b2 b3 b4 b5 b6 b7 b8 b9 b10 b11 with
    | some action =>
      let st := Step.withFlags action flags
      if flags.getLsbD 6 = false ∧ flags.getLsbD 7 = false ∧ st.valid = true then some st else none
    | none => none
  | _ => none

/-- The step records of a LIST_APPEND payload after its list id. -/
def stepRecords : List Byte → List (List Byte)
  | b0 :: b1 :: b2 :: b3 :: b4 :: b5 :: b6 :: b7 :: b8 :: b9 :: b10 :: b11 :: rest =>
      [b0, b1, b2, b3, b4, b5, b6, b7, b8, b9, b10, b11] :: stepRecords rest
  | _ => []

/-- The steps of the records, or the number of the first invalid one (R8). -/
def stepsOf (i : Nat) : List (List Byte) → Except Nat (List Step)
  | [] => .ok []
  | r :: rs =>
    match Step.ofRecord r with
    | none => .error i
    | some st =>
      match stepsOf (i + 1) rs with
      | .ok sts => .ok (st :: sts)
      | .error k => .error k

/-- The lines a step adds to its list's footprint (R5). -/
def Step.footprint (st : Step) : LineSet :=
  match st.action with
  | .set lines _ _ => lines
  | .pulse lines _ _ _ => lines
  | .waitEdge _ _ => 0
  | .align _ => 0

/-- The ticks a step adds to its list's fixed duration (R5). For a SET or PULSE this is its need too (R58). -/
def Step.duration (st : Step) : Nat :=
  match st.action with
  | .set _ _ dwell => dwell.toNat
  | .pulse _ _ width dwell => width.toNat + dwell.toNat
  | .waitEdge _ _ => 0
  | .align _ => 0

/-- The footprint of a list of steps (R5). -/
def footprintOf (steps : List Step) : LineSet := steps.foldr (fun st acc => st.footprint ||| acc) 0

/-- The fixed duration of a list of steps (R5). -/
def durationOf (steps : List Step) : Nat := steps.foldr (fun st acc => st.duration + acc) 0

end Sys2Proof.Machine
end

