-- ==== Sys2Proof/Machine/Ops.lean ====
section
/-! DEFINITION. The operations that the blocks share: reading and writing records, use counts, logical levels, capture latches,
SYNC_OUT, notices and their queue, the transmitter, the safe record, and the order in which agents act within one event. -/

namespace Sys2Proof.Machine

/-! ### Records -/

def State.player (s : State) (p : PlayerId) : Player := s.players[p.val]

def State.setPlayer (s : State) (p : PlayerId) (r : Player) : State := { s with players := s.players.set p.val r }

def State.list (s : State) (l : ListId) : ListRec := s.store.lists[l.val]

def State.setList (s : State) (l : ListId) (r : ListRec) : State :=
  { s with store := { s.store with lists := s.store.lists.set l.val r } }

def State.input (s : State) (n : InputId) : Input := s.inputs[n.val]

def State.setInput (s : State) (n : InputId) (r : Input) : State := { s with inputs := s.inputs.set n.val r }

/-- The Timebase's stamp (R29). -/
def State.stamp (s : State) : Stamp := { frame := s.tb.number, position := s.tb.position }

/-- The Timebase is RUNNING. -/
def State.ticking (s : State) : Bool := decide (s.tb.state = .running)

/-- The safe state is CLEAR. -/
def State.safeClear (s : State) : Bool := decide (s.safe.state = .clear)

/-- The ids of all list records, lowest first. -/
def allLists : List ListId := List.ofFn id

/-- The lines, lowest first. -/
def allLines : List LineId := List.ofFn id

/-- The owner of a line (R105). -/
def State.owner (s : State) (l : LineId) : Option PlayerId := s.lines.owners[l.val]

/-! ### Use counts (R9) -/

def State.useUp (s : State) (l : ListId) : State :=
  s.setList l { s.list l with useCount := (s.list l).useCount + 1 }

def State.useDown (s : State) (l : ListId) : State :=
  s.setList l { s.list l with useCount := (s.list l).useCount - 1 }

/-- The use count of a list falls by 1 where there is a list. -/
def State.useDownOpt (s : State) (l : Option ListId) : State :=
  match l with
  | some l => s.useDown l
  | none => s

/-! ### Lines (R106, R110, R111) -/

/-- Each line of `lines` takes its level of `levels` as its logical level. -/
def State.writeLines (s : State) (lines levels : LineSet) : State :=
  { s with lines := { s.lines with logical := (s.lines.logical &&& ~~~lines) ||| (levels &&& lines) } }

/-- Each line of `lines` takes its idle level (R109). -/
def State.idleLines (s : State) (lines : LineSet) : State := s.writeLines lines s.params.lineIdle

/-- The presented levels (R111). -/
def State.presented (s : State) : LineSet := if s.safeClear then s.lines.logical else s.params.lineSafe

/-- The levels that the OUT pins drive: 0 while RESET_N or power-on holds them (R116), else the presented levels. -/
def State.outPins (s : State) : LineSet :=
  match s.phase with
  | .live => s.presented
  | _ => 0

/-- The level of SAFE_OUT: high while the reset holds it (R140), else high while the safe state is not CLEAR (R129). -/
def State.safeOut (s : State) : Bool :=
  match s.phase with
  | .live => !s.safeClear
  | _ => true

/-- The lowest-numbered owned line of a set and its owner (R107, R114). -/
def State.firstOwned (s : State) (lines : LineSet) : Option (LineId × PlayerId) :=
  allLines.findSome? fun l =>
    if lines.getLsbD l.val then (s.owner l).map fun p => (l, p) else none

/-- The player becomes owner of every line of the set (R107). -/
def State.claimLines (s : State) (p : PlayerId) (lines : LineSet) : State :=
  { s with lines := { s.lines with
      owners := Vector.ofFn fun i => if lines.getLsbD i.val then some p else s.lines.owners[i.val] } }

/-- Every line that the player owns has no owner (R108). -/
def State.releaseLines (s : State) (p : PlayerId) : State :=
  { s with lines := { s.lines with
      owners := Vector.ofFn fun i => if s.lines.owners[i.val] = some p then none else s.lines.owners[i.val] } }

/-- The footprint lies within the lines (R70, R92). -/
def within (footprint lines : LineSet) : Bool := decide (footprint &&& ~~~lines = 0)

/-! ### Capture latches (R121) -/

/-- The latch's pending and doubled marks are cleared together; stamp and level are kept (R118). -/
def State.clearLatch (s : State) (n : InputId) : State :=
  s.setInput n { s.input n with pending := false, doubled := false }

/-! ### SYNC_OUT (R41) -/

/-- SYNC_OUT goes high. Raised while the Timebase is not RUNNING, it falls after one microsecond. -/
def State.raiseSyncOut (s : State) : State :=
  { s with tb := { s.tb with syncOut := true, syncHold := !s.ticking } }

/-- SYNC_OUT goes low. -/
def State.lowerSyncOut (s : State) : State := { s with tb := { s.tb with syncOut := false, syncHold := false } }

/-- SYNC_OUT goes high if its source is the one given. -/
def State.raiseIf (s : State) (src : SyncOutSrc) : State :=
  if s.params.syncOutSrc = src then s.raiseSyncOut else s

/-- A high level that lasts until the next tick falls at that tick. -/
def State.syncOutAtTick (s : State) : State :=
  match s.params.syncOutSrc with
  | .frame | .superframe | .note _ => s.lowerSyncOut
  | .off | .running => s

/-! ### Notices (R166 to R169) -/

/-- The code of a notice's kind less 70h, which is the number of its bit in NOTICE_MASK. -/
def NoticeBody.number : NoticeBody → Nat
  | .ready .. => 0
  | .started .. => 1
  | .stepNote .. => 2
  | .passEnd .. => 3
  | .runEnd .. => 4
  | .halted .. => 5
  | .fault .. => 6
  | .replaced .. => 7
  | .startCancelled .. => 8
  | .inputEdge .. => 9
  | .safe .. => 10
  | .timebase .. => 11
  | .superframe => 12
  | .image .. => 13
  | .link .. => 14

/-- What a notice is about (R166). -/
inductive Subject where
  | nothing
  | player (p : PlayerId)
  | input (n : InputId)
deriving DecidableEq, Repr

def NoticeBody.subject : NoticeBody → Subject
  | .started p .. | .stepNote p .. | .passEnd p .. | .runEnd p .. | .halted p .. | .fault p .. | .replaced p ..
  | .startCancelled p => .player p
  | .inputEdge n .. => .input n
  | .ready .. | .safe .. | .timebase .. | .superframe | .image .. | .link .. => .nothing

/-- Two notices are of the same kind about the same subject (R169). -/
def NoticeBody.merges (a b : NoticeBody) : Bool := decide (a.number = b.number) && decide (a.subject = b.subject)

/-- The newest record of the new notice's kind and subject takes it: its fields, its stamp, and one repetition more, staying
at 255. Absent when there is no such record (R169). -/
def mergeNewest (body : NoticeBody) (stamp : Stamp) : List Notice → Option (List Notice)
  | [] => none
  | n :: rest =>
    match mergeNewest body stamp rest with
    | some rest' => some (n :: rest')
    | none =>
      if n.body.merges body then
        some ({ body := body, stamp := stamp, repeats := min (n.repeats + 1) 255 } :: rest)
      else none

/-- The records that a production finds the queue full at: 31 while BOOTING for any kind but READY, else 32 (R168). -/
def State.noticeRoom (s : State) (body : NoticeBody) : Nat :=
  if s.boot ≠ .ready ∧ body.number ≠ 0 then Config.noticeSize - 1 else Config.noticeSize

/-- NOTICE_MASK admits the kind; READY is produced whatever bit 0 holds (R167). -/
def State.admits (s : State) (body : NoticeBody) : Bool := decide (body.number = 0) || s.params.noticeMask.getLsbD body.number

/-- A block produces a notice: masked, appended, merged or discarded (R166 to R169). -/
def State.produce (s : State) (body : NoticeBody) : State :=
  if s.admits body then
    if s.notices.queue.length < s.noticeRoom body then
      { s with notices := { s.notices with
          queue := s.notices.queue ++ [{ body := body, stamp := s.stamp, repeats := 1 }] } }
    else
      match mergeNewest body s.stamp s.notices.queue with
      | some queue => { s with notices := { s.notices with queue := queue } }
      | none => { s with notices := { s.notices with gap := true } }
  else s

/-! ### The fields of a notice frame (R154, R166) -/

def StartCause.code : StartCause → Byte
  | .now => 0
  | .frame => 1
  | .superframe => 2
  | .sync => 3
  | .input _ => 4
  | .relaunch => 5

def StartCause.inputOf : StartCause → Option InputId
  | .input n => some n
  | _ => none

def RunEndCause.code : RunEndCause → Byte
  | .limit => 0
  | .stopIndex => 1

def TbEventKind.code : TbEventKind → Byte
  | .started => 0
  | .stopped => 1
  | .paused => 2
  | .unpaused => 3
  | .commit => 4

def LinkCause.code : LinkCause → Byte
  | .badLength => 0
  | .timeout => 1
  | .byteError => 2
  | .badCheck => 3

def ImageResult.code : ImageResult → Byte
  | .loaded => 0
  | .none => 1
  | .damaged => 2

def AutoResult.code : AutoResult → Byte
  | .ok => 0
  | .empty => 1
  | .noList => 2
  | .lineOwned => 3
  | .footprint => 4
  | .safeActive => 5

/-- The fields of a notice after its header (R166). -/
def NoticeBody.fields : NoticeBody → List Byte
  | .ready result bank seq tbStarted entries =>
      [result.code, orAbsent BankId.code bank] ++ be32 seq.toNat ++ [markByte tbStarted] ++ entries.map AutoResult.code
  | .started p l cause => [finByte p, listByte l, cause.code, orAbsent finByte cause.inputOf]
  | .stepNote p l index pass => [finByte p, listByte l, byteOf index, byteOf pass]
  | .passEnd p l pass => [finByte p, listByte l, byteOf pass]
  | .runEnd p l cause pass => [finByte p, listByte l, cause.code, byteOf pass]
  | .halted p index cause => [finByte p, byteOf index, cause.code]
  | .fault p l index cause dropped =>
      [finByte p, listByte l, byteOf index, cause.code, markByte dropped.isSome, listByte dropped]
  | .replaced p old new point => [finByte p, listByte old, finByte new, point.code]
  | .startCancelled p => [finByte p, 0]
  | .inputEdge n level doubled => [finByte n, markByte level, markByte doubled]
  | .safe state causes players => [state.code, causes.code, playersByte players]
  | .timebase event state mode frameLen superLen recorded =>
      [event.code, state.code, byteOf mode.code] ++ be16 frameLen ++ be16 superLen ++
        (match recorded with
          | some t => stampBytes t
          | none => [0, 0, 0, 0, 0, 0])
  | .superframe => []
  | .image erase ok bank seq =>
      [markByte erase, markByte (!ok), orAbsent BankId.code bank] ++ be32 seq.toNat
  | .link cause => [cause.code]

/-- The payload of a notice frame: the 8-byte header, then the fields (R154). -/
def Notice.payload (n : Notice) (gap : Bool) : List Byte :=
  [markByte gap, byteOf n.repeats] ++ stampBytes n.stamp ++ n.body.fields

/-- The frame of the front record, with the notice sequence as its tag (R170). -/
def noticeFrame (n : Notice) (gap : Bool) (seq : Byte) : Frame :=
  mkFrame seq (0x70 + BitVec.ofNat 8 n.body.number) (n.payload gap)

/-! ### The transmitter (R149, R170) -/

/-- A free transmitter begins the first of these that is ready: the oldest filled reply, the reject, the oldest notice unless
muted. The oldest reply stays in its entry until its last byte is sent; a reject and a notice leave at once. -/
def State.transmit (s : State) : State :=
  match s.phase, s.link.tx with
  | .live, none =>
    match s.link.replies with
    | r :: _ => { s with link := { s.link with tx := some { source := .reply, frame := r.frame } } }
    | [] =>
      match s.link.reject with
      | some f => { s with link := { s.link with reject := none, tx := some { source := .reject, frame := f } } }
      | none =>
        match s.notices.muted, s.notices.queue with
        | false, n :: rest =>
          { s with
            link := { s.link with
              tx := some { source := .notice, frame := noticeFrame n s.notices.gap s.notices.seq } }
            notices := { s.notices with queue := rest, gap := false, seq := s.notices.seq + 1 } }
        | _, _ => s
  | _, _ => s

/-- The level of LINK_TX in the k-th bit time of the frame being sent: high when nothing is sent, after the frame, and while the part
is held (R141, R150); a part without supply is read so too (log 31). -/
def State.linkTx (s : State) (k : Nat) : Bool :=
  match s.phase, s.link.tx with
  | .live, some t => (frameLevels t.frame)[k]?.getD true
  | _, _ => true

/-! ### The order of agents within an event (log 3) -/

/-- The agents as they stand when the command names none: the players by number, the Safe Unit, the SUPERFRAME notice. -/
def usualActors : List Actor :=
  [.player 0, .player 1, .player 2, .player 3, .player 4, .player 5, .safeUnit, .superframeNotice]

/-- One agent more at the end, unless it stands there already. -/
def addActor (acc : List Actor) (a : Actor) : List Actor := if a ∈ acc then acc else acc ++ [a]

/-- All agents, each once: those the order names first, then the others. -/
def actorsOf (o : Order) : List Actor := (o.first ++ usualActors).foldl addActor []

/-- The player an agent is, if it is one. -/
def actorPlayer : Actor → Option PlayerId
  | .player p => some p
  | .safeUnit => none
  | .superframeNotice => none

/-- The players in the order in which they act. -/
def playersOf (o : Order) : List PlayerId := (actorsOf o).filterMap actorPlayer

/-! ### The safe record (R129, R133) -/

/-- The Safe Unit's notice of its state, cause set and fault players (R129). -/
def State.safeNotice (s : State) : State := s.produce (.safe s.safe.state s.safe.causes s.safe.faultPlayers)

/-- A new state and cause set, stamped as the last change, with its SAFE notice. -/
def State.changeSafe (s : State) (state : SafeState) (causes : Causes) (players : BitVec 6) : State :=
  ({ s with safe := { s.safe with state := state, causes := causes, faultPlayers := players, lastChange := s.stamp } }).safeNotice

/-- A faulting player tells the Safe Unit (R132). In CLEAR this is an entry; the freeze of R133 follows by `reachPlayers`. -/
def State.escalate (s : State) (p : PlayerId) : State :=
  let players := s.safe.faultPlayers ||| (1#6 <<< p.val)
  if s.safeClear then
    s.changeSafe .latched { Causes.empty with fault := true } (1#6 <<< p.val)
  else if s.safe.causes.fault then
    if players = s.safe.faultPlayers then s
    else ({ s with safe := { s.safe with faultPlayers := players } }).safeNotice
  else s.changeSafe s.safe.state { s.safe.causes with fault := true } players

/-- An event owed to a player that an entry has reached is lost on it, but for a superframe start's commit (R133, R134). -/
def Owed.lose (w : Owed) : Owed := { w with lost := true }

/-- A safe entry reaches a player (R133): a RUNNING one is frozen as it stands, a tick that has not reached it is lost on it
(R134), and an ARMED one returns to BOUND with a START_CANCELLED notice. -/
def State.enterPlayer (s : State) (p : PlayerId) : State :=
  let r := s.player p
  match r.state with
  | .running =>
    s.setPlayer p { r with state := .held, holdCause := some .safe, due := false, owed := r.owed.map Owed.lose }
  | .armed =>
    (s.setPlayer p { r with state := .bound, startPoint := none, owed := r.owed.map Owed.lose }).produce (.startCancelled p)
  | .idle | .bound | .held | .faulted => s

/-- While the safe state is not CLEAR, the entry reaches the players of the list that are not exempt. -/
def State.reachPlayers (s : State) (players exempt : List PlayerId) : State :=
  if s.safeClear then s
  else players.foldl (fun s p => if p ∈ exempt then s else s.enterPlayer p) s

/-- The agents act one after another. After each, a safe entry that it made reaches the players, except those that the order
lets act first (R132, R137; log 6). -/
def runActors (o : Order) (act : Actor → State → State) : List Actor → State → State
  | [], s => s
  | a :: rest, s =>
    let exempt := (rest.filterMap actorPlayer).filter fun p => decide (p ∈ o.late)
    runActors o act rest ((act a s).reachPlayers (playersOf o) exempt)

/-- The players act one after another. -/
def eachPlayer (o : Order) (act : PlayerId → State → State) (s : State) : State :=
  runActors o
    (fun a s =>
      match a with
      | .player p => act p s
      | .safeUnit | .superframeNotice => s)
    (actorsOf o) s

end Sys2Proof.Machine
end

