-- ==== Sys2Proof/Machine/Steps.lean ====
section
/-! DEFINITION. The step in flight: admission, begin, the frame-fit guard, faults, the step-end resolution, the chain of steps that
need no time, and the begin of a run (R47 to R66, R76, R84 to R89, R95 to R99). -/

namespace Sys2Proof.Machine

/-- The step at the player's step index in its bound list (R47). -/
def State.currentStep (s : State) (p : PlayerId) : Option Step :=
  match (s.player p).boundList with
  | some l => (s.list l).steps[(s.player p).index]?
  | none => none

/-- The player rests on its step in an activity with a remaining count (R48). -/
def State.rest (s : State) (p : PlayerId) (activity : Activity) (remaining : Nat) : State :=
  s.setPlayer p { s.player p with activity := activity, remaining := remaining, deferred := false, due := false }

/-- What an admission comes to: the player rests (on a phase, a wait, a deferral or a fault), or the step has ended. -/
inductive Admission where
  | rests
  | ended (st : Step)
deriving DecidableEq, Repr

/-! ### Replacements (R91, R95, R99) -/

/-- The list of a pending replacement. -/
def Player.pendingList (r : Player) : Option ListId := r.replacement.map Prod.fst

/-- The pending replacement commits in the record (R95, R96): the new list is bound and its reservation becomes its binding, the
old list's use count falls, index and pass count become 0, no relaunch is queued, and a REPLACED notice is produced (R99). -/
def State.commitRecord (s : State) (p : PlayerId) (new : ListId) (point : CommitPoint) : State :=
  let r := s.player p
  ((s.setPlayer p { r with
      boundList := some new, replacement := none, index := 0, passCount := 0, relaunch := false }).useDownOpt r.boundList).produce
    (.replaced p r.boundList new point)

/-- A pending replacement with commit point PASS_END commits (R95); any other waits. -/
def State.commitAtPassEnd (s : State) (p : PlayerId) : State :=
  match (s.player p).replacement with
  | some (new, .passEnd) => s.commitRecord p new .passEnd
  | _ => s

/-! ### Faults (R89) -/

/-- The player goes to FAULTED on its current step: lines to idle, flags cleared, remaining ticks 0 (log 35), a pending replacement
dropped, a FAULT notice, and the Safe Unit told if FAULT_TO_SAFE is set. -/
def State.faultPlayer (s : State) (p : PlayerId) (cause : FaultCause) : State :=
  let r := s.player p
  let s1 := s.setPlayer p { r with
    state := .faulted, faultCause := some cause, activity := .none, remaining := 0, relaunch := false, holdPending := false,
    replacement := none, deferred := false, due := false, owed := none }
  let s2 := (s1.idleLines r.claimed).useDownOpt r.pendingList
  let s3 := s2.produce (.fault p r.boundList r.index cause r.pendingList)
  if s3.params.faultToSafe then s3.escalate p else s3

/-! ### Begin (R51 to R56, R64) -/

/-- The note of a step that begins (R64): a STEP_NOTE notice, and SYNC_OUT raised if its source is NOTE of this player. -/
def State.noteBegin (s : State) (p : PlayerId) (st : Step) : State :=
  if st.note then
    let r := s.player p
    (s.produce (.stepNote p r.boundList r.index r.passCount)).raiseIf (.note p)
  else s

/-- The begin of a WAIT_EDGE, which is its admission (R53). -/
def State.beginWait (s : State) (p : PlayerId) (st : Step) (n : InputId) (timeout : BitVec 16) : State × Admission :=
  let latch := s.input n
  if latch.pending then
    if st.fresh then ((s.clearLatch n).rest p .edgeWait timeout.toNat, .rests)
    else if st.strict && latch.doubled then ((s.clearLatch n).faultPlayer p .edgeDoubled, .rests)
    else (s.clearLatch n, .ended st)
  else (s.rest p .edgeWait timeout.toNat, .rests)

/-- The Timebase is RUNNING at the position (R56). -/
def State.alignedAt (s : State) (offset : BitVec 16) : Bool := s.ticking && decide (s.tb.position = offset.toNat)

/-- The step begins: its action takes effect (R51 to R53, R56, R64). -/
def State.beginStep (s : State) (p : PlayerId) (st : Step) : State × Admission :=
  let s := s.noteBegin p st
  match st.action with
  | .set lines levels dwell =>
    let s := s.writeLines lines levels
    if dwell = 0 then (s, .ended st) else (s.rest p .stepping dwell.toNat, .rests)
  | .pulse lines levels width _ => ((s.writeLines lines levels).rest p .pulseWidth width.toNat, .rests)
  | .waitEdge n timeout => s.beginWait p st n timeout
  | .align offset => if s.alignedAt offset then (s, .ended st) else (s.rest p .alignWait 0, .rests)

/-! ### The frame-fit guard (R58 to R60) -/

/-- The step carries FIT and is of a kind that takes it (R7). -/
def Step.guarded (st : Step) : Bool :=
  match st.action with
  | .set .. | .pulse .. => st.fit
  | .waitEdge .. | .align .. => false

/-- The guard's judgement. -/
inductive Fit where
  | never
  | fits
  | defers
deriving DecidableEq, Repr

/-- R58 and R59: the need plus FIT_MARGIN against FRAME_LEN, then against the room left in a RUNNING frame. -/
def State.judgeFit (s : State) (st : Step) : Fit :=
  let need := st.duration + s.params.fitMargin
  if s.params.frameLen < need then .never
  else if s.ticking && decide (need ≤ s.params.frameLen - s.tb.position) then .fits
  else .defers

/-- The admission of the step at the player's index: a guarded step is judged, any other begins (R47, R58, R59). -/
def State.admitStep (s : State) (p : PlayerId) : State × Admission :=
  match s.currentStep p with
  | none => (s, .rests)
  | some st =>
    if st.guarded then
      match s.judgeFit st with
      | .never => (s.faultPlayer p .neverFits, .rests)
      | .fits => s.beginStep p st
      | .defers => (s.rest p .fitWait 0, .rests)
    else s.beginStep p st

/-- The admission of the step at the player's index under the one-pass-per-tick rule (R87): step 0 begins a pass, and is
deferred if one has begun in this tick. A resume begins a pass at index 0 alone (R80), so after one at another index a commit's
step 0 begins in the same tick (R100's last sentence; log 39). -/
def State.admitNext (s : State) (p : PlayerId) : State × Admission :=
  let r := s.player p
  if r.index = 0 then
    if r.passBegun then
      (s.setPlayer p { r with activity := .stepping, remaining := 0, deferred := true, due := false }, .rests)
    else (s.setPlayer p { r with passBegun := true, deferred := false }).admitStep p
  else s.admitStep p

/-! ### The step-end resolution (R84 to R86) -/

/-- The run ends at its stop index or limit (R84, R85): BOUND, no step in flight, levels kept. The remaining ticks of a player with
no step in flight are 0 (log 35). -/
def State.endRun (s : State) (p : PlayerId) (cause : RunEndCause) : State :=
  let r := s.player p
  (s.setPlayer p { r with
      state := .bound, index := 0, activity := .none, remaining := 0, relaunch := false, holdPending := false,
      deferred := false, due := false }).produce
    (.runEnd p r.boundList cause r.passCount)

/-- The hold question (R86), asked with the player's index at the next position: a completed HALT or a pending hold holds it
there, with no step in flight and so no remaining ticks (log 35). The answer says whether the step there is admitted. -/
def State.holdQuestion (s : State) (p : PlayerId) (st : Step) : State × Bool :=
  let r := s.player p
  if st.halt || r.holdPending then
    let cause := if st.halt then HoldCause.haltFlag else HoldCause.stepHold
    ((s.setPlayer p { r with
        state := .held, holdCause := some cause, holdPending := false, activity := .none, remaining := 0,
        deferred := false, due := false }).produce (.halted p r.index cause), false)
  else (s, true)

/-- The pass count after one pass more: it wraps from 255 to 0 (R85). -/
def nextPass (n : Nat) : Nat := (n + 1) % 256

/-- The end of a pass (R85): the PASS_END notice, the raised count, then the first case that applies. -/
def State.passEnd (s : State) (p : PlayerId) (st : Step) : State × Bool :=
  let r := s.player p
  let count := nextPass r.passCount
  let s1 := (s.produce (.passEnd p r.boundList count)).setPlayer p { r with passCount := count }
  match r.replacement with
  | some (new, .passEnd) => (s1.commitRecord p new .passEnd).holdQuestion p st
  | _ =>
    if r.relaunch then
      ((s1.setPlayer p { r with relaunch := false, index := 0, passCount := 0 }).produce
        (.started p r.boundList .relaunch)).holdQuestion p st
    else if r.passLimit = 0 ∨ count < r.passLimit then
      (s1.setPlayer p { r with passCount := count, index := 0 }).holdQuestion p st
    else (s1.endRun p .limit, false)

/-- The number of steps of the player's bound list. -/
def State.boundCount (s : State) (p : PlayerId) : Nat :=
  match (s.player p).boundList with
  | some l => (s.list l).steps.length
  | none => 0

/-- The step-end resolution of a completed step (R84 to R86): the stop index, the pass end, the hold. The answer says whether the
step at the player's index is admitted next. -/
def State.resolve (s : State) (p : PlayerId) (st : Step) : State × Bool :=
  let r := s.player p
  if r.stopIndex = some r.index then ((s.endRun p .stopIndex).commitAtPassEnd p, false)
  else if s.boundCount p ≤ r.index + 1 then s.passEnd p st
  else (s.setPlayer p { r with index := r.index + 1 }).holdQuestion p st

/-- The chain of admissions within one event (R50): each step that ends at its admission runs the resolution, which may bring in
the next. -/
def chain (fuel : Nat) (p : PlayerId) (s : State) : State :=
  match fuel with
  | 0 => s
  | fuel + 1 =>
    match s.admitNext p with
    | (s1, .rests) => s1
    | (s1, .ended st) =>
      match s1.resolve p st with
      | (s2, true) => chain fuel p s2
      | (s2, false) => s2

/-- The player admits the step at its index, and the chain that follows runs through. -/
def State.admitChain (s : State) (p : PlayerId) : State := chain Config.chainFuel p s

/-- The player's current step ends (R47): the resolution runs, and what it admits runs through. -/
def State.endStep (s : State) (p : PlayerId) (st : Step) : State :=
  match s.resolve p st with
  | (s1, true) => s1.admitChain p
  | (s1, false) => s1

/-- The admission's result within an event that has no chain yet: an ended step runs the resolution. -/
def State.follow (a : State × Admission) (p : PlayerId) : State :=
  match a with
  | (s, .rests) => s
  | (s, .ended st) => s.endStep p st

/-- A run begins (R76). -/
def State.beginRun (s : State) (p : PlayerId) (cause : StartCause) : State :=
  let r := s.player p
  ((s.setPlayer p { r with
      state := .running, startPoint := none, index := 0, passCount := 0, relaunch := false, deferred := false, due := false }).produce
    (.started p r.boundList cause)).admitChain p

/-! ### Phases that end (R49, R51, R52, R55) -/

/-- The levels of a PULSE's trailing edge: the opposite of those given at its begin (R52). -/
def State.trailingEdge (s : State) (st : Step) : State :=
  match st.action with
  | .pulse lines levels _ _ => s.writeLines lines (~~~levels)
  | .set .. | .waitEdge .. | .align .. => s

/-- A WAIT_EDGE whose timeout count has reached 0 (R55). -/
def State.expire (s : State) (p : PlayerId) (st : Step) : State :=
  if st.timeoutFault then s.faultPlayer p .waitTimeout else s.endStep p st

/-- The tick that is due reaches the player: its count reaches 0 and the phase ends (R49). A PULSE whose dwell is 0 ends at the
tick of its trailing edge (R52). -/
def State.phaseEnd (s : State) (p : PlayerId) : State :=
  let r := s.player p
  match r.due, r.state, s.currentStep p with
  | true, .running, some st =>
    let s1 := s.setPlayer p { r with remaining := 0, due := false }
    match r.activity, st.action with
    | .stepping, _ => s1.endStep p st
    | .pulseWidth, .pulse _ _ _ dwell =>
      let s2 := s1.trailingEdge st
      if dwell = 0 then s2.endStep p st else s2.rest p .stepping dwell.toNat
    | .edgeWait, _ => s1.expire p st
    | _, _ => s1
  | _, _, _ => s

/-! ### Commit at a superframe start (R96 to R98) -/

/-- The step in flight is abandoned or discarded without ending: a PULSE in its width phase writes its trailing levels (R97, R98). -/
def State.abandonStep (s : State) (p : PlayerId) : State :=
  let r := s.player p
  let s1 :=
    match r.activity, s.currentStep p with
    | .pulseWidth, some st => s.trailingEdge st
    | _, _ => s
  s1.setPlayer p { r with activity := .none, remaining := 0, deferred := false, due := false }

/-- The player holds a replacement that a superframe start commits. -/
def Player.commitsSuper (r : Player) : Bool :=
  match r.replacement with
  | some (_, .superframe) => true
  | _ => false

/-- A pending SUPERFRAME replacement commits (R96): a RUNNING player abandons its step and admits step 0 of the new list (R97), a
HELD one is repositioned at it (R98), a BOUND or ARMED one has its list swapped. -/
def State.commitSuper (s : State) (p : PlayerId) : State :=
  match (s.player p).replacement with
  | some (new, .superframe) =>
    let s1 := (s.abandonStep p).commitRecord p new .superframe
    match (s.player p).state with
    | .running => s1.admitChain p
    | .idle | .bound | .armed | .held | .faulted => s1
  | _ => s

/-! ### Resume (R80, R138) -/

/-- The player consumes the latch of its frozen WAIT_EDGE at the resume (R124), or becomes a consumer again. -/
def State.resumeWait (s : State) (p : PlayerId) (st : Step) (n : InputId) : State :=
  let latch := s.input n
  if latch.pending then
    if st.strict && latch.doubled then (s.clearLatch n).faultPlayer p .edgeDoubled
    else (s.clearLatch n).endStep p st
  else s

/-- A HELD player returns to RUNNING: one with no step in flight admits the step at its index, a frozen one goes on with its step
(R80, R98, R138). -/
def State.resumePlayer (s : State) (p : PlayerId) : State :=
  let r := s.player p
  let s1 := s.setPlayer p { r with state := .running, holdCause := none }
  match r.activity, s1.currentStep p with
  | .none, _ => s1.admitChain p
  | .edgeWait, some st =>
    match st.action with
    | .waitEdge n _ => s1.resumeWait p st n
    | .set .. | .pulse .. | .align .. => s1
  | .alignWait, some st =>
    match st.action with
    | .align offset => if s1.alignedAt offset then s1.endStep p st else s1
    | .set .. | .pulse .. | .waitEdge .. => s1
  | _, _ => s1

end Sys2Proof.Machine
end

