-- ==== Sys2Proof/Machine/SafeUnit.lean ====
section
/-! DEFINITION. Entering and leaving the safe state, the judgement of HOLD_IN, and how an event that is not the Timebase's ends
(R101, R130 to R138). -/

namespace Sys2Proof.Machine

/-- The event of a command is over for the players: a safe entry that it made reaches them (R133). -/
def State.settle (s : State) (o : Order) : State := s.reachPlayers (playersOf o) []

/-- An entry from CLEAR (R133), or a change of an existing safe state: the record and the SAFE notice, then the players. -/
def State.enterSafe (s : State) (o : Order) (state : SafeState) (causes : Causes) : State :=
  (s.changeSafe state causes s.safe.faultPlayers).reachPlayers (playersOf o) []

/-- A new judgement of hold active (R130). -/
def State.judgeHold (s : State) (o : Order) (active : Bool) : State :=
  if active = s.safe.holdActive then s
  else
    let s1 := { s with safe := { s.safe with holdActive := active } }
    if active then
      match s.safe.state with
      | .clear => s1.enterSafe o .active { Causes.empty with holdLine := true }
      | .latched => s1.changeSafe .active { s.safe.causes with holdLine := true } s.safe.faultPlayers
      | .active => s1
    else
      match s.safe.state with
      | .active => s1.changeSafe .latched s.safe.causes s.safe.faultPlayers
      | .clear | .latched => s1

/-- The player is HELD by SAFE. -/
def Player.heldSafe (r : Player) : Bool := decide (r.state = .held) && decide (r.holdCause = some .safe)

/-- A player HELD by SAFE is resumed at a release under AUTO_RESUME (R137): not if a new entry made within the event reached it
first. At a superframe start that commits its replacement, the resume admits nothing, ends nothing and leaves every latch as it is, and the
commit is made at once: the player is RUNNING at step 0 of the new list whichever acts first (R97, R101; log 41), and the start is not
owed to it any more (R96). -/
def State.autoResume (s : State) (o : Order) (super : Bool) (p : PlayerId) : State :=
  let r := s.player p
  if r.heldSafe && (s.safeClear || decide (p ∈ o.late)) then
    if super && r.commitsSuper then
      (s.setPlayer p { r with state := .running, holdCause := none, owed := none }).commitSuper p
    else s.resumePlayer p
  else s

/-- The release to CLEAR (R137); `super` says that it is the automatic one at a superframe start. -/
def State.releaseSafe (s : State) (o : Order) (super : Bool) : State :=
  let s1 := s.changeSafe .clear Causes.empty 0
  if s1.params.autoResume then eachPlayer o (fun p s => s.autoResume o super p) s1 else s1

/-- The automatic release at a superframe start (R136). -/
def State.autoRelease (s : State) (o : Order) : State :=
  if s.params.autoRelease && decide (s.safe.state = .latched) &&
      decide (s.safe.causes = { Causes.empty with holdLine := true }) then s.releaseSafe o true
  else s

end Sys2Proof.Machine
end

