-- ==== Sys2Proof/Machine/TimebaseOps.lean ====
section
/-! DEFINITION. The Timebase: frame starts, staged commits, what a tick, a frame start or a SYNC_IN edge does to the players, and
starting and stopping (R23 to R46, R49, R56, R57, R60, R75, R96). -/

namespace Sys2Proof.Machine

/-! ### Notices and SYNC_OUT of the Timebase (R41, R43) -/

def State.tbNotice (s : State) (event : TbEventKind) (recorded : Option Stamp) : State :=
  s.produce (.timebase event s.tb.state s.params.syncMode s.params.frameLen s.params.superLen recorded)

/-- The Timebase takes a state, and SYNC_OUT follows it: under RUNNING it goes high as the state becomes RUNNING, and a high level
falls as the state leaves RUNNING (R41). -/
def State.setTbState (s : State) (state : TbState) : State :=
  let s1 := { s with tb := { s.tb with state := state } }
  if state = .running then
    if s.params.syncOutSrc = .running then { s1 with tb := { s1.tb with syncOut := true, syncHold := false } } else s1
  else if s.tb.state = .running then s1.lowerSyncOut
  else s1

/-! ### Frame starts (R28, R39) -/

/-- At a superframe start the pending staged values become the values in force together (R39). -/
def State.commitStaged (s : State) : State :=
  { s with
    params := { s.params with
      frameLen := s.tb.pendFrameLen.getD s.params.frameLen
      superLen := s.tb.pendSuperLen.getD s.params.superLen }
    tb := { s.tb with pendFrameLen := none, pendSuperLen := none } }

/-- The COMMIT notice, if the commit changed a value in force (R39; log 19). -/
def State.commitNotice (s before : State) : State :=
  if s.params.frameLen = before.params.frameLen ∧ s.params.superLen = before.params.superLen then s
  else s.tbNotice .commit none

/-- The count of a frame start (R28): position 0, the next frame number, the index given, and with index 0 the staged commit. -/
def State.countFrame (s : State) (index : Nat) : State :=
  let s1 := { s with tb := { s.tb with position := 0, number := s.tb.number + 1, index := index } }
  if index = 0 then s1.commitStaged else s1

/-- SYNC_OUT at a frame start (R41). -/
def State.syncOutAtFrame (s : State) (super : Bool) : State :=
  match s.params.syncOutSrc with
  | .frame => s.raiseSyncOut
  | .superframe => if super then s.raiseSyncOut else s
  | .off | .running | .note _ => s

/-! ### What reaches a player -/

/-- The cause of the run that the event begins for a player armed on the start point, if it begins one (R75). -/
def TbEvent.starts (ev : TbEvent) : StartPoint → Option StartCause
  | .frame => if ev.frame then some .frame else none
  | .superframe => if ev.super then some .superframe else none
  | .sync => if ev.sync then some .sync else none
  | .now | .input _ => none

/-- A tick reduces a phase count that is above 1; at 1 it falls due, and the phase ends at once where the order says so, else by the
row of its kind (R49; log 4). -/
def State.countTick (s : State) (o : Order) (p : PlayerId) : State :=
  let r := s.player p
  if r.remaining = 1 then
    let s1 := s.setPlayer p { r with due := true }
    if p ∈ o.ends then s1.phaseEnd p else s1
  else s.setPlayer p { r with remaining := r.remaining - 1 }

/-- An ALIGN_WAIT step at a tick, a frame start or an unpause (R56, R57). -/
def State.alignEvent (s : State) (p : PlayerId) (ev : TbEvent) : State :=
  match s.currentStep p with
  | some st =>
    match st.action with
    | .align offset =>
      if ((ev.tick || ev.frame || ev.unpause) && s.alignedAt offset) || (ev.frame && decide (ev.oldLen ≤ offset.toNat)) then
        s.endStep p st
      else s
    | .set .. | .pulse .. | .waitEdge .. => s
  | none => s

/-- A FIT_WAIT step at a frame start is judged again (R60). -/
def State.fitEvent (s : State) (p : PlayerId) (ev : TbEvent) : State :=
  match ev.frame, s.currentStep p with
  | true, some st =>
    match s.judgeFit st with
    | .never => s.faultPlayer p .neverFits
    | .fits => State.follow (s.beginStep p st) p
    | .defers => s
  | _, _ => s

/-- A RUNNING player acts on an event of the Timebase (R49, R56, R57, R60, R87). -/
def State.runningEvent (s : State) (o : Order) (p : PlayerId) (ev : TbEvent) : State :=
  let r := s.player p
  if r.deferred then
    if ev.tick then (s.setPlayer p { r with deferred := false }).admitChain p else s
  else
    match r.activity with
    | .stepping | .pulseWidth => if ev.tick then s.countTick o p else s
    | .edgeWait => if ev.tick && decide (r.remaining ≠ 0) then s.countTick o p else s
    | .alignWait => s.alignEvent p ev
    | .fitWait => s.fitEvent p ev
    | .none => s

/-- The player is armed on the event, and the run begins with this cause. -/
def Player.startsAt (r : Player) (ev : TbEvent) : Option StartCause :=
  match r.state, r.startPoint with
  | .armed, some sp => ev.starts sp
  | _, _ => none

/-- A player with a SUPERFRAME replacement acts on a superframe start by the commit (R97). An armed one whose run it begins too
has both, in either order (R75; log 30). -/
def State.superEvent (s : State) (o : Order) (p : PlayerId) (ev : TbEvent) : State :=
  match (s.player p).startsAt ev with
  | some cause =>
    if p ∈ o.startFirst then (s.beginRun p cause).commitSuper p else (s.commitSuper p).beginRun p cause
  | none => s.commitSuper p

/-- A player acts on an event of the Timebase. `before` is its state as the event came: a player that a release resumed within
the event does not act on it (R138), nor does one that an entry has reached (R134). -/
def State.playerEvent (s : State) (o : Order) (ev : TbEvent) (before : PlayerState) (p : PlayerId) : State :=
  let r := s.player p
  if ev.super && r.commitsSuper then s.superEvent o p ev
  else
    match before, r.state with
    | .running, .running => s.runningEvent o p ev
    | .armed, .armed =>
      match r.startsAt ev with
      | some cause => s.beginRun p cause
      | none => s
    | _, _ => s

/-- The player has a part in the event: it is RUNNING or ARMED, or the event commits its replacement. -/
def Player.takesPart (r : Player) (ev : TbEvent) : Bool :=
  decide (r.state = .running) || decide (r.state = .armed) || (ev.super && r.commitsSuper)

/-- The event is a superframe start whose commit the player has made already, with the release of the same event (R96, R101).
`before` is its record as the event came. -/
def Player.committedIn (r before : Player) (ev : TbEvent) : Bool := ev.super && before.commitsSuper && !r.commitsSuper

/-- An event reaches a player in its turn, or is owed to it where the order makes it late (R94, R100; log 5) and it has not had it
already. `before` is its record as the event came. -/
def State.handTo (s : State) (o : Order) (ev : TbEvent) (before : Player) (p : PlayerId) : State :=
  let r := s.player p
  if p ∈ o.lateEvent then
    if r.takesPart ev && !r.committedIn before ev then
      s.setPlayer p { r with owed := some {
        event := ev, lost := decide (before.state ≠ r.state), startFirst := decide (p ∈ o.startFirst) } }
    else s
  else s.playerEvent o ev before.state p

/-- The event owed to a player reaches it (log 5). A count that it takes to 0 ends its phase at once. -/
def State.owedEvent (s : State) (p : PlayerId) : State :=
  let r := s.player p
  match r.owed with
  | some w =>
    (s.setPlayer p { r with owed := none }).playerEvent
      { startFirst := if w.startFirst then [p] else [], ends := [p] } w.event (if w.lost then .held else r.state) p
  | none => s

/-- A request to the player, or another event of its own, is over: what the Timebase still owes it reaches it now, and a safe entry
that this makes reaches the players, P0 first and none of them late, since the request's row has no order (R94, R100, R133;
logs 3, 5). -/
def State.owedNow (s : State) (p : PlayerId) : State :=
  match (s.player p).owed with
  | some _ => (s.owedEvent p).reachPlayers allPlayers []
  | none => s

/-- The Timebase hands an event to the players, and a superframe start to the Safe Unit and the Notice Queue too (R28), in the
order given. -/
def State.handOut (s : State) (o : Order) (ev : TbEvent) : State :=
  runActors o
    (fun a s' =>
      match a with
      | .player p => s'.handTo o ev (s.player p) p
      | .safeUnit => if ev.super then s'.autoRelease o else s'
      | .superframeNotice => if ev.super then s'.produce .superframe else s')
    (actorsOf o) s

/-- A frame start with the index given, handed out with its notices before it: those in `first`, then COMMIT (R28, R43). -/
def State.frameStart (s : State) (o : Order) (index : Nat) (first : State → State) (tick sync : Bool) : State :=
  let super := decide (index = 0)
  let s1 := (s.countFrame index).syncOutAtFrame super
  ((first s1).commitNotice s).handOut o
    { tick := tick, frame := true, super := super, sync := sync, unpause := false, oldLen := s.params.frameLen }

/-- What is still due of the last tick, and what is owed, reaches the players before time goes on: phase ends and late events, in the
order of the row (log 4, log 5). -/
def State.catchUp (s : State) (o : Order) : State := eachPlayer o (fun p s => (s.phaseEnd p).owedEvent p) s

/-- The flag "pass begun in this tick" becomes no for every player (R87). -/
def State.clearPassBegun (s : State) : State :=
  { s with players := Vector.ofFn fun i => { s.players[i.val] with passBegun := false } }

/-- A tick (R25): SYNC_OUT falls, the pass flags clear, and the position advances or a counted frame start takes place. -/
def State.tick (s : State) (o : Order) : State :=
  let s1 := ((s.catchUp o).syncOutAtTick).clearPassBegun
  if s1.tb.position + 1 < s1.params.frameLen then
    ({ s1 with tb := { s1.tb with position := s1.tb.position + 1 } }).handOut o
      { TbEvent.plain s1.params.frameLen with tick := true }
  else s1.frameStart o ((s1.tb.index + 1) % s1.params.superLen) id true false

/-- The divider count becomes 0 (R26). -/
def State.clearDivider (s : State) : State := { s with tb := { s.tb with divider := 0 } }

/-- The frame start that begins a run (R32), in the state given, with TIMEBASE STARTED first (R43). -/
def State.beginTbRun (s : State) (o : Order) (state : TbState) (sync : Bool) : State :=
  ((s.setTbState state).clearDivider).frameStart o 0 (fun s => s.tbNotice .started none) false sync

/-- A level of SYNC_IN is the active one (R31). -/
def State.syncActive (s : State) (level : Bool) : Bool :=
  match s.params.syncEdge with
  | .rise => level
  | .fall => !level

/-- TB_START taken in STOPPED (R32 to R35). -/
def State.tbStartAction (s : State) (o : Order) : State :=
  match s.params.syncMode with
  | .free | .aligned => s.beginTbRun o .running false
  | .triggered => s.setTbState .awaitSync
  | .gated => s.beginTbRun o (if s.syncActive s.tb.syncIn then .running else .paused) false

/-- An active edge merged into a counted frame start of its tick, which it makes a superframe start (R35). -/
def State.mergeEdge (s : State) (o : Order) : State :=
  let s1 := s.clearDivider
  if s.tb.index = 0 then s1.handOut o { TbEvent.plain s.params.frameLen with sync := true }
  else
    let s2 := (({ s1 with tb := { s1.tb with index := 0 } }).commitStaged).raiseIf .superframe
    (s2.commitNotice s).handOut o { TbEvent.plain s.params.frameLen with super := true, sync := true }

/-- An active SYNC_IN edge acts as the state and SYNC_MODE give, and is handed to the players in every state (R30, R31, R33 to
R35). The notice UNPAUSED stands before those of the players that act on the same edge (R34, R43; log 20). -/
def State.activeEdge (s : State) (o : Order) : State :=
  match s.tb.state, s.params.syncMode with
  | .awaitSync, .triggered => s.beginTbRun o .running true
  | .running, .aligned =>
    if s.tb.position = 0 then s.mergeEdge o else s.clearDivider.frameStart o 0 id false true
  | .paused, .gated =>
    ((s.setTbState .running).tbNotice .unpaused none).handOut o
      { TbEvent.plain s.params.frameLen with sync := true, unpause := true }
  | _, _ => s.handOut o { TbEvent.plain s.params.frameLen with sync := true }

/-- SYNC_IN leaves its active level: a pause in GATED mode, nothing else (R31, R34). -/
def State.inactiveEdge (s : State) : State :=
  match s.tb.state, s.params.syncMode with
  | .running, .gated => (s.setTbState .paused).tbNotice .paused none
  | _, _ => s

/-- TB_STOP taken in a state other than STOPPED (R36): the frame number and the pending values are kept. A NOTE level raised while
the Timebase was not RUNNING has its microsecond; any other high level falls (R41; log 25). -/
def State.tbStopAction (s : State) : State :=
  let s1 := s.setTbState .stopped
  let s2 := { s1 with tb := { s1.tb with position := 0, index := 0, divider := 0 } }
  let s3 :=
    match s.params.syncOutSrc with
    | .note _ => s2
    | .off | .frame | .superframe | .running => s2.lowerSyncOut
  s3.tbNotice .stopped (some s.stamp)

end Sys2Proof.Machine
end

