-- ==== Sys2Proof/Machine/Take.lean ====
section
/-! DEFINITION. The take of a request (R145, R147, R156, R157): the front of the inbox leaves it, the shared refusals are applied, the
owning block answers, the reply fills its entry and enters the replay cache. And inbox entry (R146, R148). -/

namespace Sys2Proof.Machine

/-- The KIND codes of the request table (R158). -/
def knownKinds : List Byte :=
  [0x10, 0x11, 0x12, 0x13, 0x14, 0x15, 0x16, 0x17, 0x18,
   0x20, 0x21, 0x22, 0x23, 0x24, 0x25, 0x26, 0x27, 0x28, 0x29, 0x2A, 0x2B,
   0x30, 0x31, 0x32, 0x38, 0x39, 0x3A, 0x40, 0x41, 0x42, 0x48, 0x49, 0x50, 0x51,
   0x58, 0x59, 0x5A, 0x5B, 0x5C, 0x5D, 0x60, 0x61]

/-- The KIND names a request. -/
def knownKind (kind : Byte) : Bool := knownKinds.contains kind

/-- The payload lengths that R159 allows for a KIND of the table. -/
def lengthAllowed (kind : Byte) (n : Nat) : Bool :=
  if kind = 0x10 then decide (1 ≤ n) && decide (n ≤ 13)
  else if kind = 0x11 then decide (13 ≤ n) && decide (n ≤ 193) && decide (n % 12 = 1)
  else if kind = 0x12 then decide (n = 2)
  else if kind = 0x13 ∨ kind = 0x14 ∨ kind = 0x15 ∨ kind = 0x16 then decide (n = 1)
  else if kind = 0x17 then decide (n = 3)
  else if kind = 0x20 ∨ kind = 0x22 then decide (n = 5)
  else if kind = 0x27 then decide (n = 2)
  else if kind = 0x2A then decide (n = 3)
  else if kind = 0x21 ∨ kind = 0x23 ∨ kind = 0x24 ∨ kind = 0x25 ∨ kind = 0x26 ∨ kind = 0x28 ∨ kind = 0x29 ∨ kind = 0x2B then
    decide (n = 1)
  else if kind = 0x38 then decide (n = 6)
  else if kind = 0x3A ∨ kind = 0x48 then decide (n = 2)
  else if kind = 0x49 then decide (n = 4)
  else if kind = 0x5B then decide (n = 10) || decide (n = 2)
  else if kind = 0x5C ∨ kind = 0x61 then decide (n = 1)
  else decide (n = 0)

/-- The shared refusals in their order (R157): NOT_READY while BOOTING but for DEVICE_STATUS, UNKNOWN_KIND, BAD_LENGTH. -/
def State.sharedRefusal (s : State) (q : Frame) : Option Status :=
  if s.boot ≠ .ready ∧ q.kind ≠ 0x60 then some .notReady
  else if knownKind q.kind = false then some .unknownKind
  else if lengthAllowed q.kind q.payload.length = false then some .badLength
  else none

/-- The reply frame of a request (R153, R154, R157): its tag, its KIND with 80h set, the status and the fields. -/
def replyFrame (q : Frame) (r : Reply) : Frame := mkFrame q.tag (q.kind ||| 0x80) (r.status.code :: r.fields)

/-- The newest entry joins the replay cache; of five the oldest leaves (R147). -/
def cacheAdd (cache : List CacheEntry) (e : CacheEntry) : List CacheEntry :=
  (cache ++ [e]).drop ((cache ++ [e]).length - Config.cacheSize)

/-- The reply fills the entry that its request reserved, and request and reply enter the replay cache (R145, R147). -/
def State.queueReply (s : State) (q : Frame) (r : Reply) : State :=
  { s with link := { s.link with
      replies := s.link.replies ++ [{ frame := replyFrame q r, effect := r.effect }]
      cache := cacheAdd s.link.cache { tag := q.tag, check := q.check, reply := replyFrame q r } } }

/-- The part is live and may take requests (R156). -/
def State.mayTake (s : State) : Bool := decide (s.phase = .live) && !s.reloadPending

/-- The request's answer: a shared refusal, which changes nothing, or what the owning block makes of it (R157). -/
def State.answer (s : State) (q : Frame) (serve : Frame → State → State × Reply) : State × Reply :=
  match s.sharedRefusal q with
  | some st => (s, Reply.bare st)
  | none => serve q s

/-- One take (R156) by a row whose requests are those that `mine` holds of. With no such request at the front of the inbox the
row's event does not take place and nothing changes (log 2). The transmitter begins what is ready at the end (R149). -/
def State.take (s : State) (mine : Frame → Bool) (serve : Frame → State → State × Reply) : State :=
  match s.mayTake, s.link.inbox with
  | true, q :: rest =>
    if mine q then
      let a := ({ s with link := { s.link with inbox := rest } }).answer q serve
      (a.1.queueReply q a.2).transmit
    else s
  | _, _ => s

/-- The requests of one KIND. -/
def ofKind (kind : Byte) (q : Frame) : Bool := decide (q.kind = kind)

/-- The answer to a payload of a form that the length check has refused already. -/
def badForm (s : State) : State × Reply := (s, Reply.bare .badLength)

/-- A refusal: a status alone, and nothing changes. -/
def refuse (s : State) (st : Status) : State × Reply := (s, Reply.bare st)

/-- A refused claim or drive names the lowest-numbered owned line and its owner (R107, R114): one byte each, the line's its number
0 to 23 (log 17). -/
def refuseOwned (s : State) (l : LineId) (p : PlayerId) : State × Reply :=
  (s, Reply.of .lineOwned [finByte l, finByte p])

/-! ### Inbox entry (R146 to R148) -/

/-- The frame waits in the inbox: same TAG, same CHECK. -/
def repeatsOf (f : Frame) (g : Frame) : Bool := decide (g.tag = f.tag) && decide (g.check = f.check)

/-- The entry of the replay cache that a frame repeats. -/
def State.cached (s : State) (f : Frame) : Option CacheEntry :=
  s.link.cache.find? fun e => decide (e.tag = f.tag) && decide (e.check = f.check)

/-- The free entries of the reply queue: those neither filled nor reserved by a request in the inbox (R145). -/
def State.freeEntries (s : State) : Nat := Config.replyEntries - (s.link.replies.length + s.link.inbox.length)

/-- The reject of a frame refused for room (R148). -/
def rejectFrame (f : Frame) : Frame := mkFrame f.tag (f.kind ||| 0x80) [Status.inboxFull.code]

/-- A good frame is judged: repeat in the inbox, repeat in the cache, no room, or new (R146). -/
def State.enterInbox (s : State) (f : Frame) : State :=
  if s.link.inbox.any (repeatsOf f) then s
  else
    match s.cached f with
    | some e =>
      if 0 < s.freeEntries then
        { s with link := { s.link with replies := s.link.replies ++ [{ frame := e.reply, effect := .plain }] } }
      else s
    | none =>
      if Config.inboxSize ≤ s.link.inbox.length ∨ s.freeEntries = 0 then
        { s with link := { s.link with reject := some (rejectFrame f) } }
      else { s with link := { s.link with inbox := s.link.inbox ++ [f] } }

end Sys2Proof.Machine
end

