-- ==== Sys2Proof/Machine/PlayerRequests.lean ====
section
/-! DEFINITION. The requests that name a player (R70 to R83, R88, R92 to R94). -/

namespace Sys2Proof.Machine

/-- A request whose payload is a player alone (R159). -/
def onPlayer (q : Frame) (s : State) (own : PlayerId → State × Reply) : State × Reply :=
  match q.payload with
  | [b] =>
    match playerOf b with
    | some p => own p
    | none => refuse s .noSuch
  | _ => badForm s

/-- A request that acts on a player is over for it: an event of the Timebase that is owed to it reaches it now (R94, R100; log 5). -/
def thenOwed (p : PlayerId) (a : State × Reply) : State × Reply := (a.1.owedNow p, a.2)

/-- An OK reply with no further field. -/
def okBare (s : State) : State × Reply := (s, Reply.bare .ok)

/-! ### Binding -/

/-- The player is attached to the list with its lines (R70): claim, use count, and a fresh record but for pass limit and stop
index. -/
def State.bindPlayer (s : State) (p : PlayerId) (l : ListId) (lines : LineSet) : State :=
  let r := s.player p
  ((s.setPlayer p { Player.blank with
      state := .bound, boundList := some l, claimed := lines, passLimit := r.passLimit, stopIndex := r.stopIndex,
      passBegun := r.passBegun }).claimLines p lines).useUp l

/-- PLAYER_BIND's own part (R70, R107). -/
def servePlayerBind (q : Frame) (s : State) : State × Reply :=
  match q.payload with
  | [pb, lb, b0, b1, b2] =>
    match playerOf pb, listOf lb with
    | some p, some l =>
      let lines := linesOf b0 b1 b2
      if (s.player p).state ≠ .idle then refuse s .wrongState
      else
        match (s.list l).state, (s.list l).derived with
        | .sealed, some (footprint, _) =>
          if within footprint lines = false then refuse s .footprint
          else
            match s.firstOwned lines with
            | some (line, owner) => refuseOwned s line owner
            | none => (s.bindPlayer p l lines, Reply.of .ok ([pb, lb] ++ lineBytes lines))
        | _, _ => refuse s .wrongState
    | _, _ => refuse s .noSuch
  | _ => badForm s

/-- The player returns to IDLE (R71): its lines are released at their idle levels, its list and a pending one lose their count. -/
def State.unbindPlayer (s : State) (p : PlayerId) : State :=
  let r := s.player p
  ((((s.idleLines r.claimed).releaseLines p).useDownOpt r.boundList).useDownOpt r.pendingList).setPlayer p
    { Player.blank with passLimit := r.passLimit, stopIndex := r.stopIndex }

/-- PLAYER_UNBIND's own part (R71). -/
def servePlayerUnbind (q : Frame) (s : State) : State × Reply :=
  onPlayer q s fun p =>
    match (s.player p).state with
    | .bound | .faulted => (s.unbindPlayer p, Reply.of .ok [finByte p, listByte (s.player p).boundList])
    | .idle | .armed | .running | .held => refuse s .wrongState

/-! ### Starting (R72 to R74) -/

/-- The pass limit and stop index of a start become the player's (R72). -/
def State.setLimits (s : State) (p : PlayerId) (passLimit : Nat) (stopIndex : Option Nat) : State :=
  s.setPlayer p { s.player p with passLimit := passLimit, stopIndex := stopIndex }

/-- The player waits for its start point (R73). -/
def State.armPlayer (s : State) (p : PlayerId) (sp : StartPoint) : State :=
  s.setPlayer p { s.player p with state := .armed, startPoint := some sp }

/-- A BOUND or ARMED player is started NOW or armed (R72, R73). -/
def State.startPlayer (s : State) (p : PlayerId) (sp : StartPoint) (passLimit : Nat) (stopIndex : Option Nat) : State :=
  let s1 := s.setLimits p passLimit stopIndex
  match sp with
  | .now => s1.beginRun p .now
  | .frame | .superframe | .sync | .input _ => s1.armPlayer p sp

/-- The reply to a start of a BOUND or ARMED player (R72, R73). -/
def startReply (state : PlayerState) (sp : StartPoint) : Reply :=
  match sp, state with
  | .now, _ => Reply.of .ok [PlayerState.running.code]
  | _, .armed => Reply.of .ok [PlayerState.armed.code]
  | _, _ => Reply.bare .pending

/-- PLAYER_START's own part (R72 to R74, R76). -/
def servePlayerStart (o : Order) (q : Frame) (s : State) : State × Reply :=
  match q.payload with
  | [pb, spb, inb, limit, stop] =>
    match playerOf pb with
    | none => refuse s .noSuch
    | some p =>
      match startPointOf spb inb with
      | .error st => refuse s st
      | .ok sp =>
        if s.safeClear = false then refuse s .safeActive
        else
          match (s.player p).state with
          | .idle | .held | .faulted => refuse s .wrongState
          | .bound | .armed =>
            thenOwed p ((s.startPlayer p sp limit.toNat (stopOf stop)).settle o, startReply (s.player p).state sp)
          | .running =>
            if (s.player p).relaunch then refuse s .already
            else thenOwed p (s.setPlayer p { s.player p with relaunch := true }, Reply.bare .queued)
  | _ => badForm s

/-- PLAYER_CANCEL's own part (R77). -/
def servePlayerCancel (q : Frame) (s : State) : State × Reply :=
  onPlayer q s fun p =>
    match (s.player p).state with
    | .armed => thenOwed p (okBare (s.setPlayer p { s.player p with state := .bound, startPoint := none }))
    | .bound => refuse s .already
    | .idle | .running | .held | .faulted => refuse s .wrongState

/-! ### Stopping, holding and resuming -/

/-- The player's activity ends at once (R78): lines to idle, the step in flight discarded with its remaining ticks (log 35), BOUND at
index 0, and a PASS_END replacement commits. -/
def State.stopPlayer (s : State) (p : PlayerId) : State :=
  let r := s.player p
  ((s.idleLines r.claimed).setPlayer p { r with
    state := .bound, relaunch := false, holdPending := false, startPoint := none, holdCause := none, index := 0,
    activity := .none, remaining := 0, deferred := false, due := false }).commitAtPassEnd p

/-- PLAYER_STOP's own part (R78). -/
def servePlayerStop (q : Frame) (s : State) : State × Reply :=
  onPlayer q s fun p =>
    let r := s.player p
    match r.state with
    | .armed | .running | .held =>
      thenOwed p (s.stopPlayer p, Reply.of .ok [r.state.code, byteOf r.index, byteOf r.passCount])
    | .bound => refuse s .already
    | .idle | .faulted => refuse s .wrongState

/-- PLAYER_HOLD's own part (R79). -/
def servePlayerHold (q : Frame) (s : State) : State × Reply :=
  onPlayer q s fun p =>
    let r := s.player p
    match r.state with
    | .running => thenOwed p (s.setPlayer p { r with holdPending := true }, Reply.bare .pending)
    | .held =>
      if r.holdCause = some .safe then thenOwed p (s.setPlayer p { r with holdPending := true }, Reply.bare .pending)
      else refuse s .already
    | .idle | .bound | .armed | .faulted => refuse s .wrongState

/-- PLAYER_RESUME's own part (R80). -/
def servePlayerResume (o : Order) (q : Frame) (s : State) : State × Reply :=
  onPlayer q s fun p =>
    if s.safeClear = false then refuse s .safeActive
    else
      match (s.player p).state with
      | .held => thenOwed p (okBare ((s.resumePlayer p).settle o))
      | .running => refuse s .already
      | .idle | .bound | .armed | .faulted => refuse s .wrongState

/-- PLAYER_SET_STOP's own part (R81). -/
def servePlayerSetStop (q : Frame) (s : State) : State × Reply :=
  match q.payload with
  | [pb, stop] =>
    match playerOf pb with
    | none => refuse s .noSuch
    | some p =>
      let r := s.player p
      if r.state = .idle then refuse s .wrongState
      else thenOwed p (s.setPlayer p { r with stopIndex := stopOf stop }, Reply.of .ok [stopByte r.stopIndex, stop])
  | _ => badForm s

/-- PLAYER_CLEAR's own part (R82). -/
def servePlayerClear (q : Frame) (s : State) : State × Reply :=
  onPlayer q s fun p =>
    let r := s.player p
    match r.state with
    | .faulted =>
      okBare (s.setPlayer p { r with state := .bound, faultCause := none, index := 0, passCount := 0, activity := .none })
    | .bound => refuse s .already
    | .idle | .armed | .running | .held => refuse s .wrongState

/-- The fields of a PLAYER_STATUS reply (R83; an absent field is FFh, log 17). -/
def Player.statusBytes (r : Player) : List Byte :=
  [r.state.code, listByte r.boundList] ++ lineBytes r.claimed ++ [byteOf r.index, r.activity.code] ++ be16 r.remaining ++
  [byteOf r.passCount, byteOf r.passLimit, stopByte r.stopIndex,
    markByte r.relaunch, markByte r.holdPending, markByte r.deferred, markByte r.passBegun,
    orAbsent HoldCause.code r.holdCause, orAbsent StartPoint.code r.startPoint,
    orAbsent finByte (r.startPoint.bind StartPoint.inputOf), orAbsent FaultCause.code r.faultCause,
    listByte r.pendingList, orAbsent CommitPoint.code (r.replacement.map Prod.snd)]

/-- PLAYER_STATUS's own part (R83). -/
def servePlayerStatus (q : Frame) (s : State) : State × Reply :=
  onPlayer q s fun p => (s, Reply.of .ok (s.player p).statusBytes)

/-! ### Replacement (R92 to R94) -/

/-- The replacement is applied at once to a BOUND or ARMED player (R92): the counts move and a pending one is dropped. -/
def State.applyReplacement (s : State) (p : PlayerId) (l : ListId) : State :=
  let r := s.player p
  (((s.setPlayer p { r with boundList := some l, index := 0, passCount := 0, replacement := none }).useUp l).useDownOpt
    r.boundList).useDownOpt r.pendingList

/-- The replacement becomes the pending one, superseding any (R93). -/
def State.pendReplacement (s : State) (p : PlayerId) (l : ListId) (point : CommitPoint) : State :=
  let r := s.player p
  ((s.setPlayer p { r with replacement := some (l, point) }).useUp l).useDownOpt r.pendingList

/-- PLAYER_REPLACE's own part (R92, R93). -/
def servePlayerReplace (q : Frame) (s : State) : State × Reply :=
  match q.payload with
  | [pb, lb, cb] =>
    match playerOf pb, listOf lb with
    | some p, some l =>
      match commitPointOf cb with
      | none => refuse s .badValue
      | some point =>
        let r := s.player p
        if r.state = .idle ∨ r.state = .faulted then refuse s .wrongState
        else
          match (s.list l).state, (s.list l).derived with
          | .sealed, some (footprint, _) =>
            if within footprint r.claimed = false then refuse s .footprint
            else if r.state = .bound ∨ r.state = .armed then
              thenOwed p (s.applyReplacement p l, Reply.of .applied [pb, listByte r.boundList, lb, listByte r.pendingList])
            else
              match r.pendingList with
              | none => thenOwed p (s.pendReplacement p l point, Reply.of .pending [pb, lb, cb])
              | some old => thenOwed p (s.pendReplacement p l point, Reply.of .superseded [finByte old, lb, cb])
          | _, _ => refuse s .wrongState
    | _, _ => refuse s .noSuch
  | _ => badForm s

/-- PLAYER_WITHDRAW's own part (R94). -/
def servePlayerWithdraw (q : Frame) (s : State) : State × Reply :=
  onPlayer q s fun p =>
    let r := s.player p
    match r.replacement with
    | some (l, point) =>
      thenOwed p ((s.setPlayer p { r with replacement := none }).useDown l, Reply.of .ok [finByte l, point.code])
    | none => refuse s .already

/-! ### The rows -/

/-- PLAYER_BIND (R70). -/
def execPlayerBind (s : State) : Host.Outcome State Fault Refusal := .next (s.take (ofKind 0x20) servePlayerBind)

/-- PLAYER_UNBIND (R71). -/
def execPlayerUnbind (s : State) : Host.Outcome State Fault Refusal := .next (s.take (ofKind 0x21) servePlayerUnbind)

/-- PLAYER_START (R72). -/
def execPlayerStart (o : Order) (s : State) : Host.Outcome State Fault Refusal :=
  .next (s.take (ofKind 0x22) (servePlayerStart o))

/-- PLAYER_CANCEL (R77). -/
def execPlayerCancel (s : State) : Host.Outcome State Fault Refusal := .next (s.take (ofKind 0x23) servePlayerCancel)

/-- PLAYER_STOP (R78). -/
def execPlayerStop (s : State) : Host.Outcome State Fault Refusal := .next (s.take (ofKind 0x24) servePlayerStop)

/-- PLAYER_HOLD (R79). -/
def execPlayerHold (s : State) : Host.Outcome State Fault Refusal := .next (s.take (ofKind 0x25) servePlayerHold)

/-- PLAYER_RESUME (R80). -/
def execPlayerResume (o : Order) (s : State) : Host.Outcome State Fault Refusal :=
  .next (s.take (ofKind 0x26) (servePlayerResume o))

/-- PLAYER_SET_STOP (R81). -/
def execPlayerSetStop (s : State) : Host.Outcome State Fault Refusal := .next (s.take (ofKind 0x27) servePlayerSetStop)

/-- PLAYER_CLEAR (R82). -/
def execPlayerClear (s : State) : Host.Outcome State Fault Refusal := .next (s.take (ofKind 0x28) servePlayerClear)

/-- PLAYER_STATUS (R83). -/
def execPlayerStatus (s : State) : Host.Outcome State Fault Refusal := .next (s.take (ofKind 0x29) servePlayerStatus)

/-- PLAYER_REPLACE (R92). -/
def execPlayerReplace (s : State) : Host.Outcome State Fault Refusal := .next (s.take (ofKind 0x2A) servePlayerReplace)

/-- PLAYER_WITHDRAW (R94). -/
def execPlayerWithdraw (s : State) : Host.Outcome State Fault Refusal := .next (s.take (ofKind 0x2B) servePlayerWithdraw)

end Sys2Proof.Machine
end

