-- ==== Sys2Proof/Machine/Microsecond.lean ====
section
/-! DEFINITION. Receive errors, the microsecond of the internal base, and what it does whatever is commanded (R26, R27, R41, R144;
log 7). -/

namespace Sys2Proof.Machine

/-- An event of a live part: what it does, then the transmitter begins what is ready (R149; log 11). While RESET_N or power-on holds
the part, or it has no supply, the event does not take place (log 12). -/
def State.live (s : State) (event : State → State) : State :=
  match s.phase with
  | .live => (event s).transmit
  | .off | .held => s

/-! ### The receiver's errors (R144) -/

/-- The receiver takes a state, and the inter-byte timer starts again from 0 or stops. -/
def State.setRx (s : State) (rx : Receiver) (timer : Option Nat) : State :=
  { s with link := { s.link with rx := rx, timer := timer } }

/-- A receive error (R144): back to HUNT, with a LINK notice. -/
def State.linkError (s : State) (cause : LinkCause) : State := (s.setRx .hunt none).produce (.link cause)

/-- The receiver is inside a frame. -/
def Receiver.inFrame : Receiver → Bool
  | .hunt => false
  | .length | .body .. | .check .. => true

/-- This microsecond is the last of the inter-byte timer inside a frame (R144). -/
def State.timerExpires (s : State) : Bool :=
  s.link.rx.inFrame &&
    (match s.link.timer with
      | some t => decide (Config.interByteLimit ≤ t + 1)
      | none => false)

/-! ### One microsecond -/

/-- The inter-byte timer counts, and its expiry is the receive error TIMEOUT (R144). -/
def State.timeByte (s : State) : State :=
  if s.timerExpires then s.linkError .timeout
  else { s with link := { s.link with timer := s.link.timer.map fun t => min (t + 1) Config.interByteLimit } }

/-- A SYNC_OUT level raised while the Timebase was not RUNNING has had its microsecond (R41). -/
def State.endSyncHold (s : State) : State := if s.tb.syncHold then s.lowerSyncOut else s

/-- A tick is taken from the source (R26, R27): the Timebase is RUNNING and TICK_SOURCE selects it. -/
def State.ticksFrom (s : State) (source : TickSource) : Bool := s.ticking && decide (s.params.tickSource = source)

/-- This microsecond is the last of the tick period: the divider count would reach TICK_DIV (R26). -/
def State.dividerExpires (s : State) : Bool := s.ticksFrom .internal && decide (s.params.tickDiv ≤ s.tb.divider + 1)

/-- The divider count runs while the Timebase is RUNNING on the internal source, and makes one tick for every TICK_DIV microseconds
(R26). -/
def State.divide (s : State) (o : Order) : State :=
  if s.dividerExpires then s.clearDivider.tick o
  else if s.ticksFrom .internal then { s with tb := { s.tb with divider := s.tb.divider + 1 } }
  else s

/-- A microsecond passes: the inter-byte timer, a held SYNC_OUT level, what the last tick still owes the players, the divider and
its tick. The spec orders none of these among each other: log 38 chooses this order. -/
def State.passMicrosecond (s : State) (o : Order) : State := (((s.timeByte).endSyncHold).catchUp o).divide o

/-- The order in which a microsecond without a command runs: as `Actor` lists the agents, none late, and each phase ends at its tick
(logs 3, 5). -/
def Order.unasked : Order := { ends := allPlayers }

/-- A microsecond that no command asks for; a part without supply or held counts nothing. -/
def State.microsecond (s : State) : State := s.live fun s => s.passMicrosecond Order.unasked

end Sys2Proof.Machine
end

