-- ==== Sys2Proof/Machine/TimebaseRequests.lean ====
section
/-! DEFINITION. The Timebase's requests and the rows of its own events and of step phases (R26, R27, R31 to R37, R41, R49). -/

namespace Sys2Proof.Machine

/-- State, mode and stamp, which the replies to TB_START carry (R32). -/
def State.tbReport (s : State) : List Byte := [s.tb.state.code, byteOf s.params.syncMode.code] ++ stampBytes s.stamp

/-- TB_START's own part (R32 to R35). What the Timebase still owes the players comes first (log 5). The PENDING reply carries the
state and the stamp (R33). -/
def serveTbStart (o : Order) (_q : Frame) (s : State) : State × Reply :=
  match s.tb.state with
  | .stopped =>
    let s1 := (s.catchUp o).tbStartAction o
    match s1.tb.state with
    | .awaitSync => (s1, Reply.of .pending (TbState.awaitSync.code :: stampBytes s1.stamp))
    | .stopped | .running | .paused => (s1, Reply.of .ok s1.tbReport)
  | .awaitSync | .running | .paused => (s, Reply.of .already s.tbReport)

/-- TB_STOP's own part (R36). What the last tick still owes the players comes first (log 4). -/
def serveTbStop (o : Order) (_q : Frame) (s : State) : State × Reply :=
  match s.tb.state with
  | .stopped => (s, Reply.of .already (TbState.stopped.code :: stampBytes s.stamp))
  | .awaitSync | .running | .paused =>
    ((s.catchUp o).tbStopAction, Reply.of .ok (s.tb.state.code :: stampBytes s.stamp))

/-- TB_STATUS's own part (R37). The sizes of what R159 gives none for are the model's (log 17): one byte of the frame index, two of
the divider count, one each of the tick source and of the two levels. -/
def serveTbStatus (_q : Frame) (s : State) : State × Reply :=
  (s, Reply.of .ok (s.tbReport ++ [byteOf s.tb.index] ++ be16 s.params.frameLen ++ be16 s.params.superLen ++
    [markByte s.tb.pendFrameLen.isSome] ++ be16 (s.tb.pendFrameLen.getD 0) ++
    [markByte s.tb.pendSuperLen.isSome] ++ be16 (s.tb.pendSuperLen.getD 0) ++
    [byteOf s.params.tickSource.code] ++ be16 s.params.tickDiv ++ be16 s.tb.divider ++
    [markByte s.tb.syncIn, markByte s.tb.syncOut]))

/-! ### The rows -/

/-- TB_START (R32). -/
def execTbStart (o : Order) (s : State) : Host.Outcome State Fault Refusal := .next (s.take (ofKind 0x30) (serveTbStart o))

/-- TB_STOP (R36). -/
def execTbStop (o : Order) (s : State) : Host.Outcome State Fault Refusal := .next (s.take (ofKind 0x31) (serveTbStop o))

/-- TB_STATUS (R37). -/
def execTbStatus (s : State) : Host.Outcome State Fault Refusal := .next (s.take (ofKind 0x32) serveTbStatus)

/-- INTERNAL_TICK (R26): the microsecond in which the divider count reaches TICK_DIV, which makes a tick. In any other it does
nothing (log 2, log 7). -/
def execInternalTick (o : Order) (s : State) : Host.Outcome State Fault Refusal :=
  .next (s.live fun s => if s.dividerExpires then s.passMicrosecond o else s)

/-- TICK_IN_EDGE (R27): a rising edge of TICK_IN makes a tick; one that is not counted does nothing. -/
def execTickInEdge (o : Order) (s : State) : Host.Outcome State Fault Refusal :=
  .next (s.live fun s => if s.ticksFrom .tickIn then s.tick o else s)

/-- A change of SYNC_IN (R31): what the last tick still owes the players comes first (log 4), then the edge acts. -/
def State.syncChange (s : State) (level : Bool) (o : Order) : State :=
  if level = s.tb.syncIn then s
  else
    let s1 := s.catchUp o
    let s2 := { s1 with tb := { s1.tb with syncIn := level } }
    if s2.syncActive level then s2.activeEdge o else s2.inactiveEdge

/-- SYNC_IN_EDGE (R31). While the part is held or without supply, the level is followed and nothing else happens (log 13). -/
def execSyncInEdge (level : Bool) (o : Order) (s : State) : Host.Outcome State Fault Refusal :=
  match s.phase with
  | .live => .next (s.live fun s => s.syncChange level o)
  | .off | .held => .next { s with tb := { s.tb with syncIn := level } }

/-- SYNC_OUT_PULSE_END (R41): the microsecond of a level raised while the Timebase was not RUNNING is over. Where no level has its
microsecond it does nothing (log 2). -/
def execSyncOutPulseEnd (s : State) : Host.Outcome State Fault Refusal :=
  .next (s.live fun s => if s.tb.syncHold then s.lowerSyncOut else s)

/-- The player has a tick due on a step in the given activity of a kind that `ofRow` holds of (R49; log 4). -/
def State.dueOn (s : State) (p : PlayerId) (activity : Activity) (ofRow : StepAction → Bool) : Bool :=
  let r := s.player p
  r.due && decide (r.state = .running) && decide (r.activity = activity) &&
    (match s.currentStep p with
      | some st => ofRow st.action
      | none => false)

/-- The players that a safe entry of this event reaches only after their own action, but for the one given (R132; log 6). -/
def laterPlayers (o : Order) (p : PlayerId) : List Actor :=
  ((playersOf o).filter fun p' => decide (p' ∈ o.late) && decide (p' ≠ p)).map Actor.player

/-- A row in which the tick that is due ends a player's phase. An entry that this makes (R132) reaches the others; a late one whose
own tick is due has its phase end first, and its own fault with it. -/
def State.phaseRow (s : State) (p : PlayerId) (o : Order) (activity : Activity) (ofRow : StepAction → Bool) : State :=
  s.live fun s =>
    if s.dueOn p activity ofRow then
      runActors o
        (fun a s' =>
          match a with
          | .player p' => if p' = p ∨ s'.safeClear = false then s'.phaseEnd p' else s'
          | .safeUnit | .superframeNotice => s')
        (.player p :: laterPlayers o p) s
    else s

def isSet : StepAction → Bool
  | .set .. => true
  | .pulse .. | .waitEdge .. | .align .. => false

def isPulse : StepAction → Bool
  | .pulse .. => true
  | .set .. | .waitEdge .. | .align .. => false

def isWait : StepAction → Bool
  | .waitEdge .. => true
  | .set .. | .pulse .. | .align .. => false

/-- SET_DWELL_END (R51). -/
def execSetDwellEnd (p : PlayerId) (o : Order) (s : State) : Host.Outcome State Fault Refusal :=
  .next (s.phaseRow p o .stepping isSet)

/-- PULSE_TRAILING_EDGE (R52). -/
def execPulseTrailingEdge (p : PlayerId) (o : Order) (s : State) : Host.Outcome State Fault Refusal :=
  .next (s.phaseRow p o .pulseWidth isPulse)

/-- PULSE_DWELL_END (R52). -/
def execPulseDwellEnd (p : PlayerId) (o : Order) (s : State) : Host.Outcome State Fault Refusal :=
  .next (s.phaseRow p o .stepping isPulse)

/-- WAIT_EDGE_TIMEOUT (R55). -/
def execWaitEdgeTimeout (p : PlayerId) (o : Order) (s : State) : Host.Outcome State Fault Refusal :=
  .next (s.phaseRow p o .edgeWait isWait)

end Sys2Proof.Machine
end

