-- ==== Sys2Proof/Machine/ImageUnit.lean ====
section
/-! DEFINITION. The banks, the image operations, the autostart table and start-up (R173 to R180). -/

namespace Sys2Proof.Machine

/-! ### Banks (R173, R177) -/

def State.bank (s : State) : BankId → Bank
  | .a => s.image.bankA
  | .b => s.image.bankB

def State.setBank (s : State) (bank : BankId) (r : Bank) : State :=
  match bank with
  | .a => { s with image := { s.image with bankA := r } }
  | .b => { s with image := { s.image with bankB := r } }

def BankId.other : BankId → BankId
  | .a => .b
  | .b => .a

/-- The loadable mark (R173, R177): COMPLETE, and its checksum agreed when it was last judged (log 26). -/
def Bank.loadable (bank : Bank) : Bool := decide (bank.state = .complete) && bank.mark

/-- Of the banks that satisfy a condition, the one with the higher sequence. -/
def State.newest (s : State) (ok : Bank → Bool) : Option BankId :=
  match ok s.image.bankA, ok s.image.bankB with
  | true, true => if s.image.bankA.seq < s.image.bankB.seq then some .b else some .a
  | true, false => some .a
  | false, true => some .b
  | false, false => none

def Bank.isComplete (bank : Bank) : Bool := decide (bank.state = .complete)

/-- The bank that holds the newest complete image (R173). -/
def State.newestComplete (s : State) : Option BankId := s.newest Bank.isComplete

/-- The sequence of the newest complete image, 0 if there is none. -/
def State.newestSeq (s : State) : BitVec 32 :=
  match s.newestComplete with
  | some bank => (s.bank bank).seq
  | none => 0

/-- A header that is not COMPLETE: sequence 0, no image, and a checksum that the manual gives no value of (log 15). -/
def State.setHeader (s : State) (bank : BankId) (state : BankState) : State :=
  let s1 := s.setBank bank
    { state := state, seq := 0, checksum := Config.openChecksum s.fresh, image := none, agrees := false, mark := false }
  { s1 with fresh := s.fresh + 1 }

/-- The loadable marks are judged from the checksums as they stand (R177). -/
def Bank.judged (bank : Bank) : Bank := { bank with mark := bank.agrees }

def State.judgeBanks (s : State) : State :=
  { s with image := { s.image with bankA := s.image.bankA.judged, bankB := s.image.bankB.judged } }

/-- The image operation ends, and the store-busy flag clears (R10). -/
def State.endOp (s : State) : State :=
  { s with image := { s.image with op := .none }, store := { s.store with busy := false } }

/-! ### Saving and erasing (R174 to R177) -/

/-- The target of a save (R174 item 3). -/
def State.saveTarget (s : State) : BankId :=
  match s.newest Bank.loadable with
  | some bank => bank.other
  | none =>
    match s.newestComplete with
    | some bank => bank.other
    | none => .a

/-- A save is accepted (R174): snapshot, store busy, and the target's header WRITING. -/
def State.beginSave (s : State) (target : BankId) (seq : BitVec 32) : State :=
  let s1 := s.setHeader target .writing
  { s1 with
    image := { s1.image with op := .save target seq s.params s.image.autostart }
    store := { s1.store with busy := true } }

/-- IMAGE_SAVE's own part (R174). The sequence of the reply is four bytes, the high one first (log 17). -/
def serveImageSave (_q : Frame) (s : State) : State × Reply :=
  if s.image.op ≠ .none then refuse s .busy
  else if s.newestSeq = 0xFFFFFFFF#32 then refuse s .wrongState
  else
    let target := s.saveTarget
    let seq := s.newestSeq + 1
    (s.beginSave target seq, Reply.of .pending (target.code :: be32 seq.toNat))

/-- An erase is accepted (R176): store busy, and bank A is treated first, its header WRITING from the take on (log 40). -/
def State.beginErase (s : State) : State :=
  let s1 := s.setHeader .a .writing
  { s1 with image := { s1.image with op := .eraseA }, store := { s1.store with busy := true } }

/-- IMAGE_ERASE's own part (R176). -/
def serveImageErase (_q : Frame) (s : State) : State × Reply :=
  if s.image.op ≠ .none then refuse s .busy else (s.beginErase, Reply.bare .pending)

/-- What IMAGE_INFO reports of a bank (R177). The sequence is four bytes and the checksum two, the high one
first (log 17). -/
def Bank.infoBytes (b : Bank) : List Byte :=
  [b.state.code] ++ be32 b.seq.toNat ++ countBytes b.checksum ++ [markByte b.loadable]

/-- What IMAGE_INFO reports of the operation in flight (R177): its code, and its target, FFh for an erase or for none. -/
def ImageOp.infoBytes : ImageOp → List Byte
  | .none => [0, 0xFF]
  | .save target _ _ _ => [1, target.code]
  | .eraseA => [2, 0xFF]
  | .eraseB _ => [2, 0xFF]

/-- IMAGE_INFO's own part (R177). -/
def serveImageInfo (_q : Frame) (s : State) : State × Reply :=
  (s, Reply.of .ok (s.image.bankA.infoBytes ++ s.image.bankB.infoBytes ++
    [orAbsent BankId.code s.newestComplete] ++ s.image.op.infoBytes))

/-- The SEALED lists of the store, lowest id first, as an image holds them (R173). -/
def State.sealedLists (s : State) : List SavedList :=
  allLists.filterMap fun l =>
    let r := s.list l
    if r.state = .sealed then some { id := l, label := r.label, steps := r.steps } else none

/-- A bank that holds a verified image (R175). -/
def Bank.holding (img : Image) (seq : BitVec 32) : Bank where
  state    := .complete
  seq      := seq
  checksum := crc16 (Config.imageLayout img)
  image    := some img
  agrees   := true
  mark     := true

/-- The completion of a save (R175). -/
def State.completeSave (s : State) (ok : Bool) : State :=
  match s.image.op with
  | .save target seq params autostart =>
    if ok then
      let img : Image := { lists := s.sealedLists, params := params, autostart := autostart }
      (((s.setBank target (Bank.holding img seq)).judgeBanks).endOp).produce (.image false true (some target) seq)
    else
      let s1 := ((s.setHeader target .damaged).judgeBanks).endOp
      s1.produce (.image false false (some target) s1.newestSeq)
  | .none | .eraseA | .eraseB _ => s

/-- The header of a bank that has been erased and read back (R176). -/
def erasedState (ok : Bool) : BankState := if ok then .erased else .damaged

/-- Bank A has been treated by an erase, and bank B is next (R176). -/
def State.treatedA (s : State) (ok : Bool) : State :=
  match s.image.op with
  | .eraseA =>
    let s1 := (s.setHeader .a (erasedState ok)).setHeader .b .writing
    { s1 with image := { s1.image with op := .eraseB ok } }
  | .none | .save .. | .eraseB _ => s

/-- The bank that an ERASE notice names: the failed one, FFh for both or for a success (R176). -/
def erasedBank (aOk bOk : Bool) : Option BankId :=
  match aOk, bOk with
  | false, true => some .a
  | true, false => some .b
  | _, _ => none

/-- The completion of an erase (R176). -/
def State.completeErase (s : State) (bOk : Bool) : State :=
  match s.image.op with
  | .eraseB aOk =>
    (((s.setHeader .b (erasedState bOk)).judgeBanks).endOp).produce (.image true (aOk && bOk) (erasedBank aOk bOk) 0)
  | .none | .save .. | .eraseA => s

/-! ### The autostart table (R178) -/

/-- The bytes of an occupied entry after its number (R159): the fields of AUTOSTART_SET. -/
def AutoEntry.bytes (e : AutoEntry) (p : PlayerId) : List Byte :=
  [finByte p, finByte e.list] ++ lineBytes e.lines ++
    [e.start.code, (e.start.inputOf.map finByte).getD 0, byteOf e.passLimit, stopByte e.stopIndex]

/-- The checks of an entry's fields in the order they stand (R178). -/
def autoEntryOf (p : PlayerId) (pb lb b0 b1 b2 spb inb limit stop : Byte) : Except Status AutoEntry :=
  match playerOf pb with
  | none => .error .noSuch
  | some p' =>
    if p' ≠ p then .error .badValue
    else
      match listOf lb with
      | none => .error .noSuch
      | some l =>
        match startPointOf spb inb with
        | .error st => .error st
        | .ok sp =>
          .ok { list := l, lines := linesOf b0 b1 b2, start := sp, passLimit := limit.toNat, stopIndex := stopOf stop }

/-- An entry of the table is written. -/
def State.setEntry (s : State) (p : PlayerId) (e : Option AutoEntry) : State :=
  { s with image := { s.image with autostart := { s.image.autostart with
      entries := s.image.autostart.entries.set p.val e } } }

/-- The timebase-autostart flag is written. -/
def State.setAutoTimebase (s : State) (on : Bool) : State :=
  { s with image := { s.image with autostart := { s.image.autostart with timebase := on } } }

/-- AUTOSTART_SET with an entry of 0 to 5 (R178). The reply begins with the entry number (log 17). -/
def serveAutoEntry (p : PlayerId) (fields : List Byte) (s : State) : State × Reply :=
  match fields with
  | [pb, lb, b0, b1, b2, spb, inb, limit, stop] =>
    match autoEntryOf p pb lb b0 b1 b2 spb inb limit stop with
    | .error st => refuse s st
    | .ok e =>
      if s.store.busy then refuse s .storeBusy
      else (s.setEntry p (some e), Reply.of .ok (finByte p :: fields))
  | _ => badForm s

/-- AUTOSTART_SET with entry 6 (R178). The reply begins with the entry number (log 17). -/
def serveAutoFlag (fields : List Byte) (s : State) : State × Reply :=
  match fields with
  | [flag] =>
    if flag ≠ 0 ∧ flag ≠ 1 then refuse s .badValue
    else if s.store.busy then refuse s .storeBusy
    else (s.setAutoTimebase (decide (flag = 1)), Reply.of .ok [6, flag])
  | _ => badForm s

/-- AUTOSTART_SET's own part (R178). -/
def serveAutostartSet (q : Frame) (s : State) : State × Reply :=
  match q.payload with
  | entry :: fields =>
    match playerOf entry with
    | some p => serveAutoEntry p fields s
    | none => if entry = 6 then serveAutoFlag fields s else refuse s .noSuch
  | [] => badForm s

/-- AUTOSTART_CLEAR's answer: OK, or ALREADY when nothing changed (R178). -/
def clearedReply (s s1 : State) : State × Reply :=
  (s1, Reply.bare (if s1.image.autostart = s.image.autostart then .already else .ok))

/-- AUTOSTART_CLEAR's own part (R178). -/
def serveAutostartClear (q : Frame) (s : State) : State × Reply :=
  match q.payload with
  | [entry] =>
    if entry ≠ 0xFF ∧ 6 < entry.toNat then refuse s .noSuch
    else if s.store.busy then refuse s .storeBusy
    else if entry = 0xFF then
      clearedReply s { s with image := { s.image with autostart := Autostart.empty } }
    else
      match playerOf entry with
      | some p => clearedReply s (s.setEntry p none)
      | none => clearedReply s (s.setAutoTimebase false)
  | _ => badForm s

/-- An entry as AUTOSTART_READ reports it: an occupied mark and its fields, each absent in an EMPTY one (log 17). -/
def entryBytes (p : PlayerId) : Option AutoEntry → List Byte
  | some e => markByte true :: e.bytes p
  | none => markByte false :: ([0xFF, 0xFF] ++ lineBytes 0 ++ [0xFF, 0xFF, 0xFF, 0xFF])

/-- AUTOSTART_READ's own part (R178). -/
def serveAutostartRead (_q : Frame) (s : State) : State × Reply :=
  (s, Reply.of .ok ((allPlayers.map fun p => entryBytes p s.image.autostart.entries[p.val]).flatten ++
    [markByte s.image.autostart.timebase]))

/-! ### Start-up (R179, R180) -/

/-- A list of the image enters the store SEALED under its id (R21). -/
def State.restoreList (s : State) (l : SavedList) : State :=
  let s1 := s.setList l.id (ListRec.blank |> fun r =>
    { r with
      state := .sealed, label := l.label, steps := l.steps, derived := some (footprintOf l.steps, durationOf l.steps) })
  { s1 with store := { s1.store with freeSlots := s1.store.freeSlots - l.steps.length } }

/-- The chosen image's lists, parameters and autostart table are loaded, and every line takes its loaded idle level (R116, R179). -/
def State.loadImage (s : State) (img : Image) : State :=
  let s1 := img.lists.foldl State.restoreList s
  { s1 with
    params := img.params
    lines := { s1.lines with logical := img.params.lineIdle }
    image := { s1.image with autostart := img.autostart } }

/-- A bank that makes the image result DAMAGED when no bank is loadable (R179). -/
def Bank.spoilt (b : Bank) : Bool :=
  decide (b.state = .damaged) || decide (b.state = .writing) || (decide (b.state = .complete) && !b.mark)

/-- The result when no bank is loadable (R179). -/
def State.noImage (s : State) : LoadResult :=
  { result := if s.image.bankA.spoilt || s.image.bankB.spoilt then .damaged else .none, bank := none, seq := 0 }

/-- The banks are judged and the newest loadable one is loaded (R179 step 2). -/
def State.loadBanks (s : State) : State × LoadResult :=
  let s1 := s.judgeBanks
  match s1.newest Bank.loadable with
  | some bank =>
    match (s1.bank bank).image with
    | some img => (s1.loadImage img, { result := .loaded, bank := some bank, seq := (s1.bank bank).seq })
    | none => (s1, s1.noImage)
  | none => (s1, s1.noImage)

/-- HOLD_IN is judged against the loaded HOLD_LEVEL, without a SAFE notice (R140). -/
def State.judgeHoldAtBoot (s : State) : State :=
  let active := decide (s.safe.holdIn = s.params.holdLevel)
  { s with safe := { s.safe with
      holdActive := active
      state := if active then .active else .clear
      causes := { Causes.empty with holdLine := active }
      faultPlayers := 0
      lastChange := { frame := 0, position := 0 } } }

/-- One autostart entry is taken (R180). -/
def State.runEntry (s : State) (o : Order) (p : PlayerId) : State × AutoResult :=
  match s.image.autostart.entries[p.val] with
  | none => (s, .empty)
  | some e =>
    match (s.list e.list).state, (s.list e.list).derived with
    | .sealed, some (footprint, _) =>
      if within footprint e.lines = false then (s, .footprint)
      else if (s.firstOwned e.lines).isSome then (s, .lineOwned)
      else
        let s1 := s.bindPlayer p e.list e.lines
        if s1.safeClear = false then (s1, .safeActive)
        else ((s1.startPlayer p e.start e.passLimit e.stopIndex).settle o, .ok)
    | _, _ => (s, .noList)

/-- The Timebase's part of the autostart run: with the flag on it is started as by TB_START (R180). -/
def State.autostartTimebase (s : State) (o : Order) : State :=
  if s.image.autostart.timebase then s.tbStartAction o else s

/-- The next action of a start-up (R179 steps 2 to 5; log 42): the load, the judgement of HOLD_IN, the Timebase's autostart, one
entry of the table, or with all six taken the READY notice. In READY there is none. -/
def State.startUpAction (s : State) (o : Order) : State :=
  match s.boot with
  | .booting .values => { s.loadBanks.1 with boot := .booting (.loaded s.loadBanks.2) }
  | .booting (.loaded load) => { s.judgeHoldAtBoot with boot := .booting (.judged load) }
  | .booting (.judged load) => { s.autostartTimebase o with boot := .booting (.autostart load []) }
  | .booting (.autostart load results) =>
    match allPlayers[results.length]? with
    | some p =>
      let r := s.runEntry o p
      { r.1 with boot := .booting (.autostart load (results ++ [r.2])) }
    | none => { s.produce (.ready load.result load.bank load.seq s.image.autostart.timebase results) with boot := .ready }
  | .ready => s

/-- So many actions of a start-up, one after the other. -/
def State.startUp (s : State) (o : Order) : Nat → State
  | 0 => s
  | n + 1 => (s.startUpAction o).startUp o n

/-! ### The rows -/

/-- IMAGE_SAVE (R174). -/
def execImageSave (s : State) : Host.Outcome State Fault Refusal := .next (s.take (ofKind 0x58) serveImageSave)

/-- IMAGE_ERASE (R176). -/
def execImageErase (s : State) : Host.Outcome State Fault Refusal := .next (s.take (ofKind 0x59) serveImageErase)

/-- IMAGE_INFO (R177). -/
def execImageInfo (s : State) : Host.Outcome State Fault Refusal := .next (s.take (ofKind 0x5A) serveImageInfo)

/-- AUTOSTART_SET (R178). -/
def execAutostartSet (s : State) : Host.Outcome State Fault Refusal := .next (s.take (ofKind 0x5B) serveAutostartSet)

/-- AUTOSTART_CLEAR (R178). -/
def execAutostartClear (s : State) : Host.Outcome State Fault Refusal := .next (s.take (ofKind 0x5C) serveAutostartClear)

/-- AUTOSTART_READ (R178). -/
def execAutostartRead (s : State) : Host.Outcome State Fault Refusal := .next (s.take (ofKind 0x5D) serveAutostartRead)

/-- SAVE_COMPLETION (R175): `ok` is whether the read-back agreed (log 28). -/
def execSaveCompletion (ok : Bool) (s : State) : Host.Outcome State Fault Refusal :=
  .next (s.live fun s => s.completeSave ok)

/-- ERASE_COMPLETION (R176): `ok` is whether bank B read back erased (log 28). -/
def execEraseCompletion (ok : Bool) (s : State) : Host.Outcome State Fault Refusal :=
  .next (s.live fun s => s.completeErase ok)

/-- BANK_A_TREATED (R176): `ok` is whether bank A read back erased (log 28). -/
def execBankATreated (ok : Bool) (s : State) : Host.Outcome State Fault Refusal :=
  .next (s.live fun s => s.treatedA ok)

/-- IMAGE_LOAD (R179, R180): the start-up goes on to READY, or by as many actions as the order names (log 42). -/
def execImageLoad (o : Order) (s : State) : Host.Outcome State Fault Refusal :=
  .next (s.live fun s => s.startUp o (o.actions.getD Config.startUpActions))

end Sys2Proof.Machine
end

