-- ==== Sys2Proof/Machine/DeviceRequests.lean ====
section
/-! DEFINITION. The notice queue's and the device's own requests, the two resets, and the rows of supply and RESET_N (R150, R157, R163 to
R165, R171, R179, and the reset rule of each chapter). -/

namespace Sys2Proof.Machine

/-! ### The WARM reset (R164) -/

/-- The store's part (R22): the lists stay, no use count is left, and the store-busy flag is clear. -/
def Store.warm (r : Store) : Store :=
  { r with lists := Vector.ofFn fun i => { r.lists[i.val] with useCount := 0 }, busy := false }

/-- The Timebase's part (R46); SYNC_IN goes on being followed. -/
def Timebase.warm (r : Timebase) : Timebase := { Timebase.blank with syncIn := r.syncIn }

/-- An input's part (R128): the latch alone is cleared. -/
def Input.warm (r : Input) : Input :=
  { r with pending := false, stamp := { frame := 0, position := 0 }, level := false, doubled := false }

/-- The link's part (R151): filled replies, the frame being sent, the receiver and the rate are kept. -/
def Link.warm (r : Link) : Link := { r with inbox := [], cache := [], reject := none }

/-- The Notice Queue's part (R172): the notice sequence is kept. -/
def Notices.warm (r : Notices) : Notices := { Notices.blank with seq := r.seq }

/-- The WARM reset of every block (R164): the parameters, the autostart table and the banks are kept, an image operation is
abandoned (R175, R176), and hold active is judged at once (R140). -/
def State.warmReset (s : State) : State :=
  { s with
    boot := .ready
    reloadPending := false
    store := s.store.warm
    tb := s.tb.warm
    players := Vector.replicate 6 Player.blank
    lines := { Lines.blank with logical := s.params.lineIdle }
    inputs := Vector.ofFn fun i => s.inputs[i.val].warm
    link := s.link.warm
    notices := s.notices.warm
    image := { s.image with op := .none } }.judgeHoldAtBoot

/-! ### The start-up reset (R179 step 1) -/

/-- Every block takes its start-up values. The banks are nonvolatile (R173), and SYNC_IN and HOLD_IN go on being sampled. Hold active
is no from here to the judgement after the load, whatever the last sample of HOLD_IN (R140; log 36). -/
def State.startUpValues (s : State) : State :=
  { s with
    boot := .booting .values
    reloadPending := false
    store := Store.blank
    tb := { Timebase.blank with syncIn := s.tb.syncIn }
    params := Params.default
    players := Vector.replicate 6 Player.blank
    lines := Lines.blank
    inputs := Vector.replicate 8 Input.blank
    safe := { Safe.blank with holdIn := s.safe.holdIn }
    link := Link.blank
    notices := Notices.blank
    image := { s.image with op := .none, autostart := Autostart.empty } }

/-! ### Requests -/

/-- What the replies to NOTICE_MUTE and NOTICE_UNMUTE carry (R171). -/
def State.muteReport (s : State) : List Byte :=
  [markByte s.notices.muted, byteOf s.notices.queue.length, markByte s.notices.gap]

/-- The mute flag takes a value; ALREADY where it holds it (R171). -/
def serveMute (on : Bool) (_q : Frame) (s : State) : State × Reply :=
  if s.notices.muted = on then (s, Reply.of .already s.muteReport)
  else
    let s1 := { s with notices := { s.notices with muted := on } }
    (s1, Reply.of .ok s1.muteReport)

/-- DEVICE_STATUS's own part (R163). -/
def serveDeviceStatus (_q : Frame) (s : State) : State × Reply :=
  (s, Reply.of .ok ([0x2C, 0x06, 0x24, 0x01, s.boot.code, s.safe.state.code, s.safe.causes.code, s.tb.state.code] ++
    be16 s.store.freeSlots ++ (allPlayers.map fun p => (s.player p).state.code) ++
    [markByte s.notices.muted, markByte s.notices.gap]))

/-- A DEVICE_RESET with kind RELOAD. -/
def asksReload (q : Frame) : Bool := decide (q.kind = 0x61) && decide (q.payload = [1])

/-- A DEVICE_RESET with any other payload: WARM, or one that is refused (R157, R164; log 21). -/
def asksWarm (q : Frame) : Bool := decide (q.kind = 0x61) && !decide (q.payload = [1])

/-- DEVICE_RESET's own part with kind WARM (R164). -/
def serveResetWarm (q : Frame) (s : State) : State × Reply :=
  if q.payload = [0] then (s.warmReset, Reply.of .ok [0]) else refuse s .badValue

/-- DEVICE_RESET's own part with kind RELOAD (R165): the reset begins when this reply has been sent. -/
def serveResetReload (_q : Frame) (s : State) : State × Reply :=
  ({ s with reloadPending := true }, { status := .ok, fields := [1], effect := .reload })

/-- A KIND that names no request. -/
def unknownKind (q : Frame) : Bool := !knownKind q.kind

/-- No block serves such a request: the shared refusals have answered it (R157). -/
def serveUnknown (_q : Frame) (s : State) : State × Reply := refuse s .unknownKind

/-! ### The rows -/

/-- NOTICE_MUTE (R171). -/
def execNoticeMute (s : State) : Host.Outcome State Fault Refusal := .next (s.take (ofKind 0x50) (serveMute true))

/-- NOTICE_UNMUTE (R171). -/
def execNoticeUnmute (s : State) : Host.Outcome State Fault Refusal := .next (s.take (ofKind 0x51) (serveMute false))

/-- DEVICE_STATUS (R163). -/
def execDeviceStatus (s : State) : Host.Outcome State Fault Refusal := .next (s.take (ofKind 0x60) serveDeviceStatus)

/-- DEVICE_RESET with kind WARM (R164). -/
def execDeviceResetWarm (s : State) : Host.Outcome State Fault Refusal := .next (s.take asksWarm serveResetWarm)

/-- DEVICE_RESET with kind RELOAD (R165). -/
def execDeviceResetReload (s : State) : Host.Outcome State Fault Refusal := .next (s.take asksReload serveResetReload)

/-- A request whose KIND names none (R157). -/
def execUnknownKindRequest (s : State) : Host.Outcome State Fault Refusal := .next (s.take unknownKind serveUnknown)

/-- START_UP_RESET (R179): power-on, or RESET_N low on a part with supply. The pins are held until the effects are applied (R116,
R140, R150; log 12). -/
def execStartUpReset (cause : ResetCause) (s : State) : Host.Outcome State Fault Refusal :=
  match cause, s.phase with
  | .resetN, .off => .next s
  | _, _ => .next { s.startUpValues with phase := .held }

/-- RESET_N_RELEASE (R150): the effects of the start-up reset are applied, and the part is live. -/
def execResetNRelease (s : State) : Host.Outcome State Fault Refusal :=
  match s.phase with
  | .held => .next { s with phase := .live }
  | .off | .live => .next s

/-- POWER_FAILURE (R150): a frame being sent is cut off and an image operation is abandoned, its bank left WRITING (log 31). -/
def execPowerFailure (s : State) : Host.Outcome State Fault Refusal :=
  .next { s with
    phase := .off
    link := { s.link with tx := none }
    image := { s.image with op := .none } }

end Sys2Proof.Machine
end

