-- ==== Sys2Proof/Machine/InputEvents.lean ====
section
/-! DEFINITION. The Line Unit's, Input Unit's and Safe Unit's requests and events (R114, R115, R119 to R127, R130, R131, R135, R139). -/

namespace Sys2Proof.Machine

/-! ### Lines -/

/-- LINE_DRIVE's own part (R114). -/
def serveLineDrive (q : Frame) (s : State) : State × Reply :=
  match q.payload with
  | [b0, b1, b2, l0, l1, l2] =>
    let lines := linesOf b0 b1 b2
    let levels := linesOf l0 l1 l2
    if within levels lines = false then refuse s .badValue
    else
      match s.firstOwned lines with
      | some (line, owner) => refuseOwned s line owner
      | none => (s.writeLines lines levels, Reply.of .ok (lineBytes lines))
  | _ => badForm s

/-- LINE_STATUS's own part (R115). -/
def serveLineStatus (_q : Frame) (s : State) : State × Reply :=
  (s, Reply.of .ok ((allLines.map fun l => orAbsent finByte (s.owner l)) ++ lineBytes s.lines.logical ++
    lineBytes s.presented ++ lineBytes s.params.lineIdle ++ lineBytes s.params.lineSafe))

/-! ### Watch inputs -/

def State.inEdge (s : State) (n : InputId) : InEdge := s.params.inEdge[n.val]

def State.inFilter (s : State) (n : InputId) : Nat := s.params.inFilter[n.val]

/-- An accepted change to a level is an accepted edge under the IN_EDGE setting (R120). -/
def InEdge.selects : InEdge → Bool → Bool
  | .off, _ => false
  | .rise, level => level
  | .fall, level => !level
  | .both, _ => true

/-- The player is a consumer of the input (R122): RUNNING in EDGE_WAIT on it, or armed on it. -/
def State.consumes (s : State) (n : InputId) (p : PlayerId) : Bool :=
  let r := s.player p
  match r.state with
  | .running =>
    decide (r.activity = .edgeWait) &&
      (match s.currentStep p with
        | some st =>
          match st.action with
          | .waitEdge m _ => decide (m = n)
          | .set .. | .pulse .. | .align .. => false
        | none => false)
  | .armed => decide (r.startPoint = some (.input n))
  | .idle | .bound | .held | .faulted => false

/-- A consumer acts on the edge handed to it, with the doubled mark as the edge left it (R54, R123). -/
def State.edgeReaches (s : State) (n : InputId) (doubled : Bool) (p : PlayerId) : State :=
  let r := s.player p
  if r.state = .armed then s.beginRun p (.input n)
  else
    match s.currentStep p with
    | some st =>
      if st.strict && doubled then s.faultPlayer p .edgeDoubled
      else (s.setPlayer p { r with due := false }).endStep p st
    | none => s

/-- The latch takes the edge (R121 steps 1 and 2). -/
def Input.latchEdge (r : Input) (stamp : Stamp) : Input :=
  { r with stamp := stamp, level := r.filtered, doubled := r.pending || r.doubled, pending := true }

/-- An accepted edge (R121): the latch, the INPUT_EDGE notice, and the consumers present, released at once by one consumption
(R123). An event of the Timebase that was owed to one of them follows its edge (R100; log 5). -/
def State.acceptEdge (s : State) (n : InputId) (o : Order) : State :=
  let latch := (s.input n).latchEdge s.stamp
  let s1 := (s.setInput n latch).produce (.inputEdge n latch.level latch.doubled)
  if allPlayers.any (s1.consumes n) then
    eachPlayer o
      (fun p s' =>
        if s1.consumes n p && s'.consumes n p then (s'.edgeReaches n latch.doubled p).owedEvent p else s')
      (s1.clearLatch n)
  else s1

/-- An accepted change (R119, R120): the filtered level moves, and an edge that IN_EDGE selects is accepted. Before the first sample
after a start-up reset it stands for that sample at the level in the record and the run that differs from it (logs 8, 16). -/
def State.acceptChange (s : State) (n : InputId) (o : Order) : State :=
  let level := !(s.input n).filtered
  let s1 := s.setInput n { s.input n with filtered := level, candidate := 0, sampled := true }
  if (s.inEdge n).selects level then (s1.acceptEdge n o).settle o else s1

/-- One sample of an input (R119); the first after a start-up reset gives the filtered level and is no change (R128). -/
def State.sample (s : State) (n : InputId) (level : Bool) (o : Order) : State :=
  let r := s.input n
  if r.sampled = false then s.setInput n { r with filtered := level, sampled := true, candidate := 0 }
  else if level = r.filtered then s.setInput n { r with candidate := 0 }
  else if s.inFilter n + 1 ≤ r.candidate + 1 then s.acceptChange n o
  else s.setInput n { r with candidate := r.candidate + 1 }

/-- INPUT_READ's own part (R126). The IN_EDGE setting is its one-byte code, and the filtered level and the latch level are one byte each,
0 or 1 (log 17). -/
def serveInputRead (q : Frame) (s : State) : State × Reply :=
  match q.payload with
  | [nb, consume] =>
    match inputOf nb with
    | none => refuse s .noSuch
    | some n =>
      if consume ≠ 0 ∧ consume ≠ 1 then refuse s .badValue
      else
        let r := s.input n
        let consumed := decide (consume = 1) && r.pending
        (if consumed then s.clearLatch n else s,
          Reply.of .ok ([nb, byteOf (s.inEdge n).code, markByte r.filtered, markByte r.pending, markByte r.doubled] ++
            stampBytes r.stamp ++ [markByte r.level, markByte consumed]))
  | _ => badForm s

/-! ### The safe state -/

/-- SAFE_ENTER's own part (R131). -/
def serveSafeEnter (o : Order) (_q : Frame) (s : State) : State × Reply :=
  let report := fun s : State => [s.safe.state.code, s.safe.causes.code]
  if s.safeClear then
    let s1 := (s.enterSafe o .latched { Causes.empty with request := true }).settle o
    (s1, Reply.of .ok (report s1))
  else if s.safe.causes.request then (s, Reply.of .already (report s))
  else
    let s1 := s.changeSafe s.safe.state { s.safe.causes with request := true } s.safe.faultPlayers
    (s1, Reply.of .already (report s1))

/-- SAFE_RELEASE's own part (R135). -/
def serveSafeRelease (o : Order) (_q : Frame) (s : State) : State × Reply :=
  match s.safe.state with
  | .latched => ((s.releaseSafe o false).settle o, Reply.of .ok [s.safe.causes.code])
  | .active => refuse s .holdActive
  | .clear => refuse s .already

/-- SAFE_STATUS's own part (R139). The last sample of HOLD_IN, the SAFE_OUT level, HOLD_LEVEL and the three settings of R139 are one
byte each (log 17). -/
def serveSafeStatus (_q : Frame) (s : State) : State × Reply :=
  (s, Reply.of .ok ([s.safe.state.code, s.safe.causes.code, playersByte s.safe.faultPlayers, markByte s.safe.holdActive,
      markByte s.safe.holdIn, markByte s.params.holdLevel, markByte s.safeOut,
      markByte s.params.autoRelease, markByte s.params.autoResume, markByte s.params.faultToSafe,
      playersByte (playerSet fun p => (s.player p).heldSafe),
      playersByte (playerSet fun p => (s.player p).heldSafe && decide ((s.player p).activity ≠ .none))] ++
    stampBytes s.safe.lastChange))

/-- HOLD_IN is followed: from the start-up's judgement of it on (R140, R179). -/
def State.holdFollowed (s : State) : Bool :=
  match s.boot with
  | .booting .values | .booting (.loaded _) => false
  | .booting (.judged _) | .booting (.autostart ..) | .ready => true

/-- A new sample of HOLD_IN (R130). Before HOLD_IN is followed its level alone is recorded. -/
def State.holdSample (s : State) (level : Bool) (o : Order) : State :=
  let s1 := { s with safe := { s.safe with holdIn := level } }
  if s.holdFollowed then (s1.judgeHold o (decide (level = s.params.holdLevel))).settle o else s1

/-! ### The rows -/

/-- LINE_DRIVE (R114). -/
def execLineDrive (s : State) : Host.Outcome State Fault Refusal := .next (s.take (ofKind 0x38) serveLineDrive)

/-- LINE_STATUS (R115). -/
def execLineStatus (s : State) : Host.Outcome State Fault Refusal := .next (s.take (ofKind 0x39) serveLineStatus)

/-- INPUT_READ (R126). -/
def execInputRead (s : State) : Host.Outcome State Fault Refusal := .next (s.take (ofKind 0x3A) serveInputRead)

/-- SAFE_ENTER (R131). -/
def execSafeEnter (o : Order) (s : State) : Host.Outcome State Fault Refusal :=
  .next (s.take (ofKind 0x40) (serveSafeEnter o))

/-- SAFE_RELEASE (R135). -/
def execSafeRelease (o : Order) (s : State) : Host.Outcome State Fault Refusal :=
  .next (s.take (ofKind 0x41) (serveSafeRelease o))

/-- SAFE_STATUS (R139). -/
def execSafeStatus (s : State) : Host.Outcome State Fault Refusal := .next (s.take (ofKind 0x42) serveSafeStatus)

/-- ACCEPTED_CHANGE (R119): the run of samples that differ is complete and the change is accepted (log 8). -/
def execAcceptedChange (n : InputId) (o : Order) (s : State) : Host.Outcome State Fault Refusal :=
  .next (s.live fun s => s.acceptChange n o)

/-- INPUT_SAMPLE (R119). -/
def execInputSample (n : InputId) (level : Bool) (o : Order) (s : State) : Host.Outcome State Fault Refusal :=
  .next (s.live fun s => s.sample n level o)

/-- HOLD_IN_CHANGE (R130). While the part is held or without supply, the level is followed and nothing else happens (log 13). -/
def execHoldInChange (level : Bool) (o : Order) (s : State) : Host.Outcome State Fault Refusal :=
  match s.phase with
  | .live => .next (s.live fun s => s.holdSample level o)
  | .off | .held => .next { s with safe := { s.safe with holdIn := level } }

end Sys2Proof.Machine
end

