-- ==== Sys2Proof/WellFormed.lean ====
section
/-! DEFINITION. Which commands are well formed. Player, input and list numbers are bounded by their types; what is left to
check is the length of a frame, the LEN byte of a bad one, the agents of an order, and the actions of a start-up. -/

namespace Sys2Proof

/-- A LEN byte that the receiver takes (R143, R153). -/
def legalLen (n : Nat) : Bool := decide (2 ≤ n) && decide (n ≤ 250)

/-- A frame has a payload of 0 to 248 bytes (R153). -/
def Frame.wellFormed (f : Frame) : Bool := legalLen (f.payload.length + 2)

/-- The order operand names each agent once (R132, R137: each agent acts once at an event), and a number of start-up actions that
there are (R179; log 42). -/
def Order.wellFormed (o : Order) : Bool :=
  decide o.first.Nodup && o.actions.all fun n => decide (1 ≤ n) && decide (n ≤ Config.startUpActions)

/-- A command is well formed: its frame has a legal length, its bad LEN byte is not a legal one, and its order is well formed. -/
def Instr.wellFormed : Instr → Bool
  | .frameReceived f => f.wellFormed
  | .linkBadLength len => !legalLen len.toNat
  | .playerStart o => o.wellFormed
  | .playerResume o => o.wellFormed
  | .tbStart o => o.wellFormed
  | .tbStop o => o.wellFormed
  | .safeEnter o => o.wellFormed
  | .safeRelease o => o.wellFormed
  | .paramSetHoldLevel o => o.wellFormed
  | .internalTick o => o.wellFormed
  | .tickInEdge o => o.wellFormed
  | .syncInEdge _ o => o.wellFormed
  | .setDwellEnd _ o => o.wellFormed
  | .pulseTrailingEdge _ o => o.wellFormed
  | .pulseDwellEnd _ o => o.wellFormed
  | .waitEdgeTimeout _ o => o.wellFormed
  | .acceptedChange _ o => o.wellFormed
  | .holdInChange _ o => o.wellFormed
  | .imageLoad o => o.wellFormed
  | .inputSample _ _ o => o.wellFormed
  | .listCreate | .listAppend | .listTruncate | .listSeal | .listUnseal | .listDelete | .listInfo | .listRead
  | .storeInfo | .playerBind | .playerUnbind | .playerCancel | .playerStop | .playerHold | .playerSetStop
  | .playerClear | .playerStatus | .playerReplace | .playerWithdraw | .tbStatus | .lineDrive | .lineStatus
  | .inputRead | .safeStatus | .paramGet | .paramSet | .paramSetStaged | .paramSetStoppedClass
  | .paramSetSyncOutSrc | .paramSetLinkRate | .paramSetInEdge | .paramSetInFilter | .paramSetLineIdle
  | .paramSetLineSafe | .paramSetNoticeMask | .noticeMute | .noticeUnmute | .imageSave | .imageErase | .imageInfo
  | .autostartSet | .autostartClear | .autostartRead | .deviceStatus | .deviceResetWarm | .deviceResetReload
  | .unknownKindRequest | .linkByteError | .linkTimeout | .frameSent | .syncOutPulseEnd | .saveCompletion _
  | .eraseCompletion _ | .startUpReset _ | .sofReceived | .bankATreated _ | .resetNRelease | .powerFailure => true

end Sys2Proof
end

