-- ==== Sys2Proof/Machine/LinkEvents.lean ====
section
/-! DEFINITION. The receiver bit by bit and byte by byte, and the end of a sent frame (R141 to R149, R165). -/

namespace Sys2Proof.Machine

/-! ### The receiver (R143, R144) -/

/-- The frame in progress has all its bytes and both check bytes, and is judged (R143). -/
def State.judgeFrame (s : State) (got : List Byte) (check : BitVec 16) : State :=
  match got with
  | tag :: kind :: payload =>
    if frameCheck tag kind payload = check then
      (s.setRx .hunt none).enterInbox { tag := tag, kind := kind, payload := payload, check := check }
    else s.linkError .badCheck
  | _ => s.linkError .badCheck

/-- One received byte without a stop-bit error (R143). -/
def State.rxByte (s : State) (b : Byte) : State :=
  match s.link.rx with
  | .hunt => if b = 0xA5 then s.setRx .length (some 0) else s
  | .length => if legalLen b.toNat then s.setRx (.body b.toNat []) (some 0) else s.linkError .badLength
  | .body len got =>
    if got.length + 1 < len then s.setRx (.body len (got ++ [b])) (some 0)
    else s.setRx (.check (got ++ [b]) none) (some 0)
  | .check got none => s.setRx (.check got (some b)) (some 0)
  | .check got (some hi) => s.judgeFrame got (word16 hi b)

/-- A byte with a stop-bit error: inside a frame it is a receive error, in HUNT it is discarded without a notice (R144). -/
def State.byteError (s : State) : State := if s.link.rx.inFrame then s.linkError .byteError else s

/-- The ten levels of one UART byte on LINK_RX (R141): with the stop bit high the byte is received, with it low it has a stop-bit
error and its data bits are not used. Levels that do not begin with a start bit are no byte. -/
def State.rxUart (s : State) (levels : List Bool) : State :=
  match uartByte levels with
  | some (b, true) => s.rxByte b
  | some (_, false) => s.byteError
  | none => s

/-- Bytes received one after another, each as its levels on the line. -/
def State.rxBytes (s : State) (bs : List Byte) : State := bs.foldl (fun s b => s.rxUart (uartBits b)) s

/-- The bytes that are still to come of a frame that ends now: all of it in HUNT, all after its SOF in LENGTH. A receiver further
inside a frame has none of it to give (log 9). -/
def bytesToCome (rx : Receiver) (f : Frame) : List Byte :=
  match rx with
  | .hunt => frameBytes f
  | .length => frameBytesAfterSof f
  | .body .. | .check .. => []

/-! ### The end of a sent frame (R142, R145, R149, R165) -/

/-- What the end of a reply does beside freeing its entry. -/
def State.replyEnd (s : State) : ReplyEffect → State
  | .plain => s
  | .setRate r => { s with link := { s.link with rate := r, rx := .hunt, timer := none } }
  | .reload => { s.startUpValues with phase := .live }

/-- The last byte of the frame being sent is out: the transmitter is free, and a reply's entry too. -/
def State.frameEnd (s : State) : State :=
  match s.link.tx with
  | none => s
  | some t =>
    let s1 := { s with link := { s.link with tx := none } }
    match t.source, s.link.replies with
    | .reply, e :: rest => ({ s1 with link := { s1.link with replies := rest } }).replyEnd e.effect
    | _, _ => s1

/-! ### The rows -/

/-- FRAME_RECEIVED (R143): the rest of a whole frame arrives and is judged. -/
def execFrameReceived (f : Frame) (s : State) : Host.Outcome State Fault Refusal :=
  .next (s.live fun s => if f.wellFormed then s.rxBytes (bytesToCome s.link.rx f) else s)

/-- LINK_BAD_LENGTH (R144): the byte taken in LENGTH is no LEN. -/
def execLinkBadLength (len : Byte) (s : State) : Host.Outcome State Fault Refusal :=
  .next (s.live fun s => if s.link.rx = .length ∧ legalLen len.toNat = false then s.rxByte len else s)

/-- LINK_BYTE_ERROR (R144): in HUNT the byte is discarded without a notice. -/
def execLinkByteError (s : State) : Host.Outcome State Fault Refusal := .next (s.live State.byteError)

/-- LINK_TIMEOUT (R144): the inter-byte timer expires in this microsecond. In any other it does nothing (log 2, log 7). -/
def execLinkTimeout (s : State) : Host.Outcome State Fault Refusal :=
  .next (s.live fun s => if s.timerExpires then s.linkError .timeout else s)

/-- FRAME_SENT (R149). -/
def execFrameSent (s : State) : Host.Outcome State Fault Refusal := .next (s.live State.frameEnd)

/-- SOF_RECEIVED (R143): an A5h byte in HUNT; inside a frame it is data and is no event of this row. -/
def execSofReceived (s : State) : Host.Outcome State Fault Refusal :=
  .next (s.live fun s => if s.link.rx = .hunt then s.rxByte 0xA5 else s)

end Sys2Proof.Machine
end

