-- ==== Sys2Proof/Machine/ParamRequests.lean ====
section
/-! DEFINITION. The parameter table's requests (R38, R40, R42, R112, R113, R119, R120, R130, R142, R160 to R162, R167). -/

namespace Sys2Proof.Machine

/-- The number of indices of a parameter, absent for an id that is not in the table; a parameter without an index takes index 0
alone (R160, R161). -/
def paramIndices (id : Byte) : Option Nat :=
  if 0x01 ≤ id ∧ id ≤ 0x08 then some 1
  else if id = 0x10 ∨ id = 0x11 then some 8
  else if id = 0x18 ∨ id = 0x19 then some 24
  else if 0x20 ≤ id ∧ id ≤ 0x23 then some 1
  else if id = 0x28 ∨ id = 0x30 then some 1
  else none

/-- The id and index name a parameter (R161). -/
def paramNamed (id index : Byte) : Bool :=
  match paramIndices id with
  | some n => decide (index.toNat < n)
  | none => false

/-- A value is one of the parameter's values (R160, R162). -/
def paramInRange (id : Byte) (v : Nat) : Bool :=
  if id = 0x01 then decide (v ≤ 1)
  else if id = 0x02 then decide (1 ≤ v)
  else if id = 0x03 then decide (16 ≤ v)
  else if id = 0x04 then decide (1 ≤ v) && decide (v ≤ 256)
  else if id = 0x05 then decide (v ≤ 3)
  else if id = 0x06 then decide (v ≤ 1)
  else if id = 0x07 then decide (v ≤ 9)
  else if id = 0x08 then decide (v ≤ 255)
  else if id = 0x10 then decide (v ≤ 3)
  else if id = 0x11 then decide (v ≤ 15)
  else if id = 0x28 then decide (v < 0x8000)
  else if id = 0x30 then decide (v ≤ 3)
  else decide (v ≤ 1)

/-- The value in force of a parameter, as its code (R160). -/
def State.paramValue (s : State) (id index : Byte) : Nat :=
  if id = 0x01 then s.params.tickSource.code
  else if id = 0x02 then s.params.tickDiv
  else if id = 0x03 then s.params.frameLen
  else if id = 0x04 then s.params.superLen
  else if id = 0x05 then s.params.syncMode.code
  else if id = 0x06 then s.params.syncEdge.code
  else if id = 0x07 then s.params.syncOutSrc.code
  else if id = 0x08 then s.params.fitMargin
  else if id = 0x10 then (s.params.inEdge[index.toNat]?.map InEdge.code).getD 0
  else if id = 0x11 then s.params.inFilter[index.toNat]?.getD 0
  else if id = 0x18 then boolCode (s.params.lineIdle.getLsbD index.toNat)
  else if id = 0x19 then boolCode (s.params.lineSafe.getLsbD index.toNat)
  else if id = 0x20 then boolCode s.params.holdLevel
  else if id = 0x21 then boolCode s.params.autoRelease
  else if id = 0x22 then boolCode s.params.autoResume
  else if id = 0x23 then boolCode s.params.faultToSafe
  else if id = 0x28 then s.params.noticeMask.toNat
  else s.link.rate.code

/-- The rate that a reply entry will set. -/
def ReplyEntry.rate (e : ReplyEntry) : Option LinkRate :=
  match e.effect with
  | .setRate r => some r
  | .plain | .reload => none

/-- The pending LINK_RATE: that of the latest accepted set whose reply is still unsent (R161). -/
def State.pendingRate (s : State) : Option LinkRate := s.link.replies.reverse.findSome? ReplyEntry.rate

/-- The pending value of a parameter (R161). -/
def State.paramPending (s : State) (id : Byte) : Option Nat :=
  if id = 0x03 then s.tb.pendFrameLen
  else if id = 0x04 then s.tb.pendSuperLen
  else if id = 0x30 then s.pendingRate.map LinkRate.code
  else none

/-- The fields of the replies to PARAM_GET and PARAM_SET (R161, R162) with a pending value. -/
def State.paramFieldsWith (s : State) (id index : Byte) (pending : Option Nat) : List Byte :=
  [id, index] ++ be16 (s.paramValue id index) ++ [markByte pending.isSome] ++ be16 (pending.getD 0)

def State.paramFields (s : State) (id index : Byte) : List Byte := s.paramFieldsWith id index (s.paramPending id)

/-- PARAM_GET's own part (R161). -/
def serveParamGet (q : Frame) (s : State) : State × Reply :=
  match q.payload with
  | [id, index] => if paramNamed id index then (s, Reply.of .ok (s.paramFields id index)) else refuse s .noSuch
  | _ => badForm s

/-- The checks of PARAM_SET in their order (R162), then what the parameter's row makes of its id, index and value. -/
def serveParamSet (own : Byte → Byte → Nat → State → State × Reply) (q : Frame) (s : State) : State × Reply :=
  match q.payload with
  | [id, index, hi, lo] =>
    let v := (word16 hi lo).toNat
    if paramNamed id index = false then refuse s .noSuch
    else if paramInRange id v = false then refuse s .badValue
    else own id index v s
  | _ => badForm s

/-- The reply of an accepted set: the fields of PARAM_GET as they stand after the write (R162). -/
def State.paramReply (s : State) (status : Status) (id index : Byte) : State × Reply :=
  (s, Reply.of status (s.paramFields id index))

/-- A PARAM_SET whose payload begins with one of the ids. -/
def setsParam (ids : List Byte) (q : Frame) : Bool :=
  decide (q.kind = 0x49) &&
    (match q.payload with
      | id :: _ => ids.contains id
      | [] => false)

/-- The ids of the parameters whose sets have a row of their own. -/
def ownRowIds : List Byte := [0x01, 0x02, 0x03, 0x04, 0x05, 0x06, 0x07, 0x10, 0x11, 0x18, 0x19, 0x20, 0x28, 0x30]

/-- A PARAM_SET that no other row takes: FIT_MARGIN, AUTO_RELEASE, AUTO_RESUME, FAULT_TO_SAFE, and one that names no parameter
(log 21). -/
def setsOther (q : Frame) : Bool := decide (q.kind = 0x49) && !setsParam ownRowIds q

/-- The four LIVE parameters of the PARAM_SET row. -/
def ownParam (id index : Byte) (v : Nat) (s : State) : State × Reply :=
  let on := decide (v = 1)
  let params :=
    if id = 0x08 then { s.params with fitMargin := v }
    else if id = 0x21 then { s.params with autoRelease := on }
    else if id = 0x22 then { s.params with autoResume := on }
    else if id = 0x23 then { s.params with faultToSafe := on }
    else s.params
  ({ s with params := params }).paramReply .ok id index

/-- FRAME_LEN and SUPER_LEN (R38): in force at once while STOPPED, with any pending value dropped; else pending. -/
def ownStaged (id index : Byte) (v : Nat) (s : State) : State × Reply :=
  if s.tb.state = .stopped then
    (if id = 0x03 then
      { s with params := { s.params with frameLen := v }, tb := { s.tb with pendFrameLen := none } }
    else
      { s with params := { s.params with superLen := v }, tb := { s.tb with pendSuperLen := none } }).paramReply .ok id index
  else
    (if id = 0x03 then { s with tb := { s.tb with pendFrameLen := some v } }
    else { s with tb := { s.tb with pendSuperLen := some v } }).paramReply .pending id index

/-- TICK_SOURCE, TICK_DIV, SYNC_MODE and SYNC_EDGE (R40): while STOPPED alone. -/
def ownStoppedClass (id index : Byte) (v : Nat) (s : State) : State × Reply :=
  if s.tb.state = .stopped then
    let params :=
      if id = 0x01 then { s.params with tickSource := TickSource.ofCode v }
      else if id = 0x02 then { s.params with tickDiv := v }
      else if id = 0x05 then { s.params with syncMode := SyncMode.ofCode v }
      else { s.params with syncEdge := SyncEdge.ofCode v }
    ({ s with params := params }).paramReply .ok id index
  else refuse s .wrongState

/-- SYNC_OUT_SRC (R42): the level the new source gives at this moment. The source already in force moves nothing, a pulse under way
included (R162 against R42; log 37). -/
def ownSyncOutSrc (id index : Byte) (v : Nat) (s : State) : State × Reply :=
  let src := SyncOutSrc.ofCode v
  (if src = s.params.syncOutSrc then s
  else { s with
      params := { s.params with syncOutSrc := src }
      tb := { s.tb with syncOut := decide (src = SyncOutSrc.running) && s.ticking, syncHold := false } }).paramReply .ok id index

/-- LINK_RATE (R142, R161): accepted as pending, and the rate changes at the end of this reply. -/
def ownLinkRate (id index : Byte) (v : Nat) (s : State) : State × Reply :=
  (s, { status := .ok, fields := s.paramFieldsWith id index (some v), effect := .setRate (LinkRate.ofCode v) })

/-- HOLD_LEVEL (R130): hold active is judged afresh against the last sample. -/
def ownHoldLevel (o : Order) (id index : Byte) (v : Nat) (s : State) : State × Reply :=
  let level := decide (v = 1)
  let s1 := { s with params := { s.params with holdLevel := level } }
  ((s1.judgeHold o (decide (s1.safe.holdIn = level))).settle o).paramReply .ok id index

/-- IN_EDGE (R120): at once; OFF clears the latch's marks. -/
def ownInEdge (id index : Byte) (v : Nat) (s : State) : State × Reply :=
  match inputOf index with
  | some n =>
    let s1 := { s with params := { s.params with inEdge := s.params.inEdge.set n.val (InEdge.ofCode v) } }
    (if InEdge.ofCode v = .off then s1.clearLatch n else s1).paramReply .ok id index
  | none => refuse s .noSuch

/-- IN_FILTER (R119): it governs from the next sample. -/
def ownInFilter (id index : Byte) (v : Nat) (s : State) : State × Reply :=
  match inputOf index with
  | some n => ({ s with params := { s.params with inFilter := s.params.inFilter.set n.val v } }).paramReply .ok id index
  | none => refuse s .noSuch

/-- One line's level in a set of levels. -/
def setLevel (levels : LineSet) (line : Nat) (high : Bool) : LineSet :=
  if high then levels ||| (1#24 <<< line) else levels &&& ~~~(1#24 <<< line)

/-- LINE_IDLE (R112): the idle level alone; no logical level moves. -/
def ownLineIdle (id index : Byte) (v : Nat) (s : State) : State × Reply :=
  ({ s with params := { s.params with
      lineIdle := setLevel s.params.lineIdle index.toNat (decide (v = 1)) } }).paramReply .ok id index

/-- LINE_SAFE (R113): the safe level; the presented level follows by R111. -/
def ownLineSafe (id index : Byte) (v : Nat) (s : State) : State × Reply :=
  ({ s with params := { s.params with
      lineSafe := setLevel s.params.lineSafe index.toNat (decide (v = 1)) } }).paramReply .ok id index

/-- NOTICE_MASK (R167): it governs the productions after its take. -/
def ownNoticeMask (id index : Byte) (v : Nat) (s : State) : State × Reply :=
  ({ s with params := { s.params with noticeMask := BitVec.ofNat 16 v } }).paramReply .ok id index

/-! ### The rows -/

/-- PARAM_GET (R161). -/
def execParamGet (s : State) : Host.Outcome State Fault Refusal := .next (s.take (ofKind 0x48) serveParamGet)

/-- PARAM_SET of a parameter without a row of its own (R162). -/
def execParamSet (s : State) : Host.Outcome State Fault Refusal := .next (s.take setsOther (serveParamSet ownParam))

/-- PARAM_SET of FRAME_LEN or SUPER_LEN (R38). -/
def execParamSetStaged (s : State) : Host.Outcome State Fault Refusal :=
  .next (s.take (setsParam [0x03, 0x04]) (serveParamSet ownStaged))

/-- PARAM_SET of TICK_SOURCE, TICK_DIV, SYNC_MODE or SYNC_EDGE (R40). -/
def execParamSetStoppedClass (s : State) : Host.Outcome State Fault Refusal :=
  .next (s.take (setsParam [0x01, 0x02, 0x05, 0x06]) (serveParamSet ownStoppedClass))

/-- PARAM_SET of SYNC_OUT_SRC (R42). -/
def execParamSetSyncOutSrc (s : State) : Host.Outcome State Fault Refusal :=
  .next (s.take (setsParam [0x07]) (serveParamSet ownSyncOutSrc))

/-- PARAM_SET of LINK_RATE (R142). -/
def execParamSetLinkRate (s : State) : Host.Outcome State Fault Refusal :=
  .next (s.take (setsParam [0x30]) (serveParamSet ownLinkRate))

/-- PARAM_SET of HOLD_LEVEL (R130). -/
def execParamSetHoldLevel (o : Order) (s : State) : Host.Outcome State Fault Refusal :=
  .next (s.take (setsParam [0x20]) (serveParamSet (ownHoldLevel o)))

/-- PARAM_SET of IN_EDGE (R120). -/
def execParamSetInEdge (s : State) : Host.Outcome State Fault Refusal :=
  .next (s.take (setsParam [0x10]) (serveParamSet ownInEdge))

/-- PARAM_SET of IN_FILTER (R119). -/
def execParamSetInFilter (s : State) : Host.Outcome State Fault Refusal :=
  .next (s.take (setsParam [0x11]) (serveParamSet ownInFilter))

/-- PARAM_SET of LINE_IDLE (R112). -/
def execParamSetLineIdle (s : State) : Host.Outcome State Fault Refusal :=
  .next (s.take (setsParam [0x18]) (serveParamSet ownLineIdle))

/-- PARAM_SET of LINE_SAFE (R113). -/
def execParamSetLineSafe (s : State) : Host.Outcome State Fault Refusal :=
  .next (s.take (setsParam [0x19]) (serveParamSet ownLineSafe))

/-- PARAM_SET of NOTICE_MASK (R167). -/
def execParamSetNoticeMask (s : State) : Host.Outcome State Fault Refusal :=
  .next (s.take (setsParam [0x28]) (serveParamSet ownNoticeMask))

end Sys2Proof.Machine
end

