-- ==== Sys2Proof/Machine/StoreRequests.lean ====
section
/-! DEFINITION. The Cue Store's requests (R11 to R20). -/

namespace Sys2Proof.Machine

/-- A list of the store by the byte that names it, with the store-busy check of a store-changing request after it (R11). -/
def State.changeList (s : State) (b : Byte) (own : ListId → State × Reply) : State × Reply :=
  match listOf b with
  | none => refuse s .noSuch
  | some l => if s.store.busy then refuse s .storeBusy else own l

/-- A character that a label may hold (R4). -/
def printable (c : Byte) : Bool := decide (0x20 ≤ c.toNat) && decide (c.toNat ≤ 0x7E)

/-- The lowest-numbered FREE record (R12). -/
def State.lowestFree (s : State) : Option ListId := allLists.find? fun l => decide ((s.list l).state = .free)

/-- The record is opened as an empty OPEN list with its label (R12). -/
def State.openList (s : State) (l : ListId) (label : List Byte) : State × Reply :=
  (s.setList l { ListRec.blank with state := .opened, label := label }, Reply.of .ok [finByte l])

/-- LIST_CREATE's own part (R12): a label, an id, the store-busy flag, then the record. -/
def serveListCreate (q : Frame) (s : State) : State × Reply :=
  match q.payload with
  | id :: label =>
    if label.all printable = false then refuse s .badValue
    else if listOf id = none ∧ id ≠ 0xFF then refuse s .noSuch
    else if s.store.busy then refuse s .storeBusy
    else if id = 0xFF then
      match s.lowestFree with
      | some l => s.openList l label
      | none => refuse s .noSuch
    else
      match listOf id with
      | some l => if (s.list l).state = .free then s.openList l label else refuse s .wrongState
      | none => refuse s .noSuch
  | [] => badForm s

/-- Steps are added at the end of a list and their slots leave the pool (R1, R13). -/
def State.appendSteps (s : State) (l : ListId) (steps : List Step) : State :=
  let r := s.list l
  let s1 := s.setList l { r with steps := r.steps ++ steps }
  { s1 with store := { s1.store with freeSlots := s1.store.freeSlots - steps.length } }

/-- LIST_APPEND's own part (R13). The number in an INVALID_STEP reply is one byte (R8; log 17). -/
def serveListAppend (q : Frame) (s : State) : State × Reply :=
  match q.payload with
  | id :: body =>
    s.changeList id fun l =>
      if (s.list l).state ≠ .opened then refuse s .wrongState
      else
        match stepsOf 0 (stepRecords body) with
        | .error k => (s, Reply.of .invalidStep [byteOf k])
        | .ok steps =>
          if Config.listSteps < (s.list l).steps.length + steps.length then refuse s .listFull
          else if s.store.freeSlots < steps.length then refuse s .storeFull
          else
            let s1 := s.appendSteps l steps
            (s1, Reply.of .ok (byteOf (s1.list l).steps.length :: be16 s1.store.freeSlots))
  | [] => badForm s

/-- The list keeps its first `n` steps, and the slots of the others return to the pool (R1, R14). -/
def State.truncateList (s : State) (l : ListId) (n : Nat) : State :=
  let r := s.list l
  let s1 := s.setList l { r with steps := r.steps.take n }
  { s1 with store := { s1.store with freeSlots := s1.store.freeSlots + (r.steps.length - n) } }

/-- LIST_TRUNCATE's own part (R14). -/
def serveListTruncate (q : Frame) (s : State) : State × Reply :=
  match q.payload with
  | [id, len] =>
    s.changeList id fun l =>
      let count := (s.list l).steps.length
      if (s.list l).state ≠ .opened then refuse s .wrongState
      else if count < len.toNat then refuse s .badValue
      else if len.toNat = count then (s, Reply.of .already (byteOf count :: be16 s.store.freeSlots))
      else
        let s1 := s.truncateList l len.toNat
        (s1, Reply.of .ok (byteOf (s1.list l).steps.length :: be16 s1.store.freeSlots))
  | _ => badForm s

/-- What LIST_SEAL and LIST_INFO report of footprint and fixed duration: the empty set and 0 while not derived (R15, R18). -/
def ListRec.derivedBytes (r : ListRec) : List Byte :=
  match r.derived with
  | some (footprint, duration) => lineBytes footprint ++ be32 duration
  | none => lineBytes 0 ++ be32 0

/-- The record enters SEALED and its footprint and fixed duration are derived (R5, R15). -/
def ListRec.sealed (r : ListRec) : ListRec :=
  { r with state := .sealed, derived := some (footprintOf r.steps, durationOf r.steps) }

/-- LIST_SEAL's own part (R15). -/
def serveListSeal (q : Frame) (s : State) : State × Reply :=
  match q.payload with
  | [id] =>
    s.changeList id fun l =>
      let r := s.list l
      match r.state with
      | .sealed => (s, Reply.of .already r.derivedBytes)
      | .free => refuse s .wrongState
      | .opened =>
        if r.steps = [] then refuse s .wrongState
        else (s.setList l r.sealed, Reply.of .ok r.sealed.derivedBytes)
  | _ => badForm s

/-- LIST_UNSEAL's own part (R16). -/
def serveListUnseal (q : Frame) (s : State) : State × Reply :=
  match q.payload with
  | [id] =>
    s.changeList id fun l =>
      let r := s.list l
      match r.state with
      | .opened => refuse s .already
      | .free => refuse s .wrongState
      | .sealed =>
        if 0 < r.useCount then refuse s .inUse
        else (s.setList l { r with state := .opened, derived := none }, Reply.of .ok [byteOf r.steps.length])
  | _ => badForm s

/-- The record becomes FREE and its slots return to the pool (R17). -/
def State.deleteList (s : State) (l : ListId) : State :=
  let r := s.list l
  let s1 := s.setList l ListRec.blank
  { s1 with store := { s1.store with freeSlots := s1.store.freeSlots + r.steps.length } }

/-- LIST_DELETE's own part (R17). -/
def serveListDelete (q : Frame) (s : State) : State × Reply :=
  match q.payload with
  | [id] =>
    s.changeList id fun l =>
      let r := s.list l
      if r.state = .free then refuse s .already
      else if 0 < r.useCount then refuse s .inUse
      else (s.deleteList l, Reply.of .ok (be16 (s.deleteList l).store.freeSlots))
  | _ => badForm s

/-- LIST_INFO's own part (R18; the place of the derived mark is log 17's). -/
def serveListInfo (q : Frame) (s : State) : State × Reply :=
  match q.payload with
  | [id] =>
    match listOf id with
    | none => refuse s .noSuch
    | some l =>
      let r := s.list l
      (s, Reply.of .ok ([finByte l, r.state.code, byteOf r.label.length] ++ r.label ++ [byteOf r.steps.length] ++
        r.derivedBytes ++ [markByte r.derived.isSome, byteOf r.useCount]))
  | _ => badForm s

/-- LIST_READ's own part (R19). -/
def serveListRead (q : Frame) (s : State) : State × Reply :=
  match q.payload with
  | [id, first, count] =>
    if first = 0xFF ∨ count = 0 ∨ 16 < count.toNat then refuse s .badValue
    else
      match listOf id with
      | none => refuse s .noSuch
      | some l =>
        let r := s.list l
        if r.state = .free then refuse s .wrongState
        else if r.steps.length ≤ first.toNat then refuse s .badValue
        else
          let steps := (r.steps.drop first.toNat).take count.toNat
          (s, Reply.of .ok ([id, first, byteOf steps.length] ++ (steps.map Step.record).flatten))
  | _ => badForm s

/-- The set of FREE list ids in 8 bytes (R159): ids 0 to 7 in the first, the lowest in the least significant bit. -/
def State.freeIdBytes (s : State) : List Byte :=
  (List.range 8).map fun k =>
    (List.range 8).foldl
      (fun acc i =>
        match s.store.lists[8 * k + i]? with
        | some r => if r.state = .free then acc ||| (1#8 <<< i) else acc
        | none => acc) 0

/-- STORE_INFO's own part (R20). -/
def serveStoreInfo (_q : Frame) (s : State) : State × Reply :=
  (s, Reply.of .ok (be16 s.store.freeSlots ++
    [byteOf (allLists.filter fun l => decide ((s.list l).state = .free)).length] ++ s.freeIdBytes ++ [markByte s.store.busy]))

/-! ### The rows -/

/-- LIST_CREATE (R12). -/
def execListCreate (s : State) : Host.Outcome State Fault Refusal := .next (s.take (ofKind 0x10) serveListCreate)

/-- LIST_APPEND (R13). -/
def execListAppend (s : State) : Host.Outcome State Fault Refusal := .next (s.take (ofKind 0x11) serveListAppend)

/-- LIST_TRUNCATE (R14). -/
def execListTruncate (s : State) : Host.Outcome State Fault Refusal := .next (s.take (ofKind 0x12) serveListTruncate)

/-- LIST_SEAL (R15). -/
def execListSeal (s : State) : Host.Outcome State Fault Refusal := .next (s.take (ofKind 0x13) serveListSeal)

/-- LIST_UNSEAL (R16). -/
def execListUnseal (s : State) : Host.Outcome State Fault Refusal := .next (s.take (ofKind 0x14) serveListUnseal)

/-- LIST_DELETE (R17). -/
def execListDelete (s : State) : Host.Outcome State Fault Refusal := .next (s.take (ofKind 0x15) serveListDelete)

/-- LIST_INFO (R18). -/
def execListInfo (s : State) : Host.Outcome State Fault Refusal := .next (s.take (ofKind 0x16) serveListInfo)

/-- LIST_READ (R19). -/
def execListRead (s : State) : Host.Outcome State Fault Refusal := .next (s.take (ofKind 0x17) serveListRead)

/-- STORE_INFO (R20). -/
def execStoreInfo (s : State) : Host.Outcome State Fault Refusal := .next (s.take (ofKind 0x18) serveStoreInfo)

end Sys2Proof.Machine
end

