-- ==== Sys2Proof/Machine/Dispatch.lean ====
section
/-! DEFINITION. The meaning of each command, one arm a row. -/

namespace Sys2Proof.Machine

def exec (i : Instr) (s : State) : Host.Outcome State Fault Refusal :=
  match i with
  | .listCreate => Sys2Proof.Machine.execListCreate s
  | .listAppend => Sys2Proof.Machine.execListAppend s
  | .listTruncate => Sys2Proof.Machine.execListTruncate s
  | .listSeal => Sys2Proof.Machine.execListSeal s
  | .listUnseal => Sys2Proof.Machine.execListUnseal s
  | .listDelete => Sys2Proof.Machine.execListDelete s
  | .listInfo => Sys2Proof.Machine.execListInfo s
  | .listRead => Sys2Proof.Machine.execListRead s
  | .storeInfo => Sys2Proof.Machine.execStoreInfo s
  | .playerBind => Sys2Proof.Machine.execPlayerBind s
  | .playerUnbind => Sys2Proof.Machine.execPlayerUnbind s
  | .playerStart o => Sys2Proof.Machine.execPlayerStart o s
  | .playerCancel => Sys2Proof.Machine.execPlayerCancel s
  | .playerStop => Sys2Proof.Machine.execPlayerStop s
  | .playerHold => Sys2Proof.Machine.execPlayerHold s
  | .playerResume o => Sys2Proof.Machine.execPlayerResume o s
  | .playerSetStop => Sys2Proof.Machine.execPlayerSetStop s
  | .playerClear => Sys2Proof.Machine.execPlayerClear s
  | .playerStatus => Sys2Proof.Machine.execPlayerStatus s
  | .playerReplace => Sys2Proof.Machine.execPlayerReplace s
  | .playerWithdraw => Sys2Proof.Machine.execPlayerWithdraw s
  | .tbStart o => Sys2Proof.Machine.execTbStart o s
  | .tbStop o => Sys2Proof.Machine.execTbStop o s
  | .tbStatus => Sys2Proof.Machine.execTbStatus s
  | .lineDrive => Sys2Proof.Machine.execLineDrive s
  | .lineStatus => Sys2Proof.Machine.execLineStatus s
  | .inputRead => Sys2Proof.Machine.execInputRead s
  | .safeEnter o => Sys2Proof.Machine.execSafeEnter o s
  | .safeRelease o => Sys2Proof.Machine.execSafeRelease o s
  | .safeStatus => Sys2Proof.Machine.execSafeStatus s
  | .paramGet => Sys2Proof.Machine.execParamGet s
  | .paramSet => Sys2Proof.Machine.execParamSet s
  | .paramSetStaged => Sys2Proof.Machine.execParamSetStaged s
  | .paramSetStoppedClass => Sys2Proof.Machine.execParamSetStoppedClass s
  | .paramSetSyncOutSrc => Sys2Proof.Machine.execParamSetSyncOutSrc s
  | .paramSetLinkRate => Sys2Proof.Machine.execParamSetLinkRate s
  | .paramSetHoldLevel o => Sys2Proof.Machine.execParamSetHoldLevel o s
  | .paramSetInEdge => Sys2Proof.Machine.execParamSetInEdge s
  | .paramSetInFilter => Sys2Proof.Machine.execParamSetInFilter s
  | .paramSetLineIdle => Sys2Proof.Machine.execParamSetLineIdle s
  | .paramSetLineSafe => Sys2Proof.Machine.execParamSetLineSafe s
  | .paramSetNoticeMask => Sys2Proof.Machine.execParamSetNoticeMask s
  | .noticeMute => Sys2Proof.Machine.execNoticeMute s
  | .noticeUnmute => Sys2Proof.Machine.execNoticeUnmute s
  | .imageSave => Sys2Proof.Machine.execImageSave s
  | .imageErase => Sys2Proof.Machine.execImageErase s
  | .imageInfo => Sys2Proof.Machine.execImageInfo s
  | .autostartSet => Sys2Proof.Machine.execAutostartSet s
  | .autostartClear => Sys2Proof.Machine.execAutostartClear s
  | .autostartRead => Sys2Proof.Machine.execAutostartRead s
  | .deviceStatus => Sys2Proof.Machine.execDeviceStatus s
  | .deviceResetWarm => Sys2Proof.Machine.execDeviceResetWarm s
  | .deviceResetReload => Sys2Proof.Machine.execDeviceResetReload s
  | .unknownKindRequest => Sys2Proof.Machine.execUnknownKindRequest s
  | .frameReceived f => Sys2Proof.Machine.execFrameReceived f s
  | .linkBadLength len => Sys2Proof.Machine.execLinkBadLength len s
  | .linkByteError => Sys2Proof.Machine.execLinkByteError s
  | .linkTimeout => Sys2Proof.Machine.execLinkTimeout s
  | .frameSent => Sys2Proof.Machine.execFrameSent s
  | .internalTick o => Sys2Proof.Machine.execInternalTick o s
  | .tickInEdge o => Sys2Proof.Machine.execTickInEdge o s
  | .syncInEdge level o => Sys2Proof.Machine.execSyncInEdge level o s
  | .syncOutPulseEnd => Sys2Proof.Machine.execSyncOutPulseEnd s
  | .setDwellEnd p o => Sys2Proof.Machine.execSetDwellEnd p o s
  | .pulseTrailingEdge p o => Sys2Proof.Machine.execPulseTrailingEdge p o s
  | .pulseDwellEnd p o => Sys2Proof.Machine.execPulseDwellEnd p o s
  | .waitEdgeTimeout p o => Sys2Proof.Machine.execWaitEdgeTimeout p o s
  | .acceptedChange n o => Sys2Proof.Machine.execAcceptedChange n o s
  | .holdInChange level o => Sys2Proof.Machine.execHoldInChange level o s
  | .saveCompletion ok => Sys2Proof.Machine.execSaveCompletion ok s
  | .eraseCompletion ok => Sys2Proof.Machine.execEraseCompletion ok s
  | .startUpReset cause => Sys2Proof.Machine.execStartUpReset cause s
  | .imageLoad o => Sys2Proof.Machine.execImageLoad o s
  | .sofReceived => Sys2Proof.Machine.execSofReceived s
  | .inputSample n level o => Sys2Proof.Machine.execInputSample n level o s
  | .bankATreated ok => Sys2Proof.Machine.execBankATreated ok s
  | .resetNRelease => Sys2Proof.Machine.execResetNRelease s
  | .powerFailure => Sys2Proof.Machine.execPowerFailure s

end Sys2Proof.Machine
end

