-- ==== Sys2Proof/Safety.lean ====
section
/-! DEFINITION. What statements about the part speak of: a request that may be taken, the state that a take leaves, and the conditions
that every run keeps. -/

namespace Sys2Proof.Machine

/-! ### Takes -/

/-- The request `q` is at the front of the inbox, with `rest` behind it, and may be taken (R156). -/
def State.front (s : State) (q : Frame) (rest : List Frame) : Prop :=
  s.phase = .live ∧ s.reloadPending = false ∧ s.link.inbox = q :: rest

/-- In READY, the request at the front is one of the KIND with the payload (R156, R157). -/
def State.asked (s : State) (kind : Byte) (payload : List Byte) (q : Frame) (rest : List Frame) : Prop :=
  s.front q rest ∧ s.boot = .ready ∧ q.kind = kind ∧ q.payload = payload

/-- The state with the taken request out of the inbox (R145). -/
def State.taking (s : State) (rest : List Frame) : State := { s with link := { s.link with inbox := rest } }

/-- The outcome of a take: the state that the request's effect leaves, with the reply queued and cached (R145, R147), and the
transmitter busy with what is ready (R149). -/
def State.answered (s : State) (q : Frame) (st : Status) (fields : List Byte) : Host.Outcome State Fault Refusal :=
  .next ((s.queueReply q (Reply.of st fields)).transmit)

/-- A player's record after a safe entry has reached it (R133): a RUNNING one is frozen, an ARMED one returns to BOUND. -/
def Player.frozen (r : Player) : Player :=
  match r.state with
  | .running => { r with state := .held, holdCause := some .safe, due := false, owed := r.owed.map Owed.lose }
  | .armed => { r with state := .bound, startPoint := none, owed := r.owed.map Owed.lose }
  | .idle | .bound | .held | .faulted => r

/-- A SET of the lines to the levels with a dwell above 0 and without FIT and NOTE: it begins at its admission and stays. -/
def Step.plainSet (st : Step) (lines levels : LineSet) (dwell : BitVec 16) : Prop :=
  st.action = .set lines levels dwell ∧ dwell ≠ 0 ∧ st.fit = false ∧ st.note = false

/-- The player's list has a plain SET at the index. -/
def State.plainAt (s : State) (p : PlayerId) (i : Nat) (lines levels : LineSet) (dwell : BitVec 16) : Prop :=
  ∃ l st, (s.player p).boundList = some l ∧ (s.list l).steps[i]? = some st ∧ st.plainSet lines levels dwell

/-- The end of the player's current step leads on to a plain SET: the step is not at the stop index, carries no HALT, no hold is
pending, and the next step of the list is one (R84, R86). -/
def State.goesOn (s : State) (p : PlayerId) (lines levels : LineSet) (dwell : BitVec 16) : Prop :=
  (s.player p).stopIndex ≠ some (s.player p).index ∧ (∀ st, s.currentStep p = some st → st.halt = false) ∧
    (s.player p).holdPending = false ∧ s.plainAt p ((s.player p).index + 1) lines levels dwell

/-- The record of a player that has gone on to the plain SET after its step. -/
def Player.goneOn (r : Player) (dwell : BitVec 16) : Player :=
  { r with index := r.index + 1, activity := .stepping, remaining := dwell.toNat, deferred := false, due := false }

/-- The record of a RUNNING player whose plain SET at step 0 is admitted: it begins with the pass, or is deferred where a pass has
begun in this tick (R87). -/
def Player.atStepZero (r : Player) (dwell : BitVec 16) : Player :=
  if r.passBegun then { r with index := 0, activity := .stepping, remaining := 0, deferred := true, due := false }
  else { r with index := 0, activity := .stepping, remaining := dwell.toNat, deferred := false, due := false, passBegun := true }

/-- The record of a player that has gone to FAULTED on its step (R89). -/
def Player.faultedBy (r : Player) (cause : FaultCause) : Player :=
  { r with
    state := .faulted, faultCause := some cause, activity := .none, remaining := 0, relaunch := false, holdPending := false,
    replacement := none, deferred := false, due := false, owed := none }

/-- The player is in EDGE_WAIT on its step `st`, a WAIT_EDGE of the input; it may be frozen in it. -/
def State.inWait (s : State) (p : PlayerId) (st : Step) (n : InputId) : Prop :=
  (s.player p).activity = .edgeWait ∧ s.currentStep p = some st ∧ ∃ timeout, st.action = .waitEdge n timeout

/-- The input's record with its latch consumed: stamp and level are kept (R118). -/
def Input.consumed (r : Input) : Input := { r with pending := false, doubled := false }

/-- The row ends the step `st` that the player is on: its phase is the step's last, and its tick is due (R49, R51, R52, R55). -/
def State.phaseOver (s : State) (c : Instr) (p : PlayerId) (o : Order) (st : Step) : Prop :=
  s.phase = .live ∧ (s.player p).state = .running ∧ (s.player p).due = true ∧ s.currentStep p = some st ∧
    ((c = .setDwellEnd p o ∧ isSet st.action = true ∧ (s.player p).activity = .stepping) ∨
      (c = .pulseDwellEnd p o ∧ isPulse st.action = true ∧ (s.player p).activity = .stepping) ∨
      (c = .waitEdgeTimeout p o ∧ isWait st.action = true ∧ (s.player p).activity = .edgeWait ∧ st.timeoutFault = false))

/-- The requests that a row takes; none for the row of an event that is no take. -/
def takesOf : Instr → Option (Frame → Bool)
  | .listCreate => some (ofKind 0x10)
  | .listAppend => some (ofKind 0x11)
  | .listTruncate => some (ofKind 0x12)
  | .listSeal => some (ofKind 0x13)
  | .listUnseal => some (ofKind 0x14)
  | .listDelete => some (ofKind 0x15)
  | .listInfo => some (ofKind 0x16)
  | .listRead => some (ofKind 0x17)
  | .storeInfo => some (ofKind 0x18)
  | .playerBind => some (ofKind 0x20)
  | .playerUnbind => some (ofKind 0x21)
  | .playerStart _ => some (ofKind 0x22)
  | .playerCancel => some (ofKind 0x23)
  | .playerStop => some (ofKind 0x24)
  | .playerHold => some (ofKind 0x25)
  | .playerResume _ => some (ofKind 0x26)
  | .playerSetStop => some (ofKind 0x27)
  | .playerClear => some (ofKind 0x28)
  | .playerStatus => some (ofKind 0x29)
  | .playerReplace => some (ofKind 0x2A)
  | .playerWithdraw => some (ofKind 0x2B)
  | .tbStart _ => some (ofKind 0x30)
  | .tbStop _ => some (ofKind 0x31)
  | .tbStatus => some (ofKind 0x32)
  | .lineDrive => some (ofKind 0x38)
  | .lineStatus => some (ofKind 0x39)
  | .inputRead => some (ofKind 0x3A)
  | .safeEnter _ => some (ofKind 0x40)
  | .safeRelease _ => some (ofKind 0x41)
  | .safeStatus => some (ofKind 0x42)
  | .paramGet => some (ofKind 0x48)
  | .paramSet => some setsOther
  | .paramSetStaged => some (setsParam [0x03, 0x04])
  | .paramSetStoppedClass => some (setsParam [0x01, 0x02, 0x05, 0x06])
  | .paramSetSyncOutSrc => some (setsParam [0x07])
  | .paramSetLinkRate => some (setsParam [0x30])
  | .paramSetHoldLevel _ => some (setsParam [0x20])
  | .paramSetInEdge => some (setsParam [0x10])
  | .paramSetInFilter => some (setsParam [0x11])
  | .paramSetLineIdle => some (setsParam [0x18])
  | .paramSetLineSafe => some (setsParam [0x19])
  | .paramSetNoticeMask => some (setsParam [0x28])
  | .noticeMute => some (ofKind 0x50)
  | .noticeUnmute => some (ofKind 0x51)
  | .imageSave => some (ofKind 0x58)
  | .imageErase => some (ofKind 0x59)
  | .imageInfo => some (ofKind 0x5A)
  | .autostartSet => some (ofKind 0x5B)
  | .autostartClear => some (ofKind 0x5C)
  | .autostartRead => some (ofKind 0x5D)
  | .deviceStatus => some (ofKind 0x60)
  | .deviceResetWarm => some asksWarm
  | .deviceResetReload => some asksReload
  | .unknownKindRequest => some unknownKind
  | .frameReceived _ | .linkBadLength _ | .linkByteError | .linkTimeout | .frameSent | .internalTick _ | .tickInEdge _
  | .syncInEdge _ _ | .syncOutPulseEnd | .setDwellEnd _ _ | .pulseTrailingEdge _ _ | .pulseDwellEnd _ _
  | .waitEdgeTimeout _ _ | .acceptedChange _ _ | .holdInChange _ _ | .saveCompletion _ | .eraseCompletion _
  | .startUpReset _ | .imageLoad _ | .sofReceived | .inputSample _ _ _ | .bankATreated _ | .resetNRelease
  | .powerFailure => none

/-- No player has an event of the Timebase owed to it (log 5). -/
def State.nothingOwed (s : State) : Prop := ∀ p, (s.player p).owed = none

/-- No player has a tick due (log 4). -/
def State.nothingDue (s : State) : Prop := ∀ p, (s.player p).due = false

/-- The row makes a tick on this live part (R26, R27). -/
def State.tickedBy (s : State) (c : Instr) (o : Order) : Prop :=
  s.phase = .live ∧ s.tb.state = .running ∧
    ((c = .internalTick o ∧ s.params.tickSource = .internal ∧ s.params.tickDiv ≤ s.tb.divider + 1) ∨
      (c = .tickInEdge o ∧ s.params.tickSource = .tickIn))

/-- The tick makes a counted frame start (R25). -/
def State.frameDue (s : State) : Prop := s.params.frameLen ≤ s.tb.position + 1

/-- The counted frame start is a superframe start (R28). -/
def State.superDue (s : State) : Prop := s.frameDue ∧ (s.tb.index + 1) % s.params.superLen = 0

/-- FRAME_LEN as the frame start that the tick makes leaves it in force (R39). -/
def State.nextFrameLen (s : State) : Nat :=
  if (s.tb.index + 1) % s.params.superLen = 0 then s.tb.pendFrameLen.getD s.params.frameLen else s.params.frameLen

/-- Nothing within an event reaches a player but the event: the safe state is CLEAR, no fault escalates, nothing is due or owed. -/
def State.quiet (s : State) : Prop :=
  s.safe.state = .clear ∧ s.params.faultToSafe = false ∧ s.nothingDue ∧ s.nothingOwed

/-! ### TIMEBASE notices -/

/-- A TIMEBASE notice without a recorded stamp (R43): the event, the state, the mode and the lengths in force. -/
def State.tbBody (s : State) (event : TbEventKind) : NoticeBody :=
  .timebase event s.tb.state s.params.syncMode s.params.frameLen s.params.superLen none

/-- A commit of the pending values changes a value in force (R39). -/
def State.commitChanges (s : State) : Bool :=
  decide (s.tb.pendFrameLen.getD s.params.frameLen ≠ s.params.frameLen ∨
    s.tb.pendSuperLen.getD s.params.superLen ≠ s.params.superLen)

/-- COMMIT is produced where the superframe start's commit has changed a value that `before` had in force (R39, R43; log 19). -/
def State.sayCommit (s before : State) : State := if before.commitChanges then s.produce (s.tbBody .commit) else s

/-- `t` is what `tells` makes of a state in which the Timebase's part of the event is done: with `t`'s Timebase state, parameters and
stamp, and with the notices of `s` where nothing but the event reaches a player. -/
def State.saysInto (s t : State) (tells : State → State) : Prop :=
  ∃ u : State, t = tells u ∧ u.tb.state = t.tb.state ∧ u.params = t.params ∧ u.stamp = t.stamp ∧
    (s.quiet → u.notices = s.notices)

/-! ### Conditions that every step keeps -/

/-- The queues keep their sizes (R145, R147, R168), and a place for READY stays free while BOOTING (R168). -/
def State.bounded (s : State) : Prop :=
  s.link.inbox.length ≤ 8 ∧ s.link.replies.length + s.link.inbox.length ≤ 12 ∧ s.link.cache.length ≤ 4 ∧
    s.notices.queue.length ≤ 32 ∧ (s.boot ≠ .ready → s.notices.queue.length ≤ 31)

/-- With supply, an idle transmitter has nothing ready to begin (R149). -/
def State.nothingWaits (s : State) : Prop :=
  s.phase ≠ .off → s.link.tx = none →
    s.link.replies = [] ∧ s.link.reject = none ∧ (s.notices.muted = true ∨ s.notices.queue = [])

/-- A latch that is doubled is pending (R118, R121). -/
def State.latchesSound (s : State) : Prop := ∀ n, (s.input n).doubled = true → (s.input n).pending = true

/-- The safe record is CLEAR with hold active no, whatever the last sample of HOLD_IN. -/
def Safe.idle (r : Safe) : Prop :=
  r.state = .clear ∧ r.causes = Causes.empty ∧ r.faultPlayers = 0 ∧ r.holdActive = false

/-- While BOOTING no image operation is in flight, and what the start-up has not reached yet stands at its start-up values (R179): the
store until the load, the safe record until the judgement of HOLD_IN, the Timebase's state until its autostart, and each player until
its entry. -/
def State.bootClean (s : State) : Prop :=
  match s.boot with
  | .booting .values =>
    s.image.op = .none ∧ (∀ p, s.player p = Player.blank) ∧ s.tb.state = .stopped ∧ s.safe.idle ∧ s.store = Store.blank
  | .booting (.loaded _) => s.image.op = .none ∧ (∀ p, s.player p = Player.blank) ∧ s.tb.state = .stopped ∧ s.safe.idle
  | .booting (.judged _) => s.image.op = .none ∧ (∀ p, s.player p = Player.blank) ∧ s.tb.state = .stopped
  | .booting (.autostart _ results) =>
    s.image.op = .none ∧ results.length ≤ 6 ∧ ∀ p : PlayerId, results.length ≤ p.val → s.player p = Player.blank
  | .ready => True

/-- The claim table and the players' records agree, and an IDLE player claims nothing (R105). -/
def State.claimsAgree (s : State) : Prop :=
  (∀ (l : LineId) (p : PlayerId), s.owner l = some p ↔ (s.player p).claimed.getLsbD l.val = true) ∧
    ∀ p, (s.player p).state = .idle → (s.player p).claimed = 0

/-- How many players are bound to a list or have a pending replacement naming it (R9). -/
def State.users (s : State) (l : ListId) : Nat :=
  (allPlayers.filter fun p => decide ((s.player p).boundList = some l)).length +
    (allPlayers.filter fun p => decide ((s.player p).pendingList = some l)).length

/-- Every use count is the number of its users, a used list is SEALED, and an IDLE player uses none (R9, R69). -/
def State.usesAgree (s : State) : Prop :=
  (∀ l, (s.list l).useCount = s.users l) ∧ (∀ l, 0 < (s.list l).useCount → (s.list l).state = .sealed) ∧
    ∀ p, (s.player p).state = .idle → (s.player p).boundList = none ∧ (s.player p).replacement = none

/-- The steps of all lists. -/
def State.stepsHeld (s : State) : Nat := (allLists.map fun l => (s.list l).steps.length).sum

/-- The lists of an image fit the store: each id once, each list within its length, all within the pool (R1, R2, R173). -/
def Image.fits (img : Image) : Prop :=
  (img.lists.map SavedList.id).Nodup ∧ (∀ l ∈ img.lists, l.steps.length ≤ 255) ∧
    (img.lists.map fun l => l.steps.length).sum ≤ 2048

/-- The free slots and the steps held make up the pool, a list holds at most 255 steps, and a FREE record is blank (R1, R2); what
the banks hold fits. -/
def State.slotsAccounted (s : State) : Prop :=
  s.store.freeSlots + s.stepsHeld = 2048 ∧ (∀ l, (s.list l).steps.length ≤ 255) ∧
    (∀ l, (s.list l).state = .free → s.list l = ListRec.blank) ∧ ∀ k img, (s.bank k).image = some img → img.fits

/-- What is derived of a SEALED list is what its steps give (R5), and the lines of every list that a player is bound to or holds as
its replacement lie within its claim (R70, R92). -/
def State.playsInClaims (s : State) : Prop :=
  (∀ l, (s.list l).state = .sealed →
    (s.list l).derived = some (footprintOf (s.list l).steps, durationOf (s.list l).steps)) ∧
    ∀ p l, (s.player p).boundList = some l ∨ (s.player p).pendingList = some l →
      footprintOf (s.list l).steps &&& ~~~(s.player p).claimed = 0

/-- The safe record is one that R129 allows, and while the state is not CLEAR no player is RUNNING or ARMED (R133). -/
def State.safeSound (s : State) : Prop :=
  (s.safe.state = .clear ↔ s.safe.causes = Causes.empty) ∧ (s.safe.state = .active ↔ s.safe.holdActive = true) ∧
    (s.safe.state = .active → s.safe.causes.holdLine = true) ∧
    (s.safe.faultPlayers ≠ 0 ↔ s.safe.causes.fault = true) ∧
    (s.safe.state ≠ .clear → ∀ p, (s.player p).state ≠ .running ∧ (s.player p).state ≠ .armed)

/-- Values of the Timebase's parameters that R160 allows. -/
def Params.timed (r : Params) : Prop :=
  1 ≤ r.tickDiv ∧ 16 ≤ r.frameLen ∧ r.frameLen ≤ 65535 ∧ 1 ≤ r.superLen ∧ r.superLen ≤ 256

/-- The parameters that a save in flight will write are allowed ones. -/
def ImageOp.timed : ImageOp → Prop
  | .save _ _ params _ => params.timed
  | .none | .eraseA | .eraseB _ => True

/-- The Timebase's counts lie in their ranges (R23), the divider count is 0 with TICK_IN (R27), and a Timebase without a run stands at
position 0 with its divider count 0 (R26, R30, R36). -/
def State.timeSound (s : State) : Prop :=
  s.params.timed ∧ s.tb.position < s.params.frameLen ∧ s.tb.index < s.params.superLen ∧ s.tb.divider < s.params.tickDiv ∧
    (s.params.tickSource = .tickIn → s.tb.divider = 0) ∧
    (s.tb.state = .stopped ∨ s.tb.state = .awaitSync → s.tb.position = 0 ∧ s.tb.index = 0 ∧ s.tb.divider = 0) ∧
    (∀ n, s.tb.pendFrameLen = some n → 16 ≤ n ∧ n ≤ 65535) ∧ (∀ n, s.tb.pendSuperLen = some n → 1 ≤ n ∧ n ≤ 256) ∧
    s.image.op.timed ∧ ∀ k img, (s.bank k).image = some img → img.params.timed

end Sys2Proof.Machine
end

