-- ==== Sys2Proof/Certificates/Slice0/Obligations.lean ====
section
/-! DEFINITION. The statements for the provers. Each says what its docstring says; OBLIGATIONS.json names the rules. -/

section Statements

open Sys2Proof Sys2Proof.Machine

/-- For every command c, queue rest and state s: a step of s with c in front of rest is exec of c on s with the queue
rest. -/
def Obligations.StepRunsTheFrontCommand : Prop :=
  ∀ (c : Instr) (rest : List Instr) (s : State),
    step { s with pending := c :: rest } = exec c { s with pending := rest }

/-- The model's choice (log 7): with no command waiting, a step of a live part is a microsecond. Where the divider count
would reach TICK_DIV, with the Timebase RUNNING on the internal source, it is the microsecond of INTERNAL_TICK; where
the inter-byte timer would reach 5000 inside a frame, the frame is dropped as by LINK_TIMEOUT. In any other, with
nothing due or owed to a player (log 4, log 5), the divider count rises by 1 where it runs, a running timer by 1, a
SYNC_OUT level in its one microsecond falls, and nothing else changes but what the transmitter begins. A part that is
held or without supply does not move. -/
def Obligations.EmptyQueueLetsAMicrosecondPass : Prop :=
  ∀ s : State, s.pending = [] →
    let ticks := s.tb.state = .running ∧ s.params.tickSource = .internal
    let lastOfTick := ticks ∧ s.params.tickDiv ≤ s.tb.divider + 1
    let lastOfByte := s.link.rx ≠ .hunt ∧ ∃ n, s.link.timer = some n ∧ 5000 ≤ n + 1
    (s.phase ≠ .live → step s = .next s) ∧
    (s.phase = .live → lastOfTick → step s = exec (.internalTick Order.unasked) s) ∧
    (s.phase = .live → lastOfByte →
      ∃ t, step s = .next t ∧ t.link.rx = .hunt ∧ t.link.timer = none ∧ t.link.inbox = s.link.inbox ∧
        t.link.replies = s.link.replies ∧ t.link.cache = s.link.cache) ∧
    (s.phase = .live → ¬lastOfTick → ¬lastOfByte → s.nothingDue → s.nothingOwed →
      (s.safe.state ≠ .clear → ∀ p, (s.player p).state ≠ .running ∧ (s.player p).state ≠ .armed) →
      step s = .next ({ s with
        tb := { s.tb with
          divider := s.tb.divider + (if s.tb.state = .running ∧ s.params.tickSource = .internal then 1 else 0)
          syncOut := s.tb.syncOut && !s.tb.syncHold, syncHold := false }
        link := { s.link with timer := s.link.timer.map fun n => min (n + 1) 5000 } } : State).transmit)

/-- For each of the 54 take rows: with a request of the row at the front of the inbox of a live part that is not reload
pending, the row answers a next state in which exactly one reply frame more is filled, with the request's TAG and its
KIND with 80h set, in which the newest cache entry holds the request's TAG, CHECK and that reply, in which the cache
holds at most four entries if it did before, and in which the request has left the inbox (a WARM reset that is carried
out empties the inbox). -/
def Obligations.TakeAnswersAndRecordsItsRequest : Prop :=
  ∀ (c : Instr) (mine : Frame → Bool) (s : State) (q : Frame) (rest : List Frame),
    takesOf c = some mine → mine q = true → s.front q rest →
    ∃ t e, exec c s = .next t ∧
      t.link.replies = s.link.replies ++ [e] ∧ e.frame.tag = q.tag ∧ e.frame.kind = q.kind ||| 0x80 ∧
      t.link.cache.getLast? = some { tag := q.tag, check := q.check, reply := e.frame } ∧
      (s.link.cache.length ≤ 4 → t.link.cache.length ≤ 4) ∧
      (t.link.inbox = rest ∨ (q.kind = 0x61 ∧ q.payload = [0] ∧ s.boot = .ready ∧ t.link.inbox = []))

/-- For each take row with a request of its own at the front: while BOOTING a request other than DEVICE_STATUS is answered
NOT_READY; else a KIND that names no request is answered UNKNOWN_KIND; else a payload of a length that R159 does not
allow is answered BAD_LENGTH. In each case nothing but the link changes. This is also where UNKNOWN_KIND_REQUEST
completes. -/
def Obligations.SharedRefusalsComeFirst : Prop :=
  ∀ (c : Instr) (mine : Frame → Bool) (s : State) (q : Frame) (rest : List Frame),
    takesOf c = some mine → mine q = true → s.front q rest →
    (s.boot ≠ .ready ∧ q.kind ≠ 0x60 → exec c s = (s.taking rest).answered q .notReady []) ∧
    (s.boot = .ready ∨ q.kind = 0x60 →
      (knownKind q.kind = false → exec c s = (s.taking rest).answered q .unknownKind []) ∧
      (knownKind q.kind = true → lengthAllowed q.kind q.payload.length = false →
        exec c s = (s.taking rest).answered q .badLength []))

/-- In READY with the store not busy, a LIST_CREATE with a printable label of at most 12 characters that names a FREE
record, or gives FFh while the record is the lowest FREE one, makes the record OPEN with that label, no steps, nothing
derived and use count 0, and replies OK with its id. Nothing else changes. In READY with the store not busy and the
list OPEN: a length below the step count keeps that many steps from the first, returns the other slots to the pool and
replies OK with count and free slots; a length equal to it replies ALREADY; one above it is refused with BAD_VALUE.
Nothing else changes. In READY with the store not busy. LIST_UNSEAL of a SEALED list with use count 0 makes it OPEN
with nothing derived and replies OK with the step count; with a use count above 0 it is refused with IN_USE; of an
OPEN list it replies ALREADY. LIST_DELETE of a list with use count 0 makes it a FREE record, returns its slots and
replies OK with the free slot count; with a use count above 0 it is refused with IN_USE; of a FREE one it replies
ALREADY. Nothing else changes. -/
def Obligations.ListsAreCreatedTruncatedUnsealedAndDeleted : Prop :=
  (∀ (s : State) (q : Frame) (rest : List Frame) (id : Byte) (label : List Byte) (l : ListId),
      s.asked 0x10 (id :: label) q rest → label.length ≤ 12 → label.all printable = true → s.store.busy = false →
      (s.list l).state = .free → (id = finByte l ∨ (id = 0xFF ∧ ∀ k : ListId, k < l → (s.list k).state ≠ .free)) →
      exec .listCreate s =
        ((s.taking rest).setList l { state := .opened, label := label, steps := [], derived := none, useCount := 0 }).answered
          q .ok [finByte l]) ∧
  (∀ (s : State) (q : Frame) (rest : List Frame) (l : ListId) (len : Byte),
      s.asked 0x12 [finByte l, len] q rest → s.store.busy = false → (s.list l).state = .opened →
      let count := (s.list l).steps.length
      let s1 := (s.taking rest).setList l { s.list l with steps := (s.list l).steps.take len.toNat }
      (len.toNat < count →
        exec .listTruncate s =
          ({ s1 with store := { s1.store with freeSlots := s.store.freeSlots + (count - len.toNat) } } : State).answered q .ok
            (len :: be16 (s.store.freeSlots + (count - len.toNat)))) ∧
      (len.toNat = count →
        exec .listTruncate s = (s.taking rest).answered q .already (byteOf count :: be16 s.store.freeSlots)) ∧
      (count < len.toNat → exec .listTruncate s = (s.taking rest).answered q .badValue [])) ∧
  (∀ (s : State) (q : Frame) (rest : List Frame) (l : ListId), s.store.busy = false →
      (s.asked 0x14 [finByte l] q rest →
        ((s.list l).state = .sealed → (s.list l).useCount = 0 →
          exec .listUnseal s =
            ((s.taking rest).setList l { s.list l with state := .opened, derived := none }).answered q .ok
              [byteOf (s.list l).steps.length]) ∧
        ((s.list l).state = .sealed → 0 < (s.list l).useCount →
          exec .listUnseal s = (s.taking rest).answered q .inUse []) ∧
        ((s.list l).state = .opened → exec .listUnseal s = (s.taking rest).answered q .already [])) ∧
      (s.asked 0x15 [finByte l] q rest →
        ((s.list l).state ≠ .free → (s.list l).useCount = 0 →
          let s1 := (s.taking rest).setList l
            { state := .free, label := [], steps := [], derived := none, useCount := 0 }
          exec .listDelete s =
            ({ s1 with store := { s1.store with
                freeSlots := s.store.freeSlots + (s.list l).steps.length } } : State).answered q .ok
              (be16 (s.store.freeSlots + (s.list l).steps.length))) ∧
        ((s.list l).state ≠ .free → 0 < (s.list l).useCount →
          exec .listDelete s = (s.taking rest).answered q .inUse []) ∧
        ((s.list l).state = .free → exec .listDelete s = (s.taking rest).answered q .already [])))

/-- In READY with the store not busy, a LIST_APPEND of 1 to 16 valid steps, each as its record on the wire, to an OPEN
list that stays within 255 steps and the free slots: the steps stand at the end of the list in their order, their
slots leave the pool, and the reply is OK with the new step count and the free slot count. Nothing else changes. In
READY with the store not busy and the list OPEN, a LIST_APPEND of 1 to 16 records: if record k is the first that holds
no valid step, the reply is INVALID_STEP with k, in one byte by the model's choice (log 17); if every record holds one
and the list would pass 255 steps, LIST_FULL; if it would not and the pool has too few slots, STORE_FULL. The store
stays as it is. In READY, a payload that is not a list id and 1 to 16 records of 12 bytes is refused with BAD_LENGTH,
and, with the store not busy, one that is, to a FREE or SEALED list, with WRONG_STATE, before any of the other checks. -/
def Obligations.ListAppendAddsAllOrNothing : Prop :=
  (∀ (s : State) (q : Frame) (rest : List Frame) (l : ListId) (steps : List Step),
      s.asked 0x11 (finByte l :: (steps.map Step.record).flatten) q rest → 1 ≤ steps.length → steps.length ≤ 16 →
      (∀ st ∈ steps, st.valid = true) → s.store.busy = false → (s.list l).state = .opened →
      (s.list l).steps.length + steps.length ≤ 255 → steps.length ≤ s.store.freeSlots →
      let s1 := (s.taking rest).setList l { s.list l with steps := (s.list l).steps ++ steps }
      exec .listAppend s =
        ({ s1 with store := { s1.store with freeSlots := s.store.freeSlots - steps.length } } : State).answered q .ok
          (byteOf ((s.list l).steps.length + steps.length) :: be16 (s.store.freeSlots - steps.length))) ∧
  (∀ (s : State) (q : Frame) (rest : List Frame) (l : ListId) (records : List (List Byte)),
      s.asked 0x11 (finByte l :: records.flatten) q rest → (∀ r ∈ records, r.length = 12) →
      1 ≤ records.length → records.length ≤ 16 → s.store.busy = false → (s.list l).state = .opened →
      (∀ k, k < records.length → (records[k]?.bind Step.ofRecord) = none →
        (∀ j, j < k → (records[j]?.bind Step.ofRecord).isSome = true) →
        exec .listAppend s = (s.taking rest).answered q .invalidStep [byteOf k]) ∧
      ((∀ r ∈ records, (Step.ofRecord r).isSome = true) →
        (255 < (s.list l).steps.length + records.length →
          exec .listAppend s = (s.taking rest).answered q .listFull []) ∧
        ((s.list l).steps.length + records.length ≤ 255 → s.store.freeSlots < records.length →
          exec .listAppend s = (s.taking rest).answered q .storeFull []))) ∧
  (∀ (s : State) (q : Frame) (rest : List Frame) (l : ListId) (payload : List Byte), s.asked 0x11 payload q rest →
      ((∀ n, 1 ≤ n → n ≤ 16 → payload.length ≠ 1 + 12 * n) →
        exec .listAppend s = (s.taking rest).answered q .badLength []) ∧
      (∀ n body, 1 ≤ n → n ≤ 16 → payload = finByte l :: body → body.length = 12 * n → s.store.busy = false →
        (s.list l).state = .free ∨ (s.list l).state = .sealed →
        exec .listAppend s = (s.taking rest).answered q .wrongState []))

/-- In READY with the store not busy: an OPEN list with at least one step becomes SEALED with its footprint, the lines
that some SET or PULSE step names, and its fixed duration, the sum of dwells and widths, and the reply carries both; a
SEALED list replies ALREADY with them; a FREE list or one without steps is refused with WRONG_STATE. Nothing else
changes. -/
def Obligations.ListSealDerivesFootprintAndDuration : Prop :=
  ∀ (s : State) (q : Frame) (rest : List Frame) (l : ListId),
    s.asked 0x13 [finByte l] q rest → s.store.busy = false →
    (∀ i : Nat, (footprintOf (s.list l).steps).getLsbD i =
      (s.list l).steps.any fun st => match st.action with
        | .set lines _ _ => lines.getLsbD i
        | .pulse lines _ _ _ => lines.getLsbD i
        | .waitEdge _ _ | .align _ => false) ∧
    durationOf (s.list l).steps = ((s.list l).steps.map fun st => match st.action with
        | .set _ _ dwell => dwell.toNat
        | .pulse _ _ width dwell => width.toNat + dwell.toNat
        | .waitEdge _ _ | .align _ => 0).sum ∧
    ((s.list l).state = .opened → (s.list l).steps ≠ [] →
      exec .listSeal s =
        ((s.taking rest).setList l { s.list l with
          state := .sealed, derived := some (footprintOf (s.list l).steps, durationOf (s.list l).steps) }).answered q .ok
          (lineBytes (footprintOf (s.list l).steps) ++ be32 (durationOf (s.list l).steps))) ∧
    (∀ fp d, (s.list l).state = .sealed → (s.list l).derived = some (fp, d) →
      exec .listSeal s = (s.taking rest).answered q .already (lineBytes fp ++ be32 d)) ∧
    ((s.list l).state = .free ∨ ((s.list l).state = .opened ∧ (s.list l).steps = []) →
      exec .listSeal s = (s.taking rest).answered q .wrongState [])

/-- In READY: LIST_INFO of any list id replies OK with id, state, label length and label, step count, footprint and fixed
duration (empty and 0 while not derived), the derived mark and the use count (the mark's place is the model's choice,
log 17). LIST_READ of an OPEN or SEALED list with a first index below the step count and a count of 1 to 16 replies OK
with id, first index, the number of steps returned and their records, as many as asked or as there are. Nothing
changes. In READY, STORE_INFO with an empty payload replies OK with the free slot count, the number of FREE records,
the set of their ids in 8 bytes (id 8k+i in bit i of byte k) and the store-busy flag, whether the flag is set or not,
and changes nothing; and in a state that accounts for the pool, the free slot count is 2048 minus the steps of all
lists that are not FREE. -/
def Obligations.StoreReportsTellTheStore : Prop :=
  (∀ (s : State) (q : Frame) (rest : List Frame) (l : ListId),
      (s.asked 0x16 [finByte l] q rest →
        exec .listInfo s = (s.taking rest).answered q .ok
          ([finByte l, (s.list l).state.code, byteOf (s.list l).label.length] ++ (s.list l).label ++
            [byteOf (s.list l).steps.length] ++ lineBytes (((s.list l).derived.map Prod.fst).getD 0) ++
            be32 (((s.list l).derived.map Prod.snd).getD 0) ++
            [markByte (s.list l).derived.isSome, byteOf (s.list l).useCount])) ∧
      (∀ first count : Byte, s.asked 0x17 [finByte l, first, count] q rest → first ≠ 0xFF →
        1 ≤ count.toNat → count.toNat ≤ 16 → (s.list l).state ≠ .free → first.toNat < (s.list l).steps.length →
        exec .listRead s = (s.taking rest).answered q .ok
          ([finByte l, first, byteOf (min count.toNat ((s.list l).steps.length - first.toNat))] ++
            ((((s.list l).steps.drop first.toNat).take count.toNat).map Step.record).flatten))) ∧
  (∀ (s : State) (q : Frame) (rest : List Frame), s.asked 0x18 [] q rest →
      ∃ ids : List Byte, ids.length = 8 ∧
        (∀ l : ListId, ((ids[l.val / 8]?).getD 0).getLsbD (l.val % 8) = decide ((s.list l).state = .free)) ∧
        exec .storeInfo s = (s.taking rest).answered q .ok
          (be16 s.store.freeSlots ++ [byteOf (allLists.countP fun l => decide ((s.list l).state = .free))] ++ ids ++
            [markByte s.store.busy]) ∧
        (s.slotsAccounted → s.store.freeSlots =
          2048 - (allLists.map fun l => if (s.list l).state = .free then 0 else (s.list l).steps.length).sum))

/-- In READY with the store-busy flag set, LIST_CREATE with a list id below 40h or FFh and a printable label, LIST_APPEND,
LIST_TRUNCATE, LIST_SEAL, LIST_UNSEAL and LIST_DELETE of a list id below 40h with a payload of an allowed length,
AUTOSTART_SET of an entry 0 to 5 with legal fields and of the timebase flag, and AUTOSTART_CLEAR of 0 to 6 and of FFh
are refused with STORE_BUSY and change nothing. -/
def Obligations.StoreBusyRefusesStoreChanges : Prop :=
  ∀ (s : State) (q : Frame) (rest : List Frame) (l : ListId), s.store.busy = true →
    (∀ id label, (id = finByte l ∨ id = 0xFF) → s.asked 0x10 (id :: label) q rest → label.length ≤ 12 →
      label.all printable = true →
      exec .listCreate s = (s.taking rest).answered q .storeBusy []) ∧
    (∀ body, s.asked 0x11 (finByte l :: body) q rest → lengthAllowed 0x11 (body.length + 1) = true →
      exec .listAppend s = (s.taking rest).answered q .storeBusy []) ∧
    (∀ len, s.asked 0x12 [finByte l, len] q rest → exec .listTruncate s = (s.taking rest).answered q .storeBusy []) ∧
    (s.asked 0x13 [finByte l] q rest → exec .listSeal s = (s.taking rest).answered q .storeBusy []) ∧
    (s.asked 0x14 [finByte l] q rest → exec .listUnseal s = (s.taking rest).answered q .storeBusy []) ∧
    (s.asked 0x15 [finByte l] q rest → exec .listDelete s = (s.taking rest).answered q .storeBusy []) ∧
    (∀ flag, s.asked 0x5B [6, flag] q rest → flag = 0 ∨ flag = 1 →
      exec .autostartSet s = (s.taking rest).answered q .storeBusy []) ∧
    (∀ (p : PlayerId) (lines : LineSet) (sp : StartPoint) (limit stop : Byte),
      s.asked 0x5B ([finByte p, finByte p, finByte l] ++ lineBytes lines ++
        [sp.code, (sp.inputOf.map finByte).getD 0, limit, stop]) q rest →
      exec .autostartSet s = (s.taking rest).answered q .storeBusy []) ∧
    (∀ entry : Byte, entry.toNat ≤ 6 ∨ entry = 0xFF → s.asked 0x5C [entry] q rest →
      exec .autostartClear s = (s.taking rest).answered q .storeBusy [])

/-- For every list of bytes and every step: the bytes are accepted as that step exactly if they are the 12 bytes of the
step's record and the step is valid. So no valid step is lost or read as another, no bit of a record is dropped, and a
record with a nonzero value in a place its kind marks zero, or with a flag its kind does not take, is no step. -/
def Obligations.StepRecordHoldsExactlyOneValidStep : Prop :=
  ∀ (bytes : List Byte) (st : Step), Step.ofRecord bytes = some st ↔ bytes = st.record ∧ st.valid = true

/-- In READY, a PLAYER_BIND of an IDLE player to a SEALED list whose footprint lies within a set of unowned lines: the
player is BOUND with that list and those lines, a fresh record but for pass limit and stop index, and but for the
pass-begun flag, which keeps its value by the model's reading (log 33); each line of the set has the player as its
owner and keeps its level; the list's use count rises by 1; the reply is OK with player, list and lines; no other
record moves. If instead a line of the set is owned, the reply is LINE_OWNED with the lowest-numbered such line and
its owner (one byte each, log 17), and nothing changes. -/
def Obligations.PlayerBindAttachesListAndClaims : Prop :=
  ∀ (s : State) (q : Frame) (rest : List Frame) (p : PlayerId) (l : ListId) (lines fp : LineSet) (d : Nat),
    s.asked 0x20 (finByte p :: finByte l :: lineBytes lines) q rest → (s.player p).state = .idle →
    (s.list l).state = .sealed → (s.list l).derived = some (fp, d) → fp &&& ~~~lines = 0 →
    ((∀ k : LineId, lines.getLsbD k.val = true → s.owner k = none) →
      ∃ t, exec .playerBind s = State.answered t q .ok (finByte p :: finByte l :: lineBytes lines) ∧
        t = { s.taking rest with players := t.players, lines := t.lines, store := t.store } ∧
        t.player p = { Player.blank with
          state := .bound, boundList := some l, claimed := lines, passLimit := (s.player p).passLimit,
          stopIndex := (s.player p).stopIndex, passBegun := (s.player p).passBegun } ∧
        (∀ p', p' ≠ p → t.player p' = s.player p') ∧
        (∀ k, t.owner k = if lines.getLsbD k.val then some p else s.owner k) ∧ t.lines.logical = s.lines.logical ∧
        t.list l = { s.list l with useCount := (s.list l).useCount + 1 } ∧ (∀ l', l' ≠ l → t.list l' = s.list l') ∧
        t.store.freeSlots = s.store.freeSlots ∧ t.store.busy = s.store.busy) ∧
    (∀ (k : LineId) (p' : PlayerId), lines.getLsbD k.val = true → s.owner k = some p' →
      (∀ j : LineId, j < k → lines.getLsbD j.val = true → s.owner j = none) →
      exec .playerBind s = (s.taking rest).answered q .lineOwned [finByte k, finByte p'])

/-- In READY, a PLAYER_UNBIND of a BOUND or FAULTED player leaves its record as after a reset but for pass limit and stop
index, leaves each line that it owned without an owner and each line that it claimed at its idle level, every other
line with owner and level as they were, takes 1 from the use count of its list and of a pending replacement's list,
replies OK with player and list, and changes no other player, no parameter, no notice. In IDLE, ARMED, RUNNING or HELD
it is refused with WRONG_STATE. In READY, with the claim table and the players' records in agreement, a PLAYER_UNBIND
served for a BOUND or FAULTED player answers a next state in which every line that the player owned has no owner and
its idle level of that moment as its logical level, and every other line keeps owner and level. -/
def Obligations.PlayerUnbindReturnsToIdleAndReleases : Prop :=
  (∀ (s : State) (q : Frame) (rest : List Frame) (p : PlayerId), s.asked 0x21 [finByte p] q rest →
      ((s.player p).state = .bound ∨ (s.player p).state = .faulted →
        ∃ t, exec .playerUnbind s = State.answered t q .ok [finByte p, listByte (s.player p).boundList] ∧
          t = { s.taking rest with players := t.players, lines := t.lines, store := t.store } ∧
          (∀ k, t.owner k = if s.owner k = some p then none else s.owner k) ∧
          (∀ k : LineId, t.lines.logical.getLsbD k.val =
            if (s.player p).claimed.getLsbD k.val then s.params.lineIdle.getLsbD k.val else s.lines.logical.getLsbD k.val) ∧
          t.player p = { Player.blank with passLimit := (s.player p).passLimit, stopIndex := (s.player p).stopIndex } ∧
          (∀ p', p' ≠ p → t.player p' = s.player p') ∧
          t.store = (((s.useDownOpt (s.player p).boundList).useDownOpt (s.player p).pendingList)).store) ∧
      ((s.player p).state = .idle ∨ (s.player p).state = .armed ∨ (s.player p).state = .running ∨
          (s.player p).state = .held →
        exec .playerUnbind s = (s.taking rest).answered q .wrongState [])) ∧
  (∀ (s : State) (q : Frame) (rest : List Frame) (p : PlayerId), s.asked 0x21 [finByte p] q rest → s.claimsAgree →
      ((s.player p).state = .bound ∨ (s.player p).state = .faulted) →
      ∃ t, exec .playerUnbind s = .next t ∧
        ∀ k : LineId,
          (s.owner k = some p →
            t.owner k = none ∧ t.lines.logical.getLsbD k.val = s.params.lineIdle.getLsbD k.val) ∧
          (s.owner k ≠ some p →
            t.owner k = s.owner k ∧ t.lines.logical.getLsbD k.val = s.lines.logical.getLsbD k.val))

/-- In READY with the safe state CLEAR and nothing owed to the player (log 5), a PLAYER_START of a BOUND or ARMED player
with start point FRAME, SUPERFRAME, SYNC or INPUT makes it ARMED on that start point with the pass limit and stop
index given; the reply is PENDING from BOUND, and OK with the state ARMED from ARMED; nothing else changes. In READY,
a PLAYER_START with legal fields, nothing being owed to the player: with the safe state not CLEAR it is refused with
SAFE_ACTIVE; else of a RUNNING player without a queued relaunch it queues one and replies QUEUED, with one queued it
replies ALREADY, and in IDLE, HELD and FAULTED it is refused with WRONG_STATE. Nothing else changes. In READY with the
safe state CLEAR and nothing owed to the player (log 5), a PLAYER_START with NOW of a BOUND or ARMED player whose list
begins with a SET of dwell above 0 without FIT and NOTE: the player is RUNNING at step 0 with pass count 0, a STARTED
notice with cause NOW is produced, and the reply is OK with the state RUNNING. If no pass has begun in this tick, step
0 begins: its lines take its levels, the activity is STEPPING and the remaining count its dwell. If one has, step 0 is
deferred and no line is written. Nothing else changes. -/
def Obligations.PlayerStartBeginsArmsOrQueues : Prop :=
  (∀ (s : State) (q : Frame) (rest : List Frame) (o : Order) (p : PlayerId) (sp : StartPoint) (limit stop : Byte),
      s.asked 0x22 [finByte p, sp.code, (sp.inputOf.map finByte).getD 0, limit, stop] q rest → sp ≠ .now →
      s.safe.state = .clear → (s.player p).owed = none →
      let t := (s.taking rest).setPlayer p { s.player p with
        state := .armed, startPoint := some sp, passLimit := limit.toNat,
        stopIndex := if stop = 0xFF then none else some stop.toNat }
      ((s.player p).state = .bound → exec (.playerStart o) s = t.answered q .pending []) ∧
      ((s.player p).state = .armed → exec (.playerStart o) s = t.answered q .ok [PlayerState.armed.code])) ∧
  (∀ (s : State) (q : Frame) (rest : List Frame) (o : Order) (p : PlayerId) (sp : StartPoint) (limit stop : Byte),
      s.asked 0x22 [finByte p, sp.code, (sp.inputOf.map finByte).getD 0, limit, stop] q rest →
      (s.safe.state ≠ .clear → exec (.playerStart o) s = (s.taking rest).answered q .safeActive []) ∧
      (s.safe.state = .clear → (s.player p).state = .running →
        ((s.player p).relaunch = false → (s.player p).owed = none →
          exec (.playerStart o) s =
            ((s.taking rest).setPlayer p { s.player p with relaunch := true }).answered q .queued []) ∧
        ((s.player p).relaunch = true → exec (.playerStart o) s = (s.taking rest).answered q .already [])) ∧
      (s.safe.state = .clear →
        ((s.player p).state = .idle ∨ (s.player p).state = .held ∨ (s.player p).state = .faulted) →
        exec (.playerStart o) s = (s.taking rest).answered q .wrongState [])) ∧
  (∀ (s : State) (q : Frame) (rest : List Frame) (o : Order) (p : PlayerId) (l : ListId) (st : Step)
      (lines levels : LineSet) (dwell : BitVec 16) (limit stop : Byte),
      s.asked 0x22 [finByte p, 0, 0, limit, stop] q rest → s.safe.state = .clear → (s.player p).owed = none →
      ((s.player p).state = .bound ∨ (s.player p).state = .armed) → (s.player p).boundList = some l →
      (s.list l).steps[0]? = some st → st.action = .set lines levels dwell → st.fit = false → st.note = false → dwell ≠ 0 →
      let begun := { s.player p with
        state := .running, startPoint := none, index := 0, passCount := 0, relaunch := false, due := false,
        passLimit := limit.toNat, stopIndex := if stop = 0xFF then none else some stop.toNat }
      let s1 := (s.taking rest).produce (.started p (some l) .now)
      ((s.player p).passBegun = false →
        exec (.playerStart o) s =
          ((s1.writeLines lines levels).setPlayer p { begun with
            passBegun := true, deferred := false, activity := .stepping, remaining := dwell.toNat }).answered q .ok
            [PlayerState.running.code]) ∧
      ((s.player p).passBegun = true →
        exec (.playerStart o) s =
          (s1.setPlayer p { begun with deferred := true, activity := .stepping, remaining := 0 }).answered q .ok
            [PlayerState.running.code]))

/-- In READY, in every safe state: a PLAYER_CANCEL of an ARMED player to which nothing is owed (log 5) makes it BOUND with
no start point, keeps everything else (bound list, claimed lines, pass limit, stop index, every line, the notices) and
replies OK; of a BOUND player it replies ALREADY; in IDLE, RUNNING, HELD and FAULTED it is refused with WRONG_STATE.
In READY, in every safe state: a PLAYER_CLEAR of a FAULTED player makes it BOUND with no fault cause, index 0, pass
count 0 and activity NONE, keeps list, claim and every line's level, and replies OK; of a BOUND player it replies
ALREADY; in IDLE, ARMED, RUNNING and HELD it is refused with WRONG_STATE. Nothing else changes. In READY, with nothing
owed to the player (log 5): a PLAYER_HOLD of a RUNNING player, or of one HELD by SAFE, sets hold pending and replies
PENDING; of one HELD by another cause it replies ALREADY; in IDLE, BOUND, ARMED and FAULTED it is refused with
WRONG_STATE. Nothing else changes. In READY, a PLAYER_SET_STOP of a player in any state but IDLE makes its stop index
the value given, FFh for NONE, and replies OK with the old and the new value; in IDLE it is refused with WRONG_STATE.
Nothing else changes. -/
def Obligations.CancelClearHoldAndSetStopMoveTheRecordAlone : Prop :=
  (∀ (s : State) (q : Frame) (rest : List Frame) (p : PlayerId), s.asked 0x23 [finByte p] q rest →
      ((s.player p).state = .armed → (s.player p).owed = none →
        exec .playerCancel s =
          ((s.taking rest).setPlayer p { s.player p with state := .bound, startPoint := none }).answered q .ok []) ∧
      ((s.player p).state = .bound → exec .playerCancel s = (s.taking rest).answered q .already []) ∧
      ((s.player p).state = .idle ∨ (s.player p).state = .running ∨ (s.player p).state = .held ∨
          (s.player p).state = .faulted →
        exec .playerCancel s = (s.taking rest).answered q .wrongState [])) ∧
  (∀ (s : State) (q : Frame) (rest : List Frame) (p : PlayerId), s.asked 0x28 [finByte p] q rest →
      ((s.player p).state = .faulted →
        exec .playerClear s =
          ((s.taking rest).setPlayer p { s.player p with
            state := .bound, faultCause := none, index := 0, passCount := 0, activity := .none }).answered q .ok []) ∧
      ((s.player p).state = .bound → exec .playerClear s = (s.taking rest).answered q .already []) ∧
      ((s.player p).state = .idle ∨ (s.player p).state = .armed ∨ (s.player p).state = .running ∨
          (s.player p).state = .held →
        exec .playerClear s = (s.taking rest).answered q .wrongState [])) ∧
  (∀ (s : State) (q : Frame) (rest : List Frame) (p : PlayerId), s.asked 0x25 [finByte p] q rest →
      ((s.player p).state = .running ∨ ((s.player p).state = .held ∧ (s.player p).holdCause = some .safe) →
        (s.player p).owed = none →
        exec .playerHold s =
          ((s.taking rest).setPlayer p { s.player p with holdPending := true }).answered q .pending []) ∧
      ((s.player p).state = .held → (s.player p).holdCause ≠ some .safe →
        exec .playerHold s = (s.taking rest).answered q .already []) ∧
      ((s.player p).state = .idle ∨ (s.player p).state = .bound ∨ (s.player p).state = .armed ∨
          (s.player p).state = .faulted →
        exec .playerHold s = (s.taking rest).answered q .wrongState [])) ∧
  (∀ (s : State) (q : Frame) (rest : List Frame) (p : PlayerId) (stop : Byte), s.asked 0x27 [finByte p, stop] q rest →
      ((s.player p).state ≠ .idle → (s.player p).owed = none →
        exec .playerSetStop s =
          ((s.taking rest).setPlayer p { s.player p with
            stopIndex := if stop = 0xFF then none else some stop.toNat }).answered q .ok
            [((s.player p).stopIndex.map byteOf).getD 0xFF, stop]) ∧
      ((s.player p).state = .idle → exec .playerSetStop s = (s.taking rest).answered q .wrongState []))

/-- In READY with nothing owed to the player (log 5), a PLAYER_STOP of an ARMED, RUNNING or HELD player without a pending
PASS_END replacement sets its claimed lines to their idle levels, discards the step in flight with its remaining ticks
(0 by the model's choice, log 35) and makes it BOUND at index 0 with relaunch, hold and start point gone, pass count,
claim and list kept; the reply is OK with the state, index and pass count before. With a pending PASS_END replacement
the player is BOUND on the new list with none pending and pass count 0, the old list's use count is 1 lower, the new
list's as it was since its reservation becomes its binding, and a REPLACED notice with commit point PASS_END is
produced. Of a BOUND player it replies ALREADY; in IDLE and FAULTED it is refused with WRONG_STATE. -/
def Obligations.PlayerStopEndsTheActivity : Prop :=
  ∀ (s : State) (q : Frame) (rest : List Frame) (p : PlayerId), s.asked 0x24 [finByte p] q rest →
    let r := s.player p
    let fields := [r.state.code, byteOf r.index, byteOf r.passCount]
    let stopped := { r with
      state := .bound, relaunch := false, holdPending := false, startPoint := none, holdCause := none, index := 0,
      activity := .none, remaining := 0, deferred := false, due := false }
    let idle := { s.taking rest with lines := { s.lines with
      logical := (s.lines.logical &&& ~~~r.claimed) ||| (s.params.lineIdle &&& r.claimed) } }
    ((r.state = .armed ∨ r.state = .running ∨ r.state = .held) → r.owed = none →
      ((∀ l, r.replacement ≠ some (l, .passEnd)) →
        exec .playerStop s = (State.setPlayer idle p stopped).answered q .ok fields) ∧
      (∀ l, r.replacement = some (l, .passEnd) →
        exec .playerStop s =
          ((((State.setPlayer idle p { stopped with boundList := some l, replacement := none, passCount := 0 }).useDownOpt
            r.boundList).produce (.replaced p r.boundList l .passEnd))).answered q .ok fields)) ∧
    (r.state = .bound → exec .playerStop s = (s.taking rest).answered q .already []) ∧
    (r.state = .idle ∨ r.state = .faulted → exec .playerStop s = (s.taking rest).answered q .wrongState [])

/-- In READY with the safe state CLEAR and nothing owed to the player (log 5), PLAYER_RESUME of a HELD player replies OK
and makes it RUNNING with no hold cause. STEPPING, in PULSE_WIDTH or FIT_WAIT, in EDGE_WAIT on an input whose latch is
not pending, or in ALIGN_WAIT away from its offset or without the Timebase RUNNING, it goes on with step, activity and
remaining count as they were and nothing else changes. In ALIGN_WAIT with the Timebase RUNNING at its offset, its step
ends, and in EDGE_WAIT with the latch pending it consumes the latch, whatever FRESH says, and its step ends; where the
step leads on to a plain SET, that SET begins. With STRICT and the latch doubled, and FAULT_TO_SAFE off, it consumes
the latch and is FAULTED with cause EDGE_DOUBLED. With no step in flight (STEP_HOLD, HALT_FLAG, or SAFE after a
commit) it admits the step at its index: a plain SET there begins, at index 0 with a pass, or is deferred where a pass
has begun in this tick. Of a RUNNING player the request replies ALREADY, and otherwise it is refused with WRONG_STATE.
With the safe state not CLEAR it is refused with SAFE_ACTIVE. -/
def Obligations.PlayerResumeGoesOnWithAFrozenStep : Prop :=
  ∀ (s : State) (q : Frame) (rest : List Frame) (o : Order) (p : PlayerId), s.asked 0x26 [finByte p] q rest →
    let r := s.player p
    let running := { r with state := .running, holdCause := none }
    let s0 := s.taking rest
    (s.safe.state = .clear → r.owed = none → r.state = .held →
      (r.activity = .stepping ∨ r.activity = .pulseWidth ∨ r.activity = .fitWait ∨
        (r.activity = .edgeWait ∧ ∃ st n timeout, s.currentStep p = some st ∧ st.action = .waitEdge n timeout ∧
          (s.input n).pending = false) ∨
        (r.activity = .alignWait ∧ ∃ st offset, s.currentStep p = some st ∧ st.action = .align offset ∧
          ¬(s.tb.state = .running ∧ s.tb.position = offset.toNat)) →
        exec (.playerResume o) s = (s0.setPlayer p running).answered q .ok []) ∧
      (∀ (lines levels : LineSet) (dwell : BitVec 16),
        (∀ st offset, r.activity = .alignWait → s.currentStep p = some st → st.action = .align offset →
          s.tb.state = .running → s.tb.position = offset.toNat → s.goesOn p lines levels dwell →
          exec (.playerResume o) s =
            ((s0.writeLines lines levels).setPlayer p (running.goneOn dwell)).answered q .ok []) ∧
        (∀ st n timeout, r.activity = .edgeWait → s.currentStep p = some st → st.action = .waitEdge n timeout →
          (s.input n).pending = true → (st.strict = false ∨ (s.input n).doubled = false) → s.goesOn p lines levels dwell →
          exec (.playerResume o) s =
            (((s0.setInput n { s.input n with pending := false, doubled := false }).writeLines lines levels).setPlayer p
              (running.goneOn dwell)).answered q .ok []) ∧
        (r.activity = .none → s.plainAt p r.index lines levels dwell →
          (r.index ≠ 0 →
            exec (.playerResume o) s = ((s0.writeLines lines levels).setPlayer p { running with
              activity := .stepping, remaining := dwell.toNat, deferred := false, due := false }).answered q .ok []) ∧
          (r.index = 0 →
            exec (.playerResume o) s =
              ((if r.passBegun then s0 else s0.writeLines lines levels).setPlayer p (running.atStepZero dwell)).answered q
                .ok []))) ∧
      (∀ st n timeout, r.activity = .edgeWait → s.currentStep p = some st → st.action = .waitEdge n timeout →
        (s.input n).pending = true → st.strict = true → (s.input n).doubled = true → s.params.faultToSafe = false →
        exec (.playerResume o) s =
          (((((s0.setInput n { s.input n with pending := false, doubled := false }).idleLines r.claimed).setPlayer p {
              running with
              state := .faulted, faultCause := some .edgeDoubled, activity := .none, remaining := 0, relaunch := false,
              holdPending := false, replacement := none, deferred := false, due := false }).useDownOpt r.pendingList).produce
            (.fault p r.boundList r.index .edgeDoubled r.pendingList)).answered q .ok [])) ∧
    (s.safe.state = .clear → r.state = .running → exec (.playerResume o) s = s0.answered q .already []) ∧
    (s.safe.state = .clear → (r.state = .idle ∨ r.state = .bound ∨ r.state = .armed ∨ r.state = .faulted) →
      exec (.playerResume o) s = s0.answered q .wrongState []) ∧
    (s.safe.state ≠ .clear → exec (.playerResume o) s = s0.answered q .safeActive [])

/-- In READY with nothing owed to the player (log 5), a PLAYER_REPLACE with a SEALED list whose footprint lies within the
player's claim. In BOUND and ARMED the list is bound at once at index 0 with pass count 0, a pending replacement is
dropped, and the reply APPLIED carries player, old list, new list and the dropped list. In RUNNING and HELD it becomes
the pending replacement: PENDING with the fields where none was pending, SUPERSEDED with the old one where one was.
The use counts rise for the new list and fall for each list let go; nothing else changes. In READY with nothing owed,
in every state of the player and of the safe state: a PLAYER_WITHDRAW with a replacement pending removes it, takes 1
from its list's use count and replies OK with the list and its commit point; with none pending it replies ALREADY.
Bound list, state and step in flight are not touched and no notice is produced. -/
def Obligations.ReplaceAndWithdrawMoveTheReplacement : Prop :=
  (∀ (s : State) (q : Frame) (rest : List Frame) (p : PlayerId) (l : ListId) (point : CommitPoint) (fp : LineSet) (d : Nat),
      s.asked 0x2A [finByte p, finByte l, point.code] q rest → (s.list l).state = .sealed → (s.list l).derived = some (fp, d) →
      fp &&& ~~~(s.player p).claimed = 0 →
      let r := s.player p
      let s0 := s.taking rest
      (r.owed = none → r.state = .bound ∨ r.state = .armed →
        exec .playerReplace s =
          ((((s0.setPlayer p { r with boundList := some l, index := 0, passCount := 0, replacement := none }).useUp
            l).useDownOpt r.boundList).useDownOpt r.pendingList).answered q .applied
            [finByte p, listByte r.boundList, finByte l, listByte r.pendingList]) ∧
      (r.owed = none → r.state = .running ∨ r.state = .held →
        (r.replacement = none →
          exec .playerReplace s =
            ((s0.setPlayer p { r with replacement := some (l, point) }).useUp l).answered q .pending
              [finByte p, finByte l, point.code]) ∧
        (∀ old was, r.replacement = some (old, was) →
          exec .playerReplace s =
            (((s0.setPlayer p { r with replacement := some (l, point) }).useUp l).useDown old).answered q .superseded
              [finByte old, finByte l, point.code])) ∧
      (r.state = .idle ∨ r.state = .faulted → exec .playerReplace s = s0.answered q .wrongState [])) ∧
  (∀ (s : State) (q : Frame) (rest : List Frame) (p : PlayerId), s.asked 0x2B [finByte p] q rest →
      (∀ l point, (s.player p).replacement = some (l, point) → (s.player p).owed = none →
        exec .playerWithdraw s =
          (((s.taking rest).setPlayer p { s.player p with replacement := none }).setList l
            { s.list l with useCount := (s.list l).useCount - 1 }).answered q .ok [finByte l, point.code]) ∧
      ((s.player p).replacement = none → exec .playerWithdraw s = (s.taking rest).answered q .already []))

/-- With nothing else reaching the player (safe state CLEAR, no fault that escalates, nothing due or owed, the player not
late in the order), at a tick with a superframe start that finds a SUPERFRAME replacement pending: the player is on
the new list at index 0 with pass count 0, nothing pending, no relaunch and no step in flight (its remaining ticks 0
by the model's choice, log 35). A HELD one stays HELD with its cause, a BOUND one BOUND. A RUNNING one admits step 0
of the new list, a plain SET that begins with its pass, and neither counts the tick nor ends its phase. An ARMED one
that this event does not start stays ARMED; one that it starts runs on the new list: with the commit first its step 0
begins, with the start first it is deferred (the order of the two is free, log 30). Wherever the commit is made of a
player that is not RUNNING, a pulse cut in its width phase writes the opposite levels and no other line moves, the old
list's use count is 1 lower, and a REPLACED notice with commit point SUPERFRAME is produced. -/
def Obligations.SuperframeStartCommitsTheReplacement : Prop :=
  (∀ (s : State) (c : Instr) (p : PlayerId) (o : Order) (new : ListId) (first : Step) (lines levels : LineSet)
      (dwell : BitVec 16),
      s.tickedBy c o → s.quiet → p ∉ o.lateEvent → s.superDue → (s.player p).replacement = some (new, .superframe) →
      (s.list new).steps[0]? = some first → first.plainSet lines levels dwell →
      let r := s.player p
      let swapped := { r with
        boundList := some new, replacement := none, index := 0, passCount := 0, relaunch := false, activity := .none,
        remaining := 0, deferred := false, due := false, passBegun := false }
      let starts := r.state = .armed ∧ (r.startPoint = some .frame ∨ r.startPoint = some .superframe)
      ∃ t, exec c s = .next t ∧
        (r.state = .running → t.player p = swapped.atStepZero dwell) ∧
        (r.state = .held ∨ r.state = .bound → t.player p = swapped) ∧
        (r.state = .armed → ¬starts → t.player p = swapped) ∧
        (starts → p ∉ o.startFirst →
          t.player p = Player.atStepZero { swapped with state := .running, startPoint := none } dwell) ∧
        (∀ lines' levels' dwell', starts → p ∈ o.startFirst → s.plainAt p 0 lines' levels' dwell' →
          t.player p = Player.atStepZero { swapped with
            state := .running, startPoint := none, passBegun := true } dwell)) ∧
  (∀ (s : State) (p : PlayerId) (new : ListId), (s.player p).replacement = some (new, .superframe) →
      (s.player p).state ≠ .running →
      let r := s.player p
      let committed := fun u : State => ((u.setPlayer p { r with
        boundList := some new, replacement := none, index := 0, passCount := 0, relaunch := false, activity := .none,
        remaining := 0, deferred := false, due := false }).useDownOpt r.boundList).produce
          (.replaced p r.boundList new .superframe)
      (r.activity ≠ .pulseWidth → s.commitSuper p = committed s) ∧
      (∀ st lines levels width dwell, r.activity = .pulseWidth → s.currentStep p = some st →
        st.action = .pulse lines levels width dwell →
        s.commitSuper p = committed (s.writeLines lines (~~~levels))))

/-- The two orders of R94 and R100, by the model's means of writing them (log 5). With nothing else reaching the player, a
tick with a superframe start that the order makes late for a RUNNING player leaves its record as it is, but for the
pass-begun flag, and owes it the event. Then, with the safe state CLEAR: PLAYER_WITHDRAW first drops the replacement,
and the old list plays on, a remaining count above 1 being reduced by that tick. PLAYER_STOP first makes the player
BOUND with its lines idle (its remaining ticks 0 by the model's choice, log 35), the reply telling RUNNING, and the
SUPERFRAME replacement commits at once with the player BOUND: one REPLACED notice, the new list bound. PLAYER_HOLD
first has hold pending kept through the commit, whose step 0, a plain SET, begins with its pass, or is deferred where
a pass has begun in this tick. -/
def Obligations.LateEventReachesThePlayerAfterItsRequest : Prop :=
  (∀ (s : State) (c : Instr) (p : PlayerId) (o : Order), s.tickedBy c o → s.quiet → p ∈ o.lateEvent →
      (s.player p).state = .running → s.superDue →
      ∃ t w, exec c s = .next t ∧ t.player p = { s.player p with passBegun := false, owed := some w } ∧ w.lost = false ∧
        w.event.tick = true ∧ w.event.frame = true ∧ w.event.super = true) ∧
  (∀ (s : State) (q : Frame) (rest : List Frame) (p : PlayerId) (w : Owed) (new : ListId), s.safe.state = .clear →
      (s.player p).state = .running → (s.player p).owed = some w → w.lost = false → w.event.tick = true →
      w.event.super = true → (s.player p).replacement = some (new, .superframe) →
      let r := s.player p
      let s0 := s.taking rest
      let swapped := { r with
        boundList := some new, replacement := none, index := 0, passCount := 0, relaunch := false, activity := .none,
        remaining := 0, deferred := false, due := false, owed := none }
      (s.asked 0x2B [finByte p] q rest → r.deferred = false → r.activity = .stepping ∨ r.activity = .pulseWidth →
        1 < r.remaining →
        exec .playerWithdraw s =
          ((s0.setPlayer p { r with replacement := none, owed := none, remaining := r.remaining - 1 }).useDown new).answered
            q .ok [finByte new, CommitPoint.superframe.code]) ∧
      (s.asked 0x24 [finByte p] q rest →
        exec .playerStop s =
          ((((s0.idleLines r.claimed).setPlayer p { swapped with
            state := .bound, holdPending := false, startPoint := none, holdCause := none }).useDownOpt r.boundList).produce
              (.replaced p r.boundList new .superframe)).answered q .ok
            [PlayerState.running.code, byteOf r.index, byteOf r.passCount]) ∧
      (∀ first lines levels dwell, s.asked 0x25 [finByte p] q rest → (s.list new).steps[0]? = some first →
        first.plainSet lines levels dwell →
        ∃ t, exec .playerHold s = State.answered t q .pending [] ∧
          t.player p = Player.atStepZero { swapped with holdPending := true } dwell))

/-- With the safe state CLEAR: when SET_DWELL_END, PULSE_DWELL_END or WAIT_EDGE_TIMEOUT (without TIMEOUT_FAULT) ends a
step that is not at the stop index, carries no HALT and has no hold pending, and the next step of the list is a SET of
dwell above 0 without FIT and NOTE, the player stands at the next index, the lines of that step take its levels, the
activity is STEPPING and the remaining count its dwell. Nothing else changes but what the transmitter begins. When the
step that ends leads on to a WAIT_EDGE without NOTE: with its input's latch not pending the player is at the next
index in EDGE_WAIT with the step's timeout as remaining count; with the latch pending and FRESH the latch is consumed
and the player waits so; with it pending and without FRESH the latch is consumed and, unless STRICT and doubled, the
wait ends at its begin, going on to a plain SET that begins; with STRICT and the latch doubled (FAULT_TO_SAFE off) the
latch is consumed and the player is FAULTED with EDGE_DOUBLED on the wait. Nothing else changes but what the
transmitter begins. -/
def Obligations.StepEndMovesToTheNextStep : Prop :=
  (∀ (s : State) (c : Instr) (p : PlayerId) (o : Order) (l : ListId) (st nextStep : Step) (lines levels : LineSet)
      (dwell : BitVec 16),
      s.phaseOver c p o st → s.safe.state = .clear →
      (s.player p).stopIndex ≠ some (s.player p).index → st.halt = false → (s.player p).holdPending = false →
      (s.player p).boundList = some l → (s.list l).steps[(s.player p).index + 1]? = some nextStep →
      nextStep.action = .set lines levels dwell → nextStep.fit = false → nextStep.note = false → dwell ≠ 0 →
      exec c s = .next (((s.writeLines lines levels).setPlayer p { s.player p with
        index := (s.player p).index + 1, activity := .stepping, remaining := dwell.toNat, deferred := false,
        due := false }).transmit)) ∧
  (∀ (s : State) (c : Instr) (p : PlayerId) (o : Order) (l : ListId) (st wait : Step) (n : InputId) (timeout : BitVec 16),
      s.phaseOver c p o st → s.safe.state = .clear →
      (s.player p).stopIndex ≠ some (s.player p).index → st.halt = false → (s.player p).holdPending = false →
      (s.player p).boundList = some l → (s.list l).steps[(s.player p).index + 1]? = some wait →
      wait.action = .waitEdge n timeout → wait.note = false →
      let onto := { s.player p with index := (s.player p).index + 1 }
      let waiting := { onto with
        activity := .edgeWait, remaining := timeout.toNat, deferred := false, due := false }
      let latch := s.input n
      let consumed := s.setInput n latch.consumed
      (latch.pending = false → exec c s = .next (s.setPlayer p waiting).transmit) ∧
      (latch.pending = true → wait.fresh = true → exec c s = .next (consumed.setPlayer p waiting).transmit) ∧
      (∀ lines levels dwell, latch.pending = true → wait.fresh = false → (wait.strict && latch.doubled) = false →
        onto.stopIndex ≠ some onto.index → wait.halt = false → s.plainAt p (onto.index + 1) lines levels dwell →
        exec c s = .next ((consumed.writeLines lines levels).setPlayer p (onto.goneOn dwell)).transmit) ∧
      (latch.pending = true → wait.fresh = false → wait.strict = true → latch.doubled = true →
        s.params.faultToSafe = false →
        exec c s = .next ((((consumed.idleLines onto.claimed).setPlayer p (onto.faultedBy .edgeDoubled)).useDownOpt
          onto.pendingList).produce (.fault p (some l) onto.index .edgeDoubled onto.pendingList)).transmit))

/-- With the safe state CLEAR, no pending replacement and no relaunch queued: when one of the three rows ends a step at
the stop index, or the last step of the list with a pass limit that the raised pass count reaches, the run ends: BOUND
at index 0, no step in flight, hold pending gone, levels kept, RUN_END with cause STOP_INDEX and the pass count as it
was, or, after PASS_END, RUN_END with cause LIMIT and the raised count. With the safe state CLEAR: when one of the
three rows ends a step that is neither at the stop index nor the last of the list, and the step carries HALT or a hold
is pending, the player is HELD at the next index with no step in flight, with cause HALT_FLAG if the step carries
HALT, else STEP_HOLD, hold pending is cleared, a HALTED notice with that index and cause is produced, and no line is
written. With the safe state CLEAR: when one of the three rows ends the last step of the list, which is not at the
stop index, a PASS_END notice with the raised count is produced. Then, with a PASS_END replacement pending, it
commits: the player is on the new list with pass count 0, no relaunch and nothing pending, the old list's use count is
1 lower, and a REPLACED notice is produced. Else a queued relaunch is used up: pass count 0 and a STARTED notice with
cause RELAUNCH. Else, with passes left, the raised count stands. In each case the player is at index 0, where HALT or
a pending hold holds it with a HALTED notice, and otherwise step 0 is admitted: a plain SET there begins with its
pass, or is deferred where a pass has begun in this tick. -/
def Obligations.StepEndEndsTheRunOrHolds : Prop :=
  (∀ (s : State) (c : Instr) (p : PlayerId) (o : Order) (l : ListId) (st : Step),
      s.phaseOver c p o st → s.safe.state = .clear → (s.player p).boundList = some l →
      (s.player p).replacement = none → (s.player p).relaunch = false →
      let r := s.player p
      let ended := { r with
        state := .bound, index := 0, activity := .none, remaining := 0, holdPending := false, deferred := false, due := false }
      (r.stopIndex = some r.index →
        exec c s = .next (((s.setPlayer p ended).produce (.runEnd p (some l) .stopIndex r.passCount)).transmit)) ∧
      (r.stopIndex ≠ some r.index → (s.list l).steps.length = r.index + 1 → r.passLimit ≠ 0 →
        r.passLimit ≤ (r.passCount + 1) % 256 →
        exec c s = .next (((((s.produce (.passEnd p (some l) ((r.passCount + 1) % 256)))).setPlayer p
          { ended with passCount := (r.passCount + 1) % 256 }).produce
            (.runEnd p (some l) .limit ((r.passCount + 1) % 256))).transmit))) ∧
  (∀ (s : State) (c : Instr) (p : PlayerId) (o : Order) (l : ListId) (st : Step),
      s.phaseOver c p o st → s.safe.state = .clear → (s.player p).boundList = some l →
      (s.player p).stopIndex ≠ some (s.player p).index → (s.player p).index + 1 < (s.list l).steps.length →
      (st.halt = true ∨ (s.player p).holdPending = true) →
      let cause := if st.halt then HoldCause.haltFlag else HoldCause.stepHold
      exec c s = .next (((s.setPlayer p { s.player p with
        state := .held, holdCause := some cause, holdPending := false, index := (s.player p).index + 1, activity := .none,
        remaining := 0, deferred := false, due := false }).produce
          (.halted p ((s.player p).index + 1) cause)).transmit)) ∧
  (∀ (s : State) (c : Instr) (p : PlayerId) (o : Order) (l : ListId) (st : Step) (lines levels : LineSet) (dwell : BitVec 16),
      s.phaseOver c p o st → s.safe.state = .clear → (s.player p).boundList = some l →
      (s.player p).stopIndex ≠ some (s.player p).index → (s.list l).steps.length = (s.player p).index + 1 →
      let r := s.player p
      let count := (r.passCount + 1) % 256
      let s1 := s.produce (.passEnd p (some l) count)
      let held := st.halt || r.holdPending
      let cause := if st.halt then HoldCause.haltFlag else HoldCause.stepHold
      let zero := fun (u : State) (r' : Player) =>
        if held then
          (u.setPlayer p { r' with
            state := .held, holdCause := some cause, holdPending := false, index := 0, activity := .none, remaining := 0,
            deferred := false, due := false }).produce (.halted p 0 cause)
        else (if r'.passBegun then u else u.writeLines lines levels).setPlayer p (r'.atStepZero dwell)
      let begins := fun l' : ListId => ∃ first, (s.list l').steps[0]? = some first ∧ first.plainSet lines levels dwell
      (∀ new, r.replacement = some (new, .passEnd) → (held = true ∨ begins new) →
        exec c s = .next (zero ((s1.useDown l).produce (.replaced p (some l) new .passEnd))
          { r with boundList := some new, replacement := none, passCount := 0, relaunch := false, remaining := 0 }).transmit) ∧
      ((∀ new, r.replacement ≠ some (new, .passEnd)) → (held = true ∨ begins l) →
        (r.relaunch = true →
          exec c s = .next (zero (s1.produce (.started p (some l) .relaunch))
            { r with relaunch := false, passCount := 0, remaining := 0 }).transmit) ∧
        (r.relaunch = false → (r.passLimit = 0 ∨ count < r.passLimit) →
          exec c s = .next (zero s1 { r with passCount := count, remaining := 0 }).transmit)))

/-- With the safe state CLEAR, on a RUNNING player whose tick is due in the width phase of a PULSE with a dwell above 0:
its lines take the opposite of the levels given, every other line keeps its level, the activity is STEPPING and the
remaining count the dwell. Nothing else changes but what the transmitter begins. With the safe state CLEAR and
FAULT_TO_SAFE off: WAIT_EDGE_TIMEOUT on a RUNNING player whose tick is due in a WAIT_EDGE with TIMEOUT_FAULT makes it
FAULTED on that step with cause WAIT_TIMEOUT, sets its claimed lines to their idle levels, clears relaunch and hold,
drops a pending replacement with its list's use count, and produces a FAULT notice. No other player moves. With
FAULT_TO_SAFE on and no player that the order makes late, the FAULT notice is followed by the SAFE notice of an entry:
LATCHED with cause set {FAULT}, this player as its only fault player and the last change at this stamp; every other
player is frozen as the entry gives, with a START_CANCELLED notice for each ARMED one. With a second player late in
the order whose own TIMEOUT_FAULT is due, that player faults too and joins the fault players; it is not frozen. With
the safe state not CLEAR, as at the event of an entry, the fault adds FAULT and the player to what is there and keeps
the state. -/
def Obligations.TrailingEdgeWritesAndTimeoutFaults : Prop :=
  (∀ (s : State) (p : PlayerId) (o : Order) (st : Step) (lines levels : LineSet) (width dwell : BitVec 16),
      s.phase = .live → (s.player p).state = .running → (s.player p).due = true → (s.player p).activity = .pulseWidth →
      s.currentStep p = some st → st.action = .pulse lines levels width dwell → dwell ≠ 0 → s.safe.state = .clear →
      exec (.pulseTrailingEdge p o) s = .next (({ s with lines := { s.lines with
          logical := (s.lines.logical &&& ~~~lines) ||| (~~~levels &&& lines) } }.setPlayer p
        { s.player p with activity := .stepping, remaining := dwell.toNat, deferred := false, due := false }).transmit)) ∧
  (∀ (s : State) (p : PlayerId) (o : Order) (st : Step),
      s.phase = .live → (s.player p).state = .running → (s.player p).due = true → (s.player p).activity = .edgeWait →
      s.currentStep p = some st → isWait st.action = true → st.timeoutFault = true → s.safe.state = .clear →
      s.params.faultToSafe = false →
      let r := s.player p
      exec (.waitEdgeTimeout p o) s = .next ((((({ s with lines := { s.lines with
          logical := (s.lines.logical &&& ~~~r.claimed) ||| (s.params.lineIdle &&& r.claimed) } }).setPlayer p { r with
          state := .faulted, faultCause := some .waitTimeout, activity := .none, remaining := 0, relaunch := false,
          holdPending := false, replacement := none, deferred := false, due := false, owed := none }).useDownOpt
          r.pendingList).produce (.fault p r.boundList r.index .waitTimeout r.pendingList)).transmit)) ∧
  (∀ (s : State) (p : PlayerId) (o : Order) (st : Step),
      s.phase = .live → (s.player p).state = .running → (s.player p).due = true → (s.player p).activity = .edgeWait →
      s.currentStep p = some st → isWait st.action = true → st.timeoutFault = true → s.safe.state = .clear →
      s.params.faultToSafe = true →
      let faulted := fun r : Player => { r with
        state := .faulted, faultCause := some .waitTimeout, activity := .none, remaining := 0, relaunch := false,
        holdPending := false, replacement := none, deferred := false, due := false, owed := none }
      (o.late = [] →
        let r := s.player p
        let players := 1#6 <<< p.val
        let causes : Causes := { holdLine := false, request := false, fault := true }
        let cancelled := (playersOf o).filter fun p' => decide (p' ≠ p) && decide ((s.player p').state = .armed)
        ∃ t, exec (.waitEdgeTimeout p o) s = .next (State.transmit t) ∧
          t.safe = { s.safe with state := .latched, causes := causes, faultPlayers := players, lastChange := s.stamp } ∧
          t.player p = faulted r ∧ (∀ p', p' ≠ p → t.player p' = (s.player p').frozen) ∧
          t.lines = { s.lines with logical := (s.lines.logical &&& ~~~r.claimed) ||| (s.params.lineIdle &&& r.claimed) } ∧
          t.notices = (cancelled.foldl (fun u p' => u.produce (.startCancelled p'))
            ((s.produce (.fault p r.boundList r.index .waitTimeout r.pendingList)).produce
              (.safe .latched causes players))).notices) ∧
      (∀ (p' : PlayerId) (st' : Step), p' ≠ p → o.late = [p'] → (s.player p').state = .running → (s.player p').due = true →
        (s.player p').activity = .edgeWait → s.currentStep p' = some st' → isWait st'.action = true →
        st'.timeoutFault = true →
        ∃ t, exec (.waitEdgeTimeout p o) s = .next t ∧ t.player p = faulted (s.player p) ∧
          t.player p' = faulted (s.player p') ∧ t.safe.state = .latched ∧
          t.safe.faultPlayers = (1#6 <<< p.val) ||| (1#6 <<< p'.val) ∧
          ∀ p'', p'' ≠ p → p'' ≠ p' → t.player p'' = (s.player p'').frozen)) ∧
  (∀ (s : State) (p : PlayerId), s.safe.state ≠ .clear →
      (s.escalate p).safe.state = s.safe.state ∧ (s.escalate p).safe.causes = { s.safe.causes with fault := true } ∧
        (s.escalate p).safe.faultPlayers = s.safe.faultPlayers ||| (1#6 <<< p.val))

/-- The need of a SET is its dwell and of a PULSE its width and dwell; FIT_MARGIN is added. With the safe state CLEAR,
when one of the three rows ends a step that leads on to a SET with a dwell or a PULSE with FIT and without NOTE: if
the sum exceeds FRAME_LEN and FAULT_TO_SAFE is off, the player is FAULTED on that step with cause NEVER_FITS, its
lines at their idle levels, a pending replacement dropped and a FAULT notice produced; else if the Timebase is RUNNING
and the sum is at most FRAME_LEN less the position, the step begins; else the player is in FIT_WAIT on it and nothing
is written. With nothing else reaching the player (safe state CLEAR, no fault that escalates, nothing due or owed, no
commit at this event, the player not late in the order), a tick with a frame start judges a RUNNING player in FIT_WAIT
again, with the FRAME_LEN that the frame start leaves in force: FAULTED if the sum exceeds it, else the step begins. A
tick without one leaves it waiting. -/
def Obligations.FitStepBeginsWaitsOrFaults : Prop :=
  (∀ (s : State) (c : Instr) (p : PlayerId) (o : Order) (l : ListId) (st next : Step) (lines levels : LineSet)
      (first second : BitVec 16),
      s.phaseOver c p o st → s.safe.state = .clear → st.halt = false →
      let r := s.player p
      r.stopIndex ≠ some r.index → r.holdPending = false → r.boundList = some l →
      (s.list l).steps[r.index + 1]? = some next → next.fit = true → next.note = false →
      (next.action = .set lines levels first ∧ first ≠ 0 ∧ second = 0) ∨ next.action = .pulse lines levels first second →
      let activity := match next.action with
        | .pulse .. => Activity.pulseWidth
        | .set .. | .waitEdge .. | .align .. => Activity.stepping
      let total := first.toNat + second.toNat + s.params.fitMargin
      let fits := s.tb.state = .running ∧ total ≤ s.params.frameLen - s.tb.position
      let onto := { r with index := r.index + 1, deferred := false, due := false }
      (s.params.frameLen < total → s.params.faultToSafe = false →
        exec c s = .next (((((s.idleLines r.claimed).setPlayer p { onto with
            state := .faulted, faultCause := some .neverFits, activity := .none, remaining := 0, relaunch := false,
            holdPending := false, replacement := none, owed := none }).useDownOpt r.pendingList).produce
          (.fault p (some l) (r.index + 1) .neverFits r.pendingList)).transmit)) ∧
      (total ≤ s.params.frameLen → fits →
        exec c s = .next ((s.writeLines lines levels).setPlayer p { onto with
          activity := activity, remaining := first.toNat }).transmit) ∧
      (total ≤ s.params.frameLen → ¬fits →
        exec c s = .next (s.setPlayer p { onto with activity := .fitWait, remaining := 0 }).transmit)) ∧
  (∀ (s : State) (c : Instr) (p : PlayerId) (o : Order) (st : Step) (lines levels : LineSet) (first second : BitVec 16),
      s.tickedBy c o → s.quiet → p ∉ o.lateEvent → ((s.player p).commitsSuper = true → ¬s.superDue) →
      let r := { s.player p with passBegun := false }
      r.state = .running → r.deferred = false → r.activity = .fitWait → s.currentStep p = some st → st.note = false →
      (st.action = .set lines levels first ∧ first ≠ 0 ∧ second = 0) ∨ st.action = .pulse lines levels first second →
      let activity := match st.action with
        | .pulse .. => Activity.pulseWidth
        | .set .. | .waitEdge .. | .align .. => Activity.stepping
      let total := first.toNat + second.toNat + s.params.fitMargin
      ∃ t, exec c s = .next t ∧
        (¬s.frameDue → t.player p = r) ∧
        (s.frameDue → s.nextFrameLen < total →
          t.player p = { r with
            state := .faulted, faultCause := some .neverFits, activity := .none, remaining := 0, relaunch := false,
            holdPending := false, replacement := none }) ∧
        (s.frameDue → total ≤ s.nextFrameLen →
          t.player p = { r with activity := activity, remaining := first.toNat }))

/-- With the safe state CLEAR, when one of the three rows ends a step that leads on to an ALIGN without NOTE: with the
Timebase RUNNING at its offset the ALIGN ends at its begin, and where it leads on to a plain SET that SET begins;
otherwise the player is in ALIGN_WAIT on it. With nothing else reaching the player (safe state CLEAR, no fault that
escalates, nothing due or owed, no commit at this event, the player not late in the order), a tick ends the ALIGN of a
RUNNING player in ALIGN_WAIT exactly if it brings the position to the offset, 0 at a frame start among them, or makes
a frame start with the offset at or above the FRAME_LEN in force before it; the end of a pause in GATED ends it
exactly if the position held is the offset. Where it ends and leads on to a plain SET, the player is on that SET;
where it does not, the record stays but for the pass-begun flag, which a tick clears. -/
def Obligations.AlignStepEndsAtItsOffset : Prop :=
  (∀ (s : State) (c : Instr) (p : PlayerId) (o : Order) (l : ListId) (st align : Step) (offset : BitVec 16),
      s.phaseOver c p o st → s.safe.state = .clear → st.halt = false →
      let r := s.player p
      r.stopIndex ≠ some r.index → r.holdPending = false → r.boundList = some l →
      (s.list l).steps[r.index + 1]? = some align → align.action = .align offset → align.note = false →
      let onto := { r with index := r.index + 1, deferred := false, due := false }
      (¬(s.tb.state = .running ∧ s.tb.position = offset.toNat) →
        exec c s = .next (s.setPlayer p { onto with activity := .alignWait, remaining := 0 }).transmit) ∧
      (∀ lines levels dwell, s.tb.state = .running → s.tb.position = offset.toNat → align.halt = false →
        r.stopIndex ≠ some (r.index + 1) → s.plainAt p (r.index + 2) lines levels dwell →
        exec c s = .next ((s.writeLines lines levels).setPlayer p (onto.goneOn dwell)).transmit)) ∧
  (∀ (s : State) (c : Instr) (p : PlayerId) (o : Order) (st : Step) (offset : BitVec 16),
      s.quiet → p ∉ o.lateEvent → (s.player p).state = .running → (s.player p).deferred = false →
      (s.player p).activity = .alignWait → s.currentStep p = some st → st.action = .align offset →
      (s.tickedBy c o → ((s.player p).commitsSuper = true → ¬s.superDue) →
        let r := { s.player p with passBegun := false }
        let position := if s.params.frameLen ≤ s.tb.position + 1 then 0 else s.tb.position + 1
        let reached := position = offset.toNat ∨ (s.frameDue ∧ s.params.frameLen ≤ offset.toNat)
        ∃ t, exec c s = .next t ∧ (¬reached → t.player p = r) ∧
          ∀ lines levels dwell, reached → s.goesOn p lines levels dwell → t.player p = r.goneOn dwell) ∧
      (∀ level : Bool, s.phase = .live → c = .syncInEdge level o → level ≠ s.tb.syncIn → s.syncActive level = true →
        s.tb.state = .paused → s.params.syncMode = .gated →
        let r := s.player p
        ∃ t, exec c s = .next t ∧ (s.tb.position ≠ offset.toNat → t.player p = r) ∧
          ∀ lines levels dwell, s.tb.position = offset.toNat → s.goesOn p lines levels dwell →
            t.player p = r.goneOn dwell))

/-- With nothing else reaching the player (safe state CLEAR, no fault that escalates, nothing due or owed, no SUPERFRAME
replacement pending, the player not late in the order), an ARMED player whose list begins with a plain SET. At a tick,
one armed on FRAME begins its run at a frame start and one armed on SUPERFRAME at a superframe start; otherwise its
record stays but for the pass-begun flag, which the tick clears. At an active SYNC_IN edge one armed on SYNC begins in
every state and mode, and one armed on FRAME or SUPERFRAME where the edge starts a TRIGGERED run or forces a frame
start in ALIGNED. At an accepted edge of input n one armed on it begins. The run begins in RUNNING with no start
point, pass count 0 and no relaunch queued, on step 0, which begins with its pass or is deferred where a pass has
begun in this tick; wherever a run begins, a STARTED notice with its cause is produced and the lines are written as
step 0 begins. -/
def Obligations.ArmedPlayerBeginsAtItsStartPoint : Prop :=
  (∀ (s : State) (c : Instr) (p : PlayerId) (o : Order) (sp : StartPoint) (lines levels : LineSet) (dwell : BitVec 16),
      s.quiet → p ∉ o.lateEvent → (s.player p).commitsSuper = false → (s.player p).state = .armed →
      (s.player p).startPoint = some sp → s.plainAt p 0 lines levels dwell →
      let begun := fun r : Player => Player.atStepZero { r with
        state := .running, startPoint := none, passCount := 0, relaunch := false } dwell
      (s.tickedBy c o →
        let r := { s.player p with passBegun := false }
        let starts := (sp = .frame ∧ s.frameDue) ∨ (sp = .superframe ∧ s.superDue)
        ∃ t, exec c s = .next t ∧ (starts → t.player p = begun r) ∧ (¬starts → t.player p = r)) ∧
      (∀ level : Bool, s.phase = .live → c = .syncInEdge level o → level ≠ s.tb.syncIn → s.syncActive level = true →
        let forces := (s.tb.state = .awaitSync ∧ s.params.syncMode = .triggered) ∨
          (s.tb.state = .running ∧ s.params.syncMode = .aligned ∧ s.tb.position ≠ 0)
        (sp = .sync ∨ (forces ∧ (sp = .frame ∨ sp = .superframe))) →
        ∃ t, exec c s = .next t ∧ t.player p = begun (s.player p)) ∧
      (∀ n : InputId, s.phase = .live → c = .acceptedChange n o → sp = .input n →
        (s.inEdge n).selects (!(s.input n).filtered) = true →
        ∃ t, exec c s = .next t ∧ t.player p = begun (s.player p))) ∧
  (∀ (s : State) (p : PlayerId) (cause : StartCause) (lines levels : LineSet) (dwell : BitVec 16),
      s.plainAt p 0 lines levels dwell →
      let r := s.player p
      let s1 := s.produce (.started p r.boundList cause)
      s.beginRun p cause = (if r.passBegun then s1 else s1.writeLines lines levels).setPlayer p
        (Player.atStepZero { r with
          state := .running, startPoint := none, passCount := 0, relaunch := false } dwell))

/-- In READY and STOPPED. In FREE and ALIGNED, and in GATED, TB_START makes the frame start that begins the run: position,
index and divider count 0, the frame number one higher, the pending values in force; the state is RUNNING, or in GATED
with SYNC_IN not at its active level PAUSED; the reply is OK with state, mode and stamp. A TIMEBASE notice STARTED is
produced, and COMMIT after it where the commit changes a value in force (logs 19, 20), each with the state, the mode
and the lengths in force as the start leaves them, before the start is handed out; where nothing but the request
reaches a player the queue held nothing new before STARTED. In TRIGGERED the state becomes AWAIT_SYNC with the counts
and parameters as they are, and nothing else changes where nothing is due or owed to a player (log 4, log 5) and the
safe state is CLEAR; the reply is PENDING with state and stamp (log 18 for what it carries). In any other state the
reply is ALREADY and nothing changes. -/
def Obligations.TbStartStartsInItsMode : Prop :=
  ∀ (s : State) (q : Frame) (rest : List Frame) (o : Order), s.asked 0x30 [] q rest →
    (s.tb.state = .stopped → s.params.syncMode ≠ .triggered →
      ∃ t, exec (.tbStart o) s =
          State.answered t q .ok ([t.tb.state.code, byteOf s.params.syncMode.code] ++ stampBytes t.stamp) ∧
        t.tb.state = (if s.params.syncMode = .gated ∧ s.syncActive s.tb.syncIn = false then .paused else .running) ∧
        t.tb.position = 0 ∧ t.tb.index = 0 ∧ t.tb.divider = 0 ∧ t.tb.number = s.tb.number + 1 ∧
        t.params = { s.params with
          frameLen := s.tb.pendFrameLen.getD s.params.frameLen, superLen := s.tb.pendSuperLen.getD s.params.superLen } ∧
        t.tb.pendFrameLen = none ∧ t.tb.pendSuperLen = none ∧ t.link.replies = s.link.replies ∧
        s.saysInto t fun u => ((u.produce (u.tbBody .started)).sayCommit s).handOut o
          { TbEvent.plain s.params.frameLen with frame := true, super := true }) ∧
    (s.tb.state = .stopped → s.params.syncMode = .triggered →
      (∃ t, exec (.tbStart o) s = State.answered t q .pending (1 :: stampBytes s.stamp) ∧ t.tb.state = .awaitSync ∧
        t.tb.position = s.tb.position ∧ t.tb.index = s.tb.index ∧ t.tb.divider = s.tb.divider ∧
        t.tb.number = s.tb.number ∧ t.params = s.params) ∧
      (s.nothingDue → s.nothingOwed → s.safe.state = .clear →
        exec (.tbStart o) s =
          ({ s.taking rest with tb := { s.tb with state := .awaitSync } } : State).answered q .pending
            (1 :: stampBytes s.stamp))) ∧
    (s.tb.state ≠ .stopped →
      exec (.tbStart o) s = (s.taking rest).answered q .already
        ([s.tb.state.code, byteOf s.params.syncMode.code] ++ stampBytes s.stamp))

/-- In READY. In AWAIT_SYNC, RUNNING and PAUSED, TB_STOP leaves the state STOPPED with position, index and divider count
0, the frame number, SYNC_IN, the pending values and every parameter as they were, replies OK with the state and the
stamp before, and produces a TIMEBASE notice STOPPED that carries the state STOPPED, the mode, the lengths in force
and the recorded stamp; where nothing but the request reaches a player it is the only new notice. In STOPPED it
replies ALREADY with STOPPED and the stamp, and nothing changes. -/
def Obligations.TbStopStopsAndKeepsTheNumber : Prop :=
  ∀ (s : State) (q : Frame) (rest : List Frame) (o : Order), s.asked 0x31 [] q rest →
    (s.tb.state ≠ .stopped →
      ∃ t, exec (.tbStop o) s = State.answered t q .ok (s.tb.state.code :: stampBytes s.stamp) ∧
        t.tb.state = .stopped ∧ t.tb.position = 0 ∧ t.tb.index = 0 ∧ t.tb.divider = 0 ∧ t.tb.number = s.tb.number ∧
        t.tb.pendFrameLen = s.tb.pendFrameLen ∧ t.tb.pendSuperLen = s.tb.pendSuperLen ∧ t.tb.syncIn = s.tb.syncIn ∧
        t.params = s.params ∧
        s.saysInto t fun u => u.produce
          (.timebase .stopped .stopped s.params.syncMode s.params.frameLen s.params.superLen (some s.stamp))) ∧
    (s.tb.state = .stopped →
      exec (.tbStop o) s = (s.taking rest).answered q .already (TbState.stopped.code :: stampBytes s.stamp))

/-- On a live part with the Timebase RUNNING, INTERNAL_TICK with TICK_SOURCE INTERNAL in the last microsecond of TICK_DIV
(the row as that microsecond is the model's choice, log 7) and TICK_IN_EDGE with TICK_SOURCE TICK_IN answer a next
state that is RUNNING. If position + 1 is below FRAME_LEN, the position rises by 1 and frame number and index stay;
else the position is 0, the frame number rises by 1 and the index moves on modulo SUPER_LEN, and when it becomes 0 the
pending staged values are in force and none is pending, with a TIMEBASE notice COMMIT before the start is handed out
where a value in force changes (logs 19, 20). The divider count is 0 after an internal tick and untouched by one of
TICK_IN. When the Timebase is not RUNNING or the other source is selected, and for INTERNAL_TICK before the divider
count has come to TICK_DIV - 1, either row changes nothing but what the transmitter begins (log 2). -/
def Obligations.TickAdvancesPositionOrStartsAFrame : Prop :=
  ∀ (s : State) (c : Instr) (o : Order), s.phase = .live →
    (s.tickedBy c o →
      ∃ t, exec c s = .next t ∧ t.tb.state = .running ∧
        t.tb.divider = (if s.params.tickSource = .internal then 0 else s.tb.divider) ∧
        (s.tb.position + 1 < s.params.frameLen →
          t.tb.position = s.tb.position + 1 ∧ t.tb.number = s.tb.number ∧ t.tb.index = s.tb.index ∧ t.params = s.params ∧
            t.tb.pendFrameLen = s.tb.pendFrameLen ∧ t.tb.pendSuperLen = s.tb.pendSuperLen) ∧
        (s.params.frameLen ≤ s.tb.position + 1 →
          t.tb.position = 0 ∧ t.tb.number = s.tb.number + 1 ∧ t.tb.index = (s.tb.index + 1) % s.params.superLen ∧
          ((s.tb.index + 1) % s.params.superLen = 0 →
            t.params.frameLen = s.tb.pendFrameLen.getD s.params.frameLen ∧
            t.params.superLen = s.tb.pendSuperLen.getD s.params.superLen ∧
            t.tb.pendFrameLen = none ∧ t.tb.pendSuperLen = none ∧
            (s.timerExpires = false → s.saysInto t fun u => ((u.sayCommit s).handOut o
              { TbEvent.plain s.params.frameLen with tick := true, frame := true, super := true }).transmit)) ∧
          ((s.tb.index + 1) % s.params.superLen ≠ 0 →
            t.params = s.params ∧ t.tb.pendFrameLen = s.tb.pendFrameLen ∧ t.tb.pendSuperLen = s.tb.pendSuperLen))) ∧
    ((s.tb.state ≠ .running ∨ s.params.tickSource ≠ .internal ∨ s.tb.divider + 1 < s.params.tickDiv) →
      exec (.internalTick o) s = .next s.transmit) ∧
    ((s.tb.state ≠ .running ∨ s.params.tickSource ≠ .tickIn) → exec (.tickInEdge o) s = .next s.transmit)

/-- On a live part with the safe state CLEAR, FAULT_TO_SAFE off and nothing due or owed from before, a tick of either
source, with or without a frame start, reaches a RUNNING player that is STEPPING, in PULSE_WIDTH, or in EDGE_WAIT with
a count above 0, with no admission deferred and no replacement that this event commits, and that the order does not
make late (log 5). It takes 1 from a remaining count above 1. At 1 the phase ends: where the order ends it in the
player's turn (log 4), a SET, a PULSE after its trailing edge and a WAIT_EDGE without TIMEOUT_FAULT that lead on to a
plain SET have gone on to it, and a PULSE in PULSE_WIDTH with a dwell is STEPPING with its dwell; otherwise the count
is due and the row of the phase ends it. An EDGE_WAIT without timeout and a player with another state keep their
records. The pass-begun flag is cleared. A player with its admission deferred admits step 0: a plain SET there begins
with its pass. -/
def Obligations.TickCountsThePhaseOfARunningPlayer : Prop :=
  ∀ (s : State) (c : Instr) (o : Order) (p : PlayerId), s.tickedBy c o → s.quiet → p ∉ o.lateEvent →
    ((s.player p).commitsSuper = true → ¬s.superDue) →
    let r := { s.player p with passBegun := false }
    ∃ t, exec c s = .next t ∧
      (r.state = .running → r.deferred = false →
        (r.activity = .stepping ∨ r.activity = .pulseWidth ∨ (r.activity = .edgeWait ∧ r.remaining ≠ 0) →
          (r.remaining ≠ 1 → t.player p = { r with remaining := r.remaining - 1 }) ∧
          (r.remaining = 1 → p ∉ o.ends → t.player p = { r with due := true }) ∧
          (∀ st lines levels dwell, r.remaining = 1 → p ∈ o.ends → s.currentStep p = some st →
            (r.activity = .stepping ∨ (r.activity = .edgeWait ∧ st.timeoutFault = false)) → s.goesOn p lines levels dwell →
            t.player p = r.goneOn dwell) ∧
          (∀ st lines levels width dwell, r.remaining = 1 → p ∈ o.ends → r.activity = .pulseWidth →
            s.currentStep p = some st → st.action = .pulse lines levels width dwell → dwell ≠ 0 →
            t.player p = { r with activity := .stepping, remaining := dwell.toNat })) ∧
        (r.activity = .edgeWait → r.remaining = 0 → t.player p = r)) ∧
      (∀ lines levels dwell, r.state = .running → r.deferred = true → s.plainAt p 0 lines levels dwell → r.index = 0 →
        t.player p = r.atStepZero dwell) ∧
      (r.state = .idle ∨ r.state = .bound ∨ r.state = .held ∨ r.state = .faulted → t.player p = r)

/-- On a live part, SYNC_IN_EDGE with a new level records the level. An active edge in AWAIT_SYNC with TRIGGERED makes the
frame start that begins the run, with a TIMEBASE notice STARTED; in RUNNING with ALIGNED at a position other than 0 it
makes a forced frame start, the frame number one higher and position, index and divider count 0; with either, the
pending FRAME_LEN and SUPER_LEN are in force and none is pending. At position 0 it is merged, the number and the
position as they were, index and divider count 0: with an index other than 0 the pending values are in force and none
is pending, else both stay as they were. In PAUSED with GATED it returns the state to RUNNING with the counts as they
were and a notice UNPAUSED, and leaving the active level in RUNNING with GATED pauses with the counts as they were and
a notice PAUSED. In every other case the counts and the state stay; parameters and pending values stay but where a
commit is named. A notice COMMIT is produced where a commit changes a value in force, after STARTED (logs 19, 20).
Each notice carries the state, the mode and the lengths in force as the event leaves them, and is stamped with the
stamp after it; it stands before those of the players, and where nothing but the event reaches a player the queue held
nothing new before it. With the level it already has, the row changes nothing but what the transmitter begins; in a
held part or one without supply it records the level alone (log 13). -/
def Obligations.SyncInEdgeActsAsStateAndModeGive : Prop :=
  ∀ (s : State) (level : Bool) (o : Order),
    (s.phase = .live → level = s.tb.syncIn → exec (.syncInEdge level o) s = .next s.transmit) ∧
    (s.phase ≠ .live → exec (.syncInEdge level o) s = .next { s with tb := { s.tb with syncIn := level } }) ∧
    (s.phase = .live → level ≠ s.tb.syncIn →
      let ev := { TbEvent.plain s.params.frameLen with sync := true }
      ∃ t, exec (.syncInEdge level o) s = .next t ∧ t.tb.syncIn = level ∧
        let committed := t.params = { s.params with
            frameLen := s.tb.pendFrameLen.getD s.params.frameLen, superLen := s.tb.pendSuperLen.getD s.params.superLen } ∧
          t.tb.pendFrameLen = none ∧ t.tb.pendSuperLen = none
        let uncommitted := t.params = s.params ∧ t.tb.pendFrameLen = s.tb.pendFrameLen ∧ t.tb.pendSuperLen = s.tb.pendSuperLen
        if s.syncActive level = true ∧ s.tb.state = .awaitSync ∧ s.params.syncMode = .triggered then
          t.tb.state = .running ∧ t.tb.position = 0 ∧ t.tb.index = 0 ∧ t.tb.divider = 0 ∧ t.tb.number = s.tb.number + 1 ∧
          committed ∧
          s.saysInto t fun u =>
            (((u.produce (u.tbBody .started)).sayCommit s).handOut o { ev with frame := true, super := true }).transmit
        else if s.syncActive level = true ∧ s.tb.state = .running ∧ s.params.syncMode = .aligned then
          t.tb.state = .running ∧ t.tb.position = 0 ∧ t.tb.index = 0 ∧ t.tb.divider = 0 ∧
          if s.tb.position = 0 then
            t.tb.number = s.tb.number ∧
            if s.tb.index = 0 then uncommitted ∧ s.saysInto t fun u => (u.handOut o ev).transmit
            else committed ∧ s.saysInto t fun u => ((u.sayCommit s).handOut o { ev with super := true }).transmit
          else
            t.tb.number = s.tb.number + 1 ∧ committed ∧
            s.saysInto t fun u => ((u.sayCommit s).handOut o { ev with frame := true, super := true }).transmit
        else
          t.tb.position = s.tb.position ∧ t.tb.index = s.tb.index ∧ t.tb.divider = s.tb.divider ∧
          t.tb.number = s.tb.number ∧ uncommitted ∧
          if s.params.syncMode = .gated ∧ s.syncActive level = true ∧ s.tb.state = .paused then
            t.tb.state = .running ∧
            s.saysInto t fun u => ((u.produce (u.tbBody .unpaused)).handOut o { ev with unpause := true }).transmit
          else if s.params.syncMode = .gated ∧ s.syncActive level = false ∧ s.tb.state = .running then
            t.tb.state = .paused ∧ s.saysInto t fun u => (u.produce (u.tbBody .paused)).transmit
          else
            t.tb.state = s.tb.state ∧
            s.saysInto t fun u => (if s.syncActive level then u.handOut o ev else u).transmit)

/-- A tick leaves SYNC_OUT high under FRAME exactly if it makes a frame start, and under SUPERFRAME exactly if it makes a
superframe start. In READY, the frame start that begins a run by TB_START takes SYNC_OUT high under FRAME and
SUPERFRAME, for one microsecond if the Timebase is then not RUNNING, and under RUNNING it is high exactly if the
Timebase is RUNNING. A frame start forced by an active SYNC_IN edge in ALIGNED takes it high under FRAME and
SUPERFRAME, and an edge merged into a frame start of an index other than 0 takes it high under SUPERFRAME. A pause in
GATED takes it low under every source, and TB_STOP under every source but NOTE. With the safe state CLEAR, when one of
the three rows of a phase end leads on to a SET with NOTE and a dwell and without FIT, a STEP_NOTE notice is produced
and under NOTE of that player SYNC_OUT is high, for one microsecond if the Timebase is not RUNNING. -/
def Obligations.SyncOutFollowsItsSource : Prop :=
  (∀ (s : State) (c : Instr) (o : Order), s.tickedBy c o →
      ∃ t, exec c s = .next t ∧ (s.params.syncOutSrc = .frame → (t.tb.syncOut = true ↔ s.frameDue)) ∧
        (s.params.syncOutSrc = .superframe → (t.tb.syncOut = true ↔ s.superDue))) ∧
  (∀ (s : State) (q : Frame) (rest : List Frame) (o : Order),
      (s.asked 0x30 [] q rest → s.tb.state = .stopped → s.params.syncMode ≠ .triggered →
        ∃ t, exec (.tbStart o) s = .next t ∧
          (s.params.syncOutSrc = .frame ∨ s.params.syncOutSrc = .superframe →
            t.tb.syncOut = true ∧ (t.tb.syncHold = true ↔ t.tb.state ≠ .running)) ∧
          (s.params.syncOutSrc = .running → s.tb.syncOut = false → (t.tb.syncOut = true ↔ t.tb.state = .running))) ∧
      (s.asked 0x31 [] q rest → s.tb.state ≠ .stopped → (∀ p, s.params.syncOutSrc ≠ .note p) →
        ∃ t, exec (.tbStop o) s = .next t ∧ t.tb.syncOut = false)) ∧
  (∀ (s : State) (level : Bool) (o : Order), s.phase = .live → level ≠ s.tb.syncIn →
      ∃ t, exec (.syncInEdge level o) s = .next t ∧
        (s.syncActive level = true → s.tb.state = .running → s.params.syncMode = .aligned →
          (s.tb.position ≠ 0 → s.params.syncOutSrc = .frame ∨ s.params.syncOutSrc = .superframe → t.tb.syncOut = true) ∧
          (s.tb.position = 0 → s.tb.index ≠ 0 → s.params.syncOutSrc = .superframe → t.tb.syncOut = true)) ∧
        (s.syncActive level = false → s.tb.state = .running → s.params.syncMode = .gated → t.tb.syncOut = false)) ∧
  (∀ (s : State) (c : Instr) (p : PlayerId) (o : Order) (l : ListId) (st next : Step) (lines levels : LineSet)
      (dwell : BitVec 16),
      s.phaseOver c p o st → s.safe.state = .clear → st.halt = false →
      let r := s.player p
      r.stopIndex ≠ some r.index → r.holdPending = false → r.boundList = some l →
      (s.list l).steps[r.index + 1]? = some next → next.action = .set lines levels dwell → dwell ≠ 0 → next.fit = false →
      next.note = true →
      let noted := s.produce (.stepNote p (some l) (r.index + 1) r.passCount)
      let high : State := { noted with tb := { s.tb with syncOut := true, syncHold := decide (s.tb.state ≠ .running) } }
      exec c s = .next (((if s.params.syncOutSrc = .note p then high else noted).writeLines lines levels).setPlayer p
        (r.goneOn dwell)).transmit)

/-- In READY, in every safe state: a LINE_DRIVE with a level of 1 outside its set is refused with BAD_VALUE; else with a
line of the set owned it is refused with LINE_OWNED naming the lowest-numbered owned line and its owner (one byte
each, log 17); else each line of the set takes its level, every other keeps its own, and the reply is OK with the set.
Nothing else changes. In READY, LINE_STATUS with an empty payload replies OK with the 24 owners in line order, FFh for
NONE, then the logical, the presented, the idle and the safe levels; the presented level of a line is its logical
level while the safe state is CLEAR and its safe level otherwise. Nothing changes. On a live part each OUT line
presents its logical level while the safe state is CLEAR and its safe level otherwise, and SAFE_OUT is high exactly
while it is not CLEAR; while RESET_N or power-on holds the part, every OUT line presents 0 and SAFE_OUT is high.
LINK_TX is high while the reset holds the part, and while nothing is sent; the bytes of a frame being sent follow one
another without idle time, each as ten bit times: the start bit low, the eight data bits from the least significant,
the stop bit high; after them it is high. What a part without supply presents is the model's choice (log 31). -/
def Obligations.LinesAreDrivenPresentedAndReported : Prop :=
  (∀ (s : State) (q : Frame) (rest : List Frame) (lines levels : LineSet),
      s.asked 0x38 (lineBytes lines ++ lineBytes levels) q rest →
      (levels &&& ~~~lines ≠ 0 → exec .lineDrive s = (s.taking rest).answered q .badValue []) ∧
      (∀ (k : LineId) (p : PlayerId), levels &&& ~~~lines = 0 → lines.getLsbD k.val = true → s.owner k = some p →
        (∀ j : LineId, j < k → lines.getLsbD j.val = true → s.owner j = none) →
        exec .lineDrive s = (s.taking rest).answered q .lineOwned [finByte k, finByte p]) ∧
      (levels &&& ~~~lines = 0 → (∀ k : LineId, lines.getLsbD k.val = true → s.owner k = none) →
        ∃ t, exec .lineDrive s = State.answered t q .ok (lineBytes lines) ∧
          t = { s.taking rest with lines := t.lines } ∧ t.lines.owners = s.lines.owners ∧
          ∀ k : LineId, t.lines.logical.getLsbD k.val =
            if lines.getLsbD k.val then levels.getLsbD k.val else s.lines.logical.getLsbD k.val)) ∧
  (∀ (s : State) (q : Frame) (rest : List Frame), s.asked 0x39 [] q rest →
      exec .lineStatus s = (s.taking rest).answered q .ok
        ((allLines.map fun k => ((s.owner k).map finByte).getD 0xFF) ++ lineBytes s.lines.logical ++
          lineBytes (if s.safe.state = .clear then s.lines.logical else s.params.lineSafe) ++
          lineBytes s.params.lineIdle ++ lineBytes s.params.lineSafe)) ∧
  (∀ s : State,
      (s.phase = .live → s.safe.state = .clear → s.outPins = s.lines.logical ∧ s.safeOut = false) ∧
      (s.phase = .live → s.safe.state ≠ .clear → s.outPins = s.params.lineSafe ∧ s.safeOut = true) ∧
      (s.phase = .held → s.outPins = 0 ∧ s.safeOut = true)) ∧
  (∀ (s : State) (k : Nat),
      (s.phase = .held → s.linkTx k = true) ∧ (s.link.tx = none → s.linkTx k = true) ∧
      (∀ t, s.phase = .live → s.link.tx = some t →
        (∀ (j : Nat) (b : Byte), (frameBytes t.frame)[j]? = some b →
          s.linkTx (10 * j) = false ∧ (∀ i, i < 8 → s.linkTx (10 * j + 1 + i) = b.getLsbD i) ∧
            s.linkTx (10 * j + 9) = true) ∧
        (10 * (frameBytes t.frame).length ≤ k → s.linkTx k = true)))

/-- In READY: an input number of 8 or above is refused with NO_SUCH, and a consume choice other than 0 or 1 with
BAD_VALUE. Otherwise the reply is OK with the input number, the IN_EDGE setting, the filtered level, the pending and
doubled marks, the stamp and the level as they stand (the setting and each level one byte, log 17), and a consumed
mark. With consume 1 and pending yes, pending and doubled are then cleared and the mark reads yes; with consume 1 and
pending no, and with consume 0, nothing changes and it reads no. -/
def Obligations.InputReadReportsAndConsumes : Prop :=
  ∀ (s : State) (q : Frame) (rest : List Frame) (number consume : Byte), s.asked 0x3A [number, consume] q rest →
    (8 ≤ number.toNat → exec .inputRead s = (s.taking rest).answered q .noSuch []) ∧
    (number.toNat < 8 → consume ≠ 0 → consume ≠ 1 → exec .inputRead s = (s.taking rest).answered q .badValue []) ∧
    (∀ n : InputId, number = finByte n →
      let r := s.input n
      let fields := [finByte n, byteOf (s.inEdge n).code, markByte r.filtered, markByte r.pending, markByte r.doubled] ++
        (be32 r.stamp.frame.toNat ++ be16 r.stamp.position) ++ [markByte r.level]
      (consume = 1 → r.pending = true →
        exec .inputRead s = ((s.taking rest).setInput n { r with pending := false, doubled := false }).answered q .ok
          (fields ++ [1])) ∧
      (consume = 0 ∨ (consume = 1 ∧ r.pending = false) →
        exec .inputRead s = (s.taking rest).answered q .ok (fields ++ [0])))

/-- On a live part: the first sample after a start-up reset gives the filtered level and no change; a sample equal to the
filtered level returns the candidate count to 0; one that differs raises the count while it stays below IN_FILTER + 1;
one that reaches IN_FILTER + 1 is an accepted change, the same as ACCEPTED_CHANGE of that input. On a live part whose
safe record is sound and with no commit owed: an accepted change turns the filtered level and zeroes the candidate
count (one commanded before the first sample after a start-up reset too, by the model's choice, logs 8 and 16). If
IN_EDGE does not select the edge, nothing else changes. If it does and no consumer is present, the latch is pending
with the stamp and the new level, doubled if it was pending before, and an INPUT_EDGE notice is produced; nothing else
changes. If a consumer is present, the latch holds that stamp and level and is neither pending nor doubled when the
event is over. With the safe state CLEAR, FAULT_TO_SAFE off and nothing due or owed, a RUNNING player in EDGE_WAIT on
that input, its edge selected: where the step leads on to a plain SET, and is not STRICT with the latch doubled by the
edge, the player has gone on to that SET; where it is the only consumer, its lines take that SET's levels, the
INPUT_EDGE notice stands, and nothing else changes. With STRICT and the latch doubled it is FAULTED with EDGE_DOUBLED
on its step, a replacement dropped, and where it is the only consumer its lines are idle and the FAULT notice follows
INPUT_EDGE. -/
def Obligations.SamplesFilterAndLatchEdges : Prop :=
  (∀ (s : State) (n : InputId) (level : Bool) (o : Order), s.phase = .live →
      let r := s.input n
      (r.sampled = false →
        exec (.inputSample n level o) s =
          .next (s.setInput n { r with filtered := level, sampled := true, candidate := 0 }).transmit) ∧
      (r.sampled = true → level = r.filtered →
        exec (.inputSample n level o) s = .next (s.setInput n { r with candidate := 0 }).transmit) ∧
      (r.sampled = true → level ≠ r.filtered → r.candidate + 1 < s.inFilter n + 1 →
        exec (.inputSample n level o) s = .next (s.setInput n { r with candidate := r.candidate + 1 }).transmit) ∧
      (r.sampled = true → level ≠ r.filtered → s.inFilter n + 1 ≤ r.candidate + 1 →
        exec (.inputSample n level o) s = exec (.acceptedChange n o) s)) ∧
  (∀ (s : State) (n : InputId) (o : Order), s.phase = .live → s.safeSound → s.nothingOwed →
      let r := s.input n
      let level := !r.filtered
      let moved := { r with filtered := level, candidate := 0, sampled := true }
      let selected := match s.inEdge n with
        | .off => false
        | .rise => level
        | .fall => !level
        | .both => true
      (selected = false → exec (.acceptedChange n o) s = .next (s.setInput n moved).transmit) ∧
      (selected = true → (∀ p, s.consumes n p = false) →
        exec (.acceptedChange n o) s = .next ((s.setInput n { moved with
          stamp := s.stamp, level := level, doubled := r.pending || r.doubled, pending := true }).produce
            (.inputEdge n level (r.pending || r.doubled))).transmit) ∧
      (selected = true → (∃ p, s.consumes n p = true) →
        ∃ t, exec (.acceptedChange n o) s = .next t ∧
          t.input n = { moved with stamp := s.stamp, level := level, doubled := false, pending := false })) ∧
  (∀ (s : State) (n : InputId) (p : PlayerId) (o : Order) (st : Step), s.phase = .live → s.quiet →
      (s.player p).state = .running → s.inWait p st n →
      let r := s.player p
      let level := !(s.input n).filtered
      let doubled := (s.input n).pending || (s.input n).doubled
      let edged := (s.setInput n { s.input n with
        filtered := level, candidate := 0, sampled := true, stamp := s.stamp, level := level, pending := false,
        doubled := false }).produce (.inputEdge n level doubled)
      (s.inEdge n).selects level = true →
      (∀ lines levels dwell, s.goesOn p lines levels dwell → (st.strict && doubled) = false →
        ∃ t, exec (.acceptedChange n o) s = .next t ∧ t.player p = r.goneOn dwell ∧
          ((∀ p', p' ≠ p → s.consumes n p' = false) →
            t = ((edged.writeLines lines levels).setPlayer p (r.goneOn dwell)).transmit)) ∧
      (st.strict = true → doubled = true →
        ∃ t, exec (.acceptedChange n o) s = .next t ∧ t.player p = r.faultedBy .edgeDoubled ∧
          ((∀ p', p' ≠ p → s.consumes n p' = false) →
            t = ((((edged.idleLines r.claimed).setPlayer p (r.faultedBy .edgeDoubled)).useDownOpt r.pendingList).produce
              (.fault p r.boundList r.index .edgeDoubled r.pendingList)).transmit)))

/-- In READY. From CLEAR, SAFE_ENTER makes the safe state LATCHED with cause set {REQUEST} and the last change at this
stamp, produces a SAFE notice, freezes every RUNNING player as HELD by SAFE with step, activity and remaining count
kept, returns every ARMED player to BOUND with a START_CANCELLED notice in the order in which the players act, leaves
the other players, every owner and every logical level as they are, and replies OK with the new state and cause set.
In another state it adds REQUEST to the cause set if it is not there and replies ALREADY with state and cause set; if
it is there, nothing changes. In LATCHED with AUTO_RESUME off, SAFE_RELEASE makes the state CLEAR with no causes and
no fault players and the last change at this stamp, produces a SAFE notice, moves no player and replies OK with the
causes released. With AUTO_RESUME on, and no fault to escalate, the same holds of the safe record and the reply, and
each player HELD by SAFE is resumed: STEPPING, in PULSE_WIDTH or FIT_WAIT, in ALIGN_WAIT away from its offset, or in
EDGE_WAIT on an input without a pending latch, it is RUNNING with its step, activity and remaining count; without a
frozen step it admits the step at its index, where a plain SET begins or is deferred as the pass rule gives. A player
not HELD by SAFE keeps its record. In ACTIVE the request is refused with HOLD_ACTIVE; in CLEAR it replies ALREADY. -/
def Obligations.SafeEnterFreezesAndReleaseClears : Prop :=
  (∀ (s : State) (q : Frame) (rest : List Frame) (o : Order), s.asked 0x40 [] q rest →
      (s.safe.state = .clear →
        let causes : Causes := { holdLine := false, request := true, fault := false }
        let cancelled := (playersOf o).filter fun p => decide ((s.player p).state = .armed)
        ∃ t, exec (.safeEnter o) s = State.answered t q .ok [2, 2] ∧
          t.notices = (cancelled.foldl (fun u p => u.produce (.startCancelled p))
            (s.produce (.safe .latched causes s.safe.faultPlayers))).notices ∧
          t.safe = { s.safe with state := .latched, causes := causes,
                                 lastChange := s.stamp } ∧
          (∀ p, t.player p = (s.player p).frozen) ∧ t.lines = s.lines ∧ t.tb = s.tb ∧ t.params = s.params ∧
          t.inputs = s.inputs ∧ t.store = s.store) ∧
      (s.safe.state ≠ .clear → s.safe.causes.request = true →
        exec (.safeEnter o) s = (s.taking rest).answered q .already [s.safe.state.code, s.safe.causes.code]) ∧
      (s.safe.state ≠ .clear → s.safe.causes.request = false →
        exec (.safeEnter o) s =
          ((({ s.taking rest with safe := { s.safe with
              causes := { s.safe.causes with request := true }, lastChange := s.stamp } } : State)).produce
            (.safe s.safe.state { s.safe.causes with request := true } s.safe.faultPlayers)).answered q .already
            [s.safe.state.code, Causes.code { s.safe.causes with request := true }])) ∧
  (∀ (s : State) (q : Frame) (rest : List Frame) (o : Order), s.asked 0x41 [] q rest →
      (s.safe.state = .latched → s.params.autoResume = false →
        exec (.safeRelease o) s =
          (({ s.taking rest with safe := { s.safe with
              state := .clear, causes := { holdLine := false, request := false, fault := false }, faultPlayers := 0,
              lastChange := s.stamp } } : State).produce
            (.safe .clear { holdLine := false, request := false, fault := false } 0)).answered q .ok
            [s.safe.causes.code]) ∧
      (s.safe.state = .latched → s.params.autoResume = true → s.params.faultToSafe = false →
        ∃ t, exec (.safeRelease o) s = State.answered t q .ok [s.safe.causes.code] ∧
          t.safe = { s.safe with
            state := .clear, causes := { holdLine := false, request := false, fault := false }, faultPlayers := 0,
            lastChange := s.stamp } ∧ t.tb.position = s.tb.position ∧ t.params = s.params ∧
          ∀ p,
            let r := s.player p
            let running := { r with state := .running, holdCause := none }
            (r.heldSafe = false → t.player p = r) ∧
            (r.heldSafe = true →
              (r.activity = .stepping ∨ r.activity = .pulseWidth ∨ r.activity = .fitWait ∨
                (r.activity = .edgeWait ∧ ∃ st n timeout, s.currentStep p = some st ∧ st.action = .waitEdge n timeout ∧
                  (s.input n).pending = false) ∨
                (r.activity = .alignWait ∧ ∃ st offset, s.currentStep p = some st ∧ st.action = .align offset ∧
                  ¬(s.tb.state = .running ∧ s.tb.position = offset.toNat)) →
                t.player p = running) ∧
              (∀ lines levels dwell, r.activity = .none → s.plainAt p r.index lines levels dwell →
                (r.index ≠ 0 → t.player p = { running with
                  activity := .stepping, remaining := dwell.toNat, deferred := false, due := false }) ∧
                (r.index = 0 → t.player p = running.atStepZero dwell)))) ∧
      (s.safe.state = .active → exec (.safeRelease o) s = (s.taking rest).answered q .holdActive []) ∧
      (s.safe.state = .clear → exec (.safeRelease o) s = (s.taking rest).answered q .already []))

/-- At a tick with a superframe start, with the safe state not CLEAR and so no player RUNNING or ARMED, FAULT_TO_SAFE off
and nothing due or owed. With AUTO_RELEASE on, the state LATCHED and the cause set {HOLD_LINE}, the state becomes
CLEAR with no causes and no fault players, the last change at the new frame's stamp. Of the players that the order
does not make late: one not HELD by SAFE and without a SUPERFRAME replacement keeps its record but for the pass-begun
flag; one HELD by SAFE without such a replacement stays as it is with AUTO_RESUME off, and with it on goes on
STEPPING, in PULSE_WIDTH or FIT_WAIT with its remaining count, not acting on this tick or frame start; one HELD by
SAFE with such a replacement is at index 0 of the new list without a step in flight with AUTO_RESUME off. With
AUTO_RESUME on, any player HELD by SAFE with such a replacement, late in the order or not, is RUNNING on step 0 of the
new list, a plain SET that begins, whichever of release and commit comes first, and this start is not owed to it any
more (R96). Where no other player is HELD by SAFE, every input's record stays as it is, whichever comes first: a
pending latch of its frozen WAIT_EDGE is not consumed (R97; the model's reading of R101 beside R124, log 41). Where
one of the three conditions fails, the safe record stays as it is. -/
def Obligations.SuperframeStartReleasesTheSafeState : Prop :=
  ∀ (s : State) (c : Instr) (o : Order), s.tickedBy c o → s.superDue → s.safe.state ≠ .clear →
    (∀ p, (s.player p).state ≠ .running ∧ (s.player p).state ≠ .armed) → s.params.faultToSafe = false → s.nothingDue →
    s.nothingOwed →
    let alone : Causes := { holdLine := true, request := false, fault := false }
    let releases := s.params.autoRelease = true ∧ s.safe.state = .latched ∧ s.safe.causes = alone
    ∃ t, exec c s = .next t ∧ (¬releases → t.safe = s.safe) ∧
      (releases →
        t.safe = { s.safe with
          state := .clear, causes := { alone with holdLine := false }, faultPlayers := 0,
          lastChange := { frame := s.tb.number + 1, position := 0 } } ∧
        ∀ p,
          let r := { s.player p with passBegun := false }
          (p ∉ o.lateEvent → r.commitsSuper = false →
            (r.heldSafe = false ∨ s.params.autoResume = false → t.player p = r) ∧
            (r.heldSafe = true → s.params.autoResume = true →
              r.activity = .stepping ∨ r.activity = .pulseWidth ∨ r.activity = .fitWait →
              t.player p = { r with state := .running, holdCause := none })) ∧
          (∀ new first lines levels dwell, r.heldSafe = true → r.replacement = some (new, .superframe) →
            (s.list new).steps[0]? = some first → first.plainSet lines levels dwell →
            let swapped := { r with
              boundList := some new, replacement := none, index := 0, passCount := 0, relaunch := false,
              activity := .none, remaining := 0, deferred := false, due := false }
            (p ∉ o.lateEvent → s.params.autoResume = false → t.player p = swapped) ∧
            let entered := Player.atStepZero { swapped with state := .running, holdCause := none } dwell
            (s.params.autoResume = true → t.player p = entered) ∧
            (s.params.autoResume = true → (∀ p', p' ≠ p → (s.player p').heldSafe = false) →
              ∀ n, t.input n = s.input n)))

/-- On a live part whose safe record is sound, in READY or BOOTING with the start-up past its judgement of HOLD_IN (R179).
HOLD_IN_CHANGE to the level that HOLD_LEVEL selects, hold active being no: from CLEAR the state becomes ACTIVE with
cause set {HOLD_LINE} and every player is frozen as at a safe entry; from LATCHED it becomes ACTIVE with HOLD_LINE
joined and no player moves. To the other level, hold active being yes: ACTIVE becomes LATCHED with the same cause set
and no player moves. In each case the last change is at this stamp and no logical level moves. A sample that leaves
hold active as it was records the level alone; while BOOTING before that judgement, and in a part that is held or
without supply (log 13), the level alone is recorded. In READY with the safe record sound, a PARAM_SET of HOLD_LEVEL
to 0 or 1 puts the value in force and replies OK with it. If the last sample of HOLD_IN then is at the level while
hold active was no, the state is ACTIVE with HOLD_LINE in its cause set and every player frozen; if it is not while
hold active was yes, ACTIVE becomes LATCHED; else nothing but the parameter changes. -/
def Obligations.HoldInEntersAndLatchesTheSafeState : Prop :=
  (∀ (s : State) (level : Bool) (o : Order),
      (s.phase = .live → (s.boot = .ready ∨ ∃ load, s.boot = .booting (.judged load) ∨
          ∃ results, s.boot = .booting (.autostart load results)) → s.safeSound →
        let active := decide (level = s.params.holdLevel)
        (active = true → s.safe.holdActive = false →
          ∃ t, exec (.holdInChange level o) s = .next t ∧
            t.safe = { s.safe with state := .active, causes := { s.safe.causes with holdLine := true }, holdActive := true,
                                   holdIn := level, lastChange := s.stamp } ∧
            (∀ p, t.player p = (s.player p).frozen) ∧ t.lines = s.lines ∧ t.tb = s.tb ∧ t.store = s.store) ∧
        (active = false → s.safe.holdActive = true →
          ∃ t, exec (.holdInChange level o) s = .next t ∧
            t.safe = { s.safe with state := .latched, holdActive := false, holdIn := level, lastChange := s.stamp } ∧
            t.players = s.players ∧ t.lines = s.lines ∧ t.tb = s.tb ∧ t.store = s.store) ∧
        (active = s.safe.holdActive →
          exec (.holdInChange level o) s = .next ({ s with safe := { s.safe with holdIn := level } } : State).transmit)) ∧
      (s.phase = .live → (s.boot = .booting .values ∨ ∃ load, s.boot = .booting (.loaded load)) →
        exec (.holdInChange level o) s = .next ({ s with safe := { s.safe with holdIn := level } } : State).transmit) ∧
      (s.phase ≠ .live → exec (.holdInChange level o) s = .next { s with safe := { s.safe with holdIn := level } })) ∧
  (∀ (s : State) (q : Frame) (rest : List Frame) (o : Order) (v : Byte), s.asked 0x49 [0x20, 0, 0, v] q rest →
      v = 0 ∨ v = 1 → s.safeSound →
      let params := { s.params with holdLevel := decide (v = 1) }
      let fields := [0x20, 0, 0, v, 0, 0, 0]
      let active := decide (s.safe.holdIn = decide (v = 1))
      (active = true → s.safe.holdActive = false →
        ∃ t, exec (.paramSetHoldLevel o) s = State.answered t q .ok fields ∧ t.params = params ∧
          t.safe = { s.safe with state := .active, causes := { s.safe.causes with holdLine := true }, holdActive := true,
                                 lastChange := s.stamp } ∧
          (∀ p, t.player p = (s.player p).frozen) ∧ t.lines = s.lines ∧ t.tb = s.tb) ∧
      (active = false → s.safe.holdActive = true →
        ∃ t, exec (.paramSetHoldLevel o) s = State.answered t q .ok fields ∧ t.params = params ∧
          t.safe = { s.safe with state := .latched, holdActive := false, lastChange := s.stamp } ∧
          t.players = s.players ∧ t.lines = s.lines ∧ t.tb = s.tb) ∧
      (active = s.safe.holdActive →
        exec (.paramSetHoldLevel o) s = ({ s.taking rest with params := params } : State).answered q .ok fields))

/-- In READY, SAFE_STATUS with an empty payload replies OK with state, cause set, fault players, hold active, the last
sample of HOLD_IN, HOLD_LEVEL, the SAFE_OUT level, AUTO_RELEASE, AUTO_RESUME, FAULT_TO_SAFE, the set of players HELD
by SAFE, the set of those with a frozen step, and the last-change stamp (the place of the two sets and the one byte
each of the HOLD_IN sample, the SAFE_OUT level and the settings are the model's choice, log 17; bits 6 and 7 of a set
are 0). Nothing changes. In READY: IMAGE_INFO replies OK with, for A and then B, state, sequence (four bytes) and
checksum (two), the high byte first (log 17), loadable mark, then the bank of the newest complete image or FFh, then
the operation in flight (0 none, 1 SAVE, 2 ERASE) and its target, FFh for an erase or for none. AUTOSTART_READ replies
OK with the six entries, each an occupied mark and its fields (the form of an EMPTY one is the model's choice, log
17), and the flag. Nothing changes. In READY, PLAYER_STATUS of a player replies OK with state, bound list, claimed
lines, step index, activity, remaining ticks, pass count, pass limit, stop index, the four flags, hold cause, start
point with its input, fault cause, and the pending replacement's list and commit point, FFh for what is absent (log
17). Nothing changes. A player number of 6 or above is refused with NO_SUCH. In READY, TB_STATUS with an empty payload
replies OK with state, mode, stamp, frame index, FRAME_LEN and SUPER_LEN in force, for each of them a pending mark and
the pending value or 0, tick source, TICK_DIV, divider count, the last sample of SYNC_IN and the SYNC_OUT level, and
changes nothing. The one byte each of frame index, tick source and the two levels and the two bytes of the divider
count are the model's choice (log 17). -/
def Obligations.StatusRequestsReportTheirRecords : Prop :=
  (∀ (s : State) (q : Frame) (rest : List Frame), s.asked 0x42 [] q rest →
      ∃ held frozen : BitVec 6,
        (∀ p : PlayerId, held.getLsbD p.val =
          decide ((s.player p).state = .held ∧ (s.player p).holdCause = some .safe)) ∧
        (∀ p : PlayerId, frozen.getLsbD p.val =
          decide ((s.player p).state = .held ∧ (s.player p).holdCause = some .safe ∧ (s.player p).activity ≠ .none)) ∧
        exec .safeStatus s = (s.taking rest).answered q .ok
          ([s.safe.state.code, s.safe.causes.code, playersByte s.safe.faultPlayers, markByte s.safe.holdActive,
            markByte s.safe.holdIn, markByte s.params.holdLevel, markByte (decide (s.safe.state ≠ .clear)),
            markByte s.params.autoRelease, markByte s.params.autoResume, markByte s.params.faultToSafe,
            held.setWidth 8, frozen.setWidth 8] ++
            (be32 s.safe.lastChange.frame.toNat ++ be16 s.safe.lastChange.position))) ∧
  (∀ (s : State) (q : Frame) (rest : List Frame),
      (s.asked 0x5A [] q rest →
        exec .imageInfo s = (s.taking rest).answered q .ok
          ((([s.image.bankA, s.image.bankB].map fun k =>
              [k.state.code] ++ be32 k.seq.toNat ++ [k.checksum.extractLsb' 8 8, k.checksum.extractLsb' 0 8] ++
                [markByte (decide (k.state = .complete) && k.mark)]).flatten) ++
            [(s.newestComplete.map BankId.code).getD 0xFF] ++
            (match s.image.op with
              | .none => [0, 0xFF]
              | .save target _ _ _ => [1, target.code]
              | .eraseA | .eraseB _ => [2, 0xFF]))) ∧
      (s.asked 0x5D [] q rest →
        exec .autostartRead s = (s.taking rest).answered q .ok
          ((allPlayers.map fun p => entryBytes p s.image.autostart.entries[p.val]).flatten ++
            [markByte s.image.autostart.timebase]))) ∧
  (∀ (s : State) (q : Frame) (rest : List Frame) (number : Byte), s.asked 0x29 [number] q rest →
      (6 ≤ number.toNat → exec .playerStatus s = (s.taking rest).answered q .noSuch []) ∧
      (∀ p : PlayerId, number = finByte p →
        let r := s.player p
        exec .playerStatus s = (s.taking rest).answered q .ok
          ([r.state.code, (r.boundList.map finByte).getD 0xFF] ++ lineBytes r.claimed ++ [byteOf r.index, r.activity.code] ++
            be16 r.remaining ++ [byteOf r.passCount, byteOf r.passLimit, (r.stopIndex.map byteOf).getD 0xFF] ++
            [markByte r.relaunch, markByte r.holdPending, markByte r.deferred, markByte r.passBegun] ++
            [(r.holdCause.map HoldCause.code).getD 0xFF, (r.startPoint.map StartPoint.code).getD 0xFF,
              ((r.startPoint.bind StartPoint.inputOf).map finByte).getD 0xFF, (r.faultCause.map FaultCause.code).getD 0xFF,
              ((r.replacement.map Prod.fst).map finByte).getD 0xFF,
              ((r.replacement.map Prod.snd).map CommitPoint.code).getD 0xFF]))) ∧
  (∀ (s : State) (q : Frame) (rest : List Frame), s.asked 0x32 [] q rest →
      exec .tbStatus s = (s.taking rest).answered q .ok
        ([s.tb.state.code, byteOf s.params.syncMode.code] ++ (be32 s.tb.number.toNat ++ be16 s.tb.position) ++
          [byteOf s.tb.index] ++ be16 s.params.frameLen ++ be16 s.params.superLen ++
          [markByte s.tb.pendFrameLen.isSome] ++ be16 (s.tb.pendFrameLen.getD 0) ++
          [markByte s.tb.pendSuperLen.isSome] ++ be16 (s.tb.pendSuperLen.getD 0) ++
          [byteOf s.params.tickSource.code] ++ be16 s.params.tickDiv ++ be16 s.tb.divider ++
          [markByte s.tb.syncIn, markByte s.tb.syncOut]))

/-- In READY: PARAM_GET of an id that is not in the table, or with an index outside the parameter's range, is refused with
NO_SUCH. FRAME_LEN replies OK with id, index, value in force, pending mark and pending value or 0, likewise SUPER_LEN;
every other parameter but LINK_RATE replies with the value in force, as its code, and nothing pending; LINK_RATE
replies with the rate in force and, where a reply that will change it is unsent, the rate of the latest such reply.
Nothing changes. For each of the eleven PARAM_SET rows, in READY with a request of the row at the front: an id and
index that name no parameter are refused with NO_SUCH; else a value outside the parameter's values, a NOTICE_MASK with
bit 15 set among them, is refused with BAD_VALUE. Nothing changes. In READY, in every state of the Timebase and the
safe state: a PARAM_SET of FIT_MARGIN (0 to 255), AUTO_RELEASE, AUTO_RESUME, FAULT_TO_SAFE (0 or 1), IN_FILTER of an
input (0 to 15), LINE_IDLE or LINE_SAFE of a line (0 or 1) or NOTICE_MASK (bit 15 clear) puts the value in force,
replies OK with id, index, value and nothing pending, and changes nothing else: no logical level, no notice in the
queue. In READY, a PARAM_SET of IN_EDGE of an input to OFF (0), RISE (1), FALL (2) or BOTH (3) puts the setting in
force and replies OK; set to OFF it clears the latch's pending and doubled marks, and otherwise the latch is left as
it is. Nothing else changes. -/
def Obligations.ParametersAreReportedCheckedAndSetAtOnce : Prop :=
  (∀ (s : State) (q : Frame) (rest : List Frame) (id index : Byte), s.asked 0x48 [id, index] q rest →
      (paramNamed id index = false → exec .paramGet s = (s.taking rest).answered q .noSuch []) ∧
      (index = 0 →
        (∀ v : Nat, (id = 0x01 ∧ v = s.params.tickSource.code) ∨ (id = 0x02 ∧ v = s.params.tickDiv) ∨
            (id = 0x05 ∧ v = s.params.syncMode.code) ∨ (id = 0x06 ∧ v = s.params.syncEdge.code) ∨
            (id = 0x07 ∧ v = s.params.syncOutSrc.code) ∨ (id = 0x08 ∧ v = s.params.fitMargin) ∨
            (id = 0x20 ∧ v = if s.params.holdLevel then 1 else 0) ∨ (id = 0x21 ∧ v = if s.params.autoRelease then 1 else 0) ∨
            (id = 0x22 ∧ v = if s.params.autoResume then 1 else 0) ∨
            (id = 0x23 ∧ v = if s.params.faultToSafe then 1 else 0) ∨ (id = 0x28 ∧ v = s.params.noticeMask.toNat) →
          exec .paramGet s = (s.taking rest).answered q .ok ([id, index] ++ be16 v ++ [0, 0, 0]))) ∧
      (∀ n : InputId, index = finByte n →
        (id = 0x10 → exec .paramGet s = (s.taking rest).answered q .ok
          [id, index, 0, byteOf (s.inEdge n).code, 0, 0, 0]) ∧
        (id = 0x11 → exec .paramGet s = (s.taking rest).answered q .ok
          ([id, index] ++ be16 (s.inFilter n) ++ [0, 0, 0]))) ∧
      (∀ k : LineId, index = finByte k →
        (id = 0x18 → exec .paramGet s = (s.taking rest).answered q .ok
          [id, index, 0, markByte (s.params.lineIdle.getLsbD k.val), 0, 0, 0]) ∧
        (id = 0x19 → exec .paramGet s = (s.taking rest).answered q .ok
          [id, index, 0, markByte (s.params.lineSafe.getLsbD k.val), 0, 0, 0])) ∧
      (id = 0x03 → index = 0 → exec .paramGet s = (s.taking rest).answered q .ok
        ([id, index] ++ be16 s.params.frameLen ++ [markByte s.tb.pendFrameLen.isSome] ++ be16 (s.tb.pendFrameLen.getD 0))) ∧
      (id = 0x04 → index = 0 → exec .paramGet s = (s.taking rest).answered q .ok
        ([id, index] ++ be16 s.params.superLen ++ [markByte s.tb.pendSuperLen.isSome] ++ be16 (s.tb.pendSuperLen.getD 0))) ∧
      (id = 0x30 → index = 0 →
        ((∀ e ∈ s.link.replies, ∀ r, e.effect ≠ .setRate r) →
          exec .paramGet s = (s.taking rest).answered q .ok ([id, index] ++ be16 s.link.rate.code ++ [0, 0, 0])) ∧
        (∀ before e after r, s.link.replies = before ++ e :: after → e.effect = .setRate r →
          (∀ e' ∈ after, ∀ r', e'.effect ≠ .setRate r') →
          exec .paramGet s = (s.taking rest).answered q .ok
            ([id, index] ++ be16 s.link.rate.code ++ [1] ++ be16 r.code)))) ∧
  (∀ (c : Instr) (o : Order) (mine : Frame → Bool) (s : State) (q : Frame) (rest : List Frame) (id index hi lo : Byte),
      c ∈ [.paramSet, .paramSetStaged, .paramSetStoppedClass, .paramSetSyncOutSrc, .paramSetLinkRate, .paramSetHoldLevel o,
        .paramSetInEdge, .paramSetInFilter, .paramSetLineIdle, .paramSetLineSafe, .paramSetNoticeMask] →
      takesOf c = some mine → mine q = true → s.asked 0x49 [id, index, hi, lo] q rest →
      (paramNamed id index = false → exec c s = (s.taking rest).answered q .noSuch []) ∧
      (paramNamed id index = true → paramInRange id (word16 hi lo).toNat = false →
        exec c s = (s.taking rest).answered q .badValue [])) ∧
  (∀ (s : State) (q : Frame) (rest : List Frame) (v : Byte),
      let s0 := s.taking rest
      (s.asked 0x49 [0x08, 0, 0, v] q rest →
        exec .paramSet s =
          ({ s0 with params := { s.params with fitMargin := v.toNat } } : State).answered q .ok [0x08, 0, 0, v, 0, 0, 0]) ∧
      (v = 0 ∨ v = 1 →
        (s.asked 0x49 [0x21, 0, 0, v] q rest →
          exec .paramSet s = ({ s0 with params := { s.params with autoRelease := decide (v = 1) } } : State).answered q .ok
            [0x21, 0, 0, v, 0, 0, 0]) ∧
        (s.asked 0x49 [0x22, 0, 0, v] q rest →
          exec .paramSet s = ({ s0 with params := { s.params with autoResume := decide (v = 1) } } : State).answered q .ok
            [0x22, 0, 0, v, 0, 0, 0]) ∧
        (s.asked 0x49 [0x23, 0, 0, v] q rest →
          exec .paramSet s = ({ s0 with params := { s.params with faultToSafe := decide (v = 1) } } : State).answered q .ok
            [0x23, 0, 0, v, 0, 0, 0])) ∧
      (∀ n : InputId, v.toNat ≤ 15 → s.asked 0x49 [0x11, finByte n, 0, v] q rest →
        exec .paramSetInFilter s =
          ({ s0 with params := { s.params with inFilter := s.params.inFilter.set n.val v.toNat } } : State).answered q .ok
            [0x11, finByte n, 0, v, 0, 0, 0]) ∧
      (∀ k : LineId, v = 0 ∨ v = 1 →
        (s.asked 0x49 [0x18, finByte k, 0, v] q rest →
          ∃ idle : LineSet, (∀ j : LineId, idle.getLsbD j.val =
              if j = k then decide (v = 1) else s.params.lineIdle.getLsbD j.val) ∧
            exec .paramSetLineIdle s = ({ s0 with params := { s.params with lineIdle := idle } } : State).answered q .ok
              [0x18, finByte k, 0, v, 0, 0, 0]) ∧
        (s.asked 0x49 [0x19, finByte k, 0, v] q rest →
          ∃ safe : LineSet, (∀ j : LineId, safe.getLsbD j.val =
              if j = k then decide (v = 1) else s.params.lineSafe.getLsbD j.val) ∧
            exec .paramSetLineSafe s = ({ s0 with params := { s.params with lineSafe := safe } } : State).answered q .ok
              [0x19, finByte k, 0, v, 0, 0, 0])) ∧
      (∀ hi : Byte, hi.toNat < 128 → s.asked 0x49 [0x28, 0, hi, v] q rest →
        exec .paramSetNoticeMask s =
          ({ s0 with params := { s.params with noticeMask := hi ++ v } } : State).answered q .ok
            [0x28, 0, hi, v, 0, 0, 0])) ∧
  (∀ (s : State) (q : Frame) (rest : List Frame) (n : InputId) (edge : InEdge),
      s.asked 0x49 [0x10, finByte n, 0, byteOf edge.code] q rest →
      let s1 : State := { s.taking rest with params := { s.params with inEdge := s.params.inEdge.set n.val edge } }
      exec .paramSetInEdge s =
        (if edge = .off then s1.setInput n { s.input n with pending := false, doubled := false } else s1).answered q .ok
          [0x10, finByte n, 0, byteOf edge.code, 0, 0, 0])

/-- For every state and notice content. A kind that NOTICE_MASK excludes, READY excepted, changes nothing. An admitted one
that finds room (fewer than 32 records, and while BOOTING for a kind other than READY fewer than 31) is appended with
this stamp and repeat count 1. Finding none, it replaces content and stamp of the newest record of the same kind and
subject in its place and raises its repeat count by 1 up to 255; if there is no such record, the gap marker is set.
Nothing else changes. In READY, NOTICE_MUTE while unmuted sets the mute flag and NOTICE_UNMUTE while muted clears it,
with reply OK; each replies ALREADY in the state it asks for. The reply carries the flag after the request, the number
of records and the gap marker. Nothing else changes. -/
def Obligations.NoticesAreQueuedMergedOrLost : Prop :=
  (∀ (s : State) (body : NoticeBody),
      let room := if s.boot ≠ .ready ∧ body.number ≠ 0 then 31 else 32
      let admitted := body.number = 0 ∨ s.params.noticeMask.getLsbD body.number = true
      let same := fun n : Notice => n.body.number = body.number ∧ n.body.subject = body.subject
      (¬admitted → s.produce body = s) ∧
      (admitted → s.notices.queue.length < room →
        s.produce body = { s with notices := { s.notices with
          queue := s.notices.queue ++ [{ body := body, stamp := s.stamp, repeats := 1 }] } }) ∧
      (∀ before n after, admitted → room ≤ s.notices.queue.length → s.notices.queue = before ++ n :: after → same n →
        (∀ m ∈ after, ¬same m) →
        s.produce body = { s with notices := { s.notices with
          queue := before ++ { body := body, stamp := s.stamp, repeats := min (n.repeats + 1) 255 } :: after } }) ∧
      (admitted → room ≤ s.notices.queue.length → (∀ m ∈ s.notices.queue, ¬same m) →
        s.produce body = { s with notices := { s.notices with gap := true } })) ∧
  (∀ (s : State) (q : Frame) (rest : List Frame),
      let report := fun on : Bool => [markByte on, byteOf s.notices.queue.length, markByte s.notices.gap]
      (s.asked 0x50 [] q rest →
        exec .noticeMute s = if s.notices.muted = true then (s.taking rest).answered q .already (report true)
          else ({ s.taking rest with notices := { s.notices with muted := true } } : State).answered q .ok (report true)) ∧
      (s.asked 0x51 [] q rest →
        exec .noticeUnmute s = if s.notices.muted = false then (s.taking rest).answered q .already (report false)
          else ({ s.taking rest with notices := { s.notices with muted := false } } : State).answered q .ok (report false)))

/-- In READY. A PARAM_SET of FRAME_LEN (16 to 65535) or SUPER_LEN (1 to 256): while STOPPED the value is in force at once,
a pending one is dropped and the reply is OK; else it becomes the pending value, the one in force stays, and the reply
is PENDING with both. A PARAM_SET of TICK_DIV above 0, TICK_SOURCE, SYNC_MODE or SYNC_EDGE in its values: while
STOPPED in force at once with reply OK; else refused with WRONG_STATE. Nothing else changes. In READY. A PARAM_SET of
SYNC_OUT_SRC to the source in force replies OK and moves nothing (log 37). To another it puts the source in force with
reply OK; SYNC_OUT is then high only under RUNNING with the Timebase RUNNING, and low otherwise, so a pulse under way
ends. A PARAM_SET of LINK_RATE to one of its four values replies OK with the rate in force and the new one pending;
nothing else changes, and the reply carries the change to its end. On a live part, SYNC_OUT_PULSE_END takes SYNC_OUT
low where a high level raised outside RUNNING is in its microsecond, and otherwise changes nothing but what the
transmitter begins (the model's choice, log 2). -/
def Obligations.TimebaseParametersAndLinkRateAreSet : Prop :=
  (∀ (s : State) (q : Frame) (rest : List Frame) (hi lo : Byte),
      let v := (word16 hi lo).toNat
      let s0 := s.taking rest
      (16 ≤ v → s.asked 0x49 [0x03, 0, hi, lo] q rest →
        (s.tb.state = .stopped → exec .paramSetStaged s =
          ({ s0 with params := { s.params with frameLen := v }, tb := { s.tb with pendFrameLen := none } } : State).answered q .ok
            [0x03, 0, hi, lo, 0, 0, 0]) ∧
        (s.tb.state ≠ .stopped → exec .paramSetStaged s =
          ({ s0 with tb := { s.tb with pendFrameLen := some v } } : State).answered q .pending
            ([0x03, 0] ++ be16 s.params.frameLen ++ [1, hi, lo]))) ∧
      (1 ≤ v → v ≤ 256 → s.asked 0x49 [0x04, 0, hi, lo] q rest →
        (s.tb.state = .stopped → exec .paramSetStaged s =
          ({ s0 with params := { s.params with superLen := v }, tb := { s.tb with pendSuperLen := none } } : State).answered q .ok
            [0x04, 0, hi, lo, 0, 0, 0]) ∧
        (s.tb.state ≠ .stopped → exec .paramSetStaged s =
          ({ s0 with tb := { s.tb with pendSuperLen := some v } } : State).answered q .pending
            ([0x04, 0] ++ be16 s.params.superLen ++ [1, hi, lo]))) ∧
      (1 ≤ v → s.asked 0x49 [0x02, 0, hi, lo] q rest →
        (s.tb.state = .stopped → exec .paramSetStoppedClass s =
          ({ s0 with params := { s.params with tickDiv := v } } : State).answered q .ok [0x02, 0, hi, lo, 0, 0, 0]) ∧
        (s.tb.state ≠ .stopped → exec .paramSetStoppedClass s = s0.answered q .wrongState [])) ∧
      (∀ (source : TickSource) (mode : SyncMode) (edge : SyncEdge),
        (s.asked 0x49 [0x01, 0, 0, byteOf source.code] q rest →
          exec .paramSetStoppedClass s = if s.tb.state = .stopped then
            ({ s0 with params := { s.params with tickSource := source } } : State).answered q .ok
              [0x01, 0, 0, byteOf source.code, 0, 0, 0] else s0.answered q .wrongState []) ∧
        (s.asked 0x49 [0x05, 0, 0, byteOf mode.code] q rest →
          exec .paramSetStoppedClass s = if s.tb.state = .stopped then
            ({ s0 with params := { s.params with syncMode := mode } } : State).answered q .ok
              [0x05, 0, 0, byteOf mode.code, 0, 0, 0] else s0.answered q .wrongState []) ∧
        (s.asked 0x49 [0x06, 0, 0, byteOf edge.code] q rest →
          exec .paramSetStoppedClass s = if s.tb.state = .stopped then
            ({ s0 with params := { s.params with syncEdge := edge } } : State).answered q .ok
              [0x06, 0, 0, byteOf edge.code, 0, 0, 0] else s0.answered q .wrongState []))) ∧
  (∀ (s : State) (q : Frame) (rest : List Frame),
      (∀ src : SyncOutSrc, s.asked 0x49 [0x07, 0, 0, byteOf src.code] q rest →
        exec .paramSetSyncOutSrc s =
          (if src = s.params.syncOutSrc then s.taking rest
          else { s.taking rest with
              params := { s.params with syncOutSrc := src }
              tb := { s.tb with
                syncOut := decide (src = SyncOutSrc.running ∧ s.tb.state = .running), syncHold := false } } : State).answered
            q .ok [0x07, 0, 0, byteOf src.code, 0, 0, 0]) ∧
      (∀ rate : LinkRate, s.asked 0x49 [0x30, 0, 0, byteOf rate.code] q rest →
        exec .paramSetLinkRate s = .next (((s.taking rest).queueReply q
          { status := .ok, fields := [0x30, 0] ++ be16 s.link.rate.code ++ [1] ++ be16 rate.code,
            effect := .setRate rate }).transmit))) ∧
  (∀ s : State, s.phase = .live →
      (s.tb.syncHold = true →
        exec .syncOutPulseEnd s = .next ({ s with tb := { s.tb with syncOut := false, syncHold := false } } : State).transmit) ∧
      (s.tb.syncHold = false → exec .syncOutPulseEnd s = .next s.transmit))

/-- On a live part whose receiver is in HUNT, or in LENGTH after the frame's SOF (a whole frame as one row is the model's
choice, log 9), for every frame of a legal length: the receiver ends in HUNT with its timer stopped. A CHECK that
disagrees with the CRC makes a LINK notice with cause BAD_CHECK and nothing else. With a CHECK that agrees: a repeat
of a frame in the inbox is dropped; else a repeat of a cached request has its cached reply copied into a free entry,
or is dropped if none is free; else, with the inbox at 8 frames or no entry free, the busy-reject slot holds
INBOX_FULL for it in place of any earlier reject; else the frame enters the inbox at its end. Nothing else changes but
what the transmitter begins. SOF_RECEIVED in HUNT moves the receiver to LENGTH and starts the inter-byte timer.
LINK_BAD_LENGTH with a byte outside 2 to 250 in LENGTH, and in LENGTH, BODY or CHECK LINK_BYTE_ERROR, and LINK_TIMEOUT
in the last microsecond of the 5 ms (log 7), return it to HUNT with the timer stopped and produce a LINK notice with
their cause. In HUNT the latter two, and before that microsecond LINK_TIMEOUT, change nothing but what the transmitter
begins (log 2). No inbox, queue of replies or cache is touched by them. Ten levels on LINK_RX with a low start bit and
the data bits from the least significant are received as that byte where the stop bit is high, and as a stop-bit error
where it is low. -/
def Obligations.ReceivedFramesAreJudged : Prop :=
  (∀ (s : State) (f : Frame), s.phase = .live → s.link.rx = .hunt ∨ s.link.rx = .length → f.payload.length ≤ 248 →
      let link := { s.link with rx := .hunt, timer := none }
      let s1 : State := { s with link := link }
      let repeats := fun g : Frame => g.tag = f.tag ∧ g.check = f.check
      let cached := fun e : CacheEntry => e.tag = f.tag ∧ e.check = f.check
      let free := 12 - (s.link.replies.length + s.link.inbox.length)
      (f.check ≠ frameCheck f.tag f.kind f.payload →
        exec (.frameReceived f) s = .next (s1.produce (.link .badCheck)).transmit) ∧
      (f.check = frameCheck f.tag f.kind f.payload →
        ((∃ g ∈ s.link.inbox, repeats g) → exec (.frameReceived f) s = .next s1.transmit) ∧
        ((∀ g ∈ s.link.inbox, ¬repeats g) →
          (∀ before e after, s.link.cache = before ++ e :: after → cached e → (∀ e' ∈ before, ¬cached e') →
            exec (.frameReceived f) s = .next (if 0 < free then
              ({ s with link := { link with
                replies := s.link.replies ++ [{ frame := e.reply, effect := .plain }] } } : State).transmit
              else s1.transmit)) ∧
          ((∀ e ∈ s.link.cache, ¬cached e) →
            (8 ≤ s.link.inbox.length ∨ free = 0 →
              exec (.frameReceived f) s = .next ({ s with link := { link with
                reject := some (mkFrame f.tag (f.kind ||| 0x80) [0x20]) } } : State).transmit) ∧
            (s.link.inbox.length < 8 → 0 < free →
              exec (.frameReceived f) s = .next ({ s with link := { link with
                inbox := s.link.inbox ++ [f] } } : State).transmit))))) ∧
  (∀ s : State, s.phase = .live →
      let hunt : State := { s with link := { s.link with rx := .hunt, timer := none } }
      (s.link.rx = .hunt → exec .sofReceived s =
        .next ({ s with link := { s.link with rx := .length, timer := some 0 } } : State).transmit) ∧
      (∀ len : Byte, s.link.rx = .length → len.toNat < 2 ∨ 250 < len.toNat →
        exec (.linkBadLength len) s = .next (hunt.produce (.link .badLength)).transmit) ∧
      (s.link.rx ≠ .hunt → exec .linkByteError s = .next (hunt.produce (.link .byteError)).transmit) ∧
      (s.link.rx = .hunt → exec .linkByteError s = .next s.transmit ∧ exec .linkTimeout s = .next s.transmit) ∧
      (∀ k, s.link.timer = some k → k + 1 < 5000 → exec .linkTimeout s = .next s.transmit) ∧
      (∀ k, s.link.rx ≠ .hunt → s.link.timer = some k → 5000 ≤ k + 1 →
        exec .linkTimeout s = .next (hunt.produce (.link .timeout)).transmit)) ∧
  (∀ (s : State) (b : Byte),
      let levels := [false, b.getLsbD 0, b.getLsbD 1, b.getLsbD 2, b.getLsbD 3, b.getLsbD 4, b.getLsbD 5, b.getLsbD 6,
        b.getLsbD 7]
      s.rxUart (levels ++ [true]) = s.rxByte b ∧
        s.rxUart (levels ++ [false]) = if s.link.rx = .hunt then s else s.linkError .byteError)

/-- In READY. While an image operation is in flight IMAGE_SAVE is refused with BUSY, and with a newest complete image of
sequence FFFFFFFFh with WRONG_STATE. Otherwise the operation in flight is a save of the present parameters and
autostart table with a sequence one above the newest complete image's, or 1; its target's header is WRITING with
sequence 0, the other bank is as it was, the store-busy flag is set, and the reply is PENDING with target and sequence
(four bytes, log 17). The target is never the bank that holds the newest loadable image. Nothing else moves but the
model's counter of free values (log 15). On a live part with a save in flight. If the verify succeeds, the target is
COMPLETE with the sequence given, holds the lists SEALED now with the snapshot of parameters and autostart table, with
the CRC of its contents as checksum (the contents' layout is free, log 15), and is loadable. If it fails, the target
is DAMAGED with sequence 0 and holds nothing. Either way the other bank keeps its contents, state and sequence, the
operation is over, the store-busy flag is clear, no list, player, line or parameter moves; with no save in flight the
row changes nothing but what the transmitter begins (the model's choice, log 2). IMAGE_ERASE in READY with an
operation in flight is refused with BUSY; else bank A's header is WRITING with sequence 0 (from the take on: log 40),
bank B is as it was, store busy is set and the reply is PENDING. BANK_A_TREATED during it leaves A ERASED, or DAMAGED
if it did not read back erased, and B WRITING. ERASE_COMPLETION then leaves B ERASED or DAMAGED likewise, keeps A's
state, ends the operation and clears store busy. Sequences are 0 and nothing is held. Each of the two events changes
nothing but what the transmitter begins where no erase stands at its point (the model's choice, log 2). -/
def Obligations.SaveWritesItsTargetAndEraseTreatsBothBanks : Prop :=
  (∀ (s : State) (q : Frame) (rest : List Frame), s.asked 0x58 [] q rest →
      (s.image.op ≠ .none → exec .imageSave s = (s.taking rest).answered q .busy []) ∧
      (s.image.op = .none → s.newestSeq = 0xFFFFFFFF → exec .imageSave s = (s.taking rest).answered q .wrongState []) ∧
      (s.image.op = .none → s.newestSeq ≠ 0xFFFFFFFF →
        ∃ t target, exec .imageSave s = State.answered t q .pending (BankId.code target :: be32 (s.newestSeq + 1).toNat) ∧
          t = { s.taking rest with image := t.image, store := { s.store with busy := true }, fresh := t.fresh } ∧
          t.image.op = .save target (s.newestSeq + 1) s.params s.image.autostart ∧
          t.image.autostart = s.image.autostart ∧
          (t.bank target).state = .writing ∧ (t.bank target).seq = 0 ∧ (t.bank target).loadable = false ∧
          (∀ k, k ≠ target → t.bank k = s.bank k) ∧ s.newest Bank.loadable ≠ some target)) ∧
  (∀ (s : State) (ok : Bool), s.phase = .live →
      (∀ target seq params autostart, s.image.op = .save target seq params autostart →
        ∃ t, exec (.saveCompletion ok) s = .next t ∧
          t = { s with image := t.image, store := { s.store with busy := false }, notices := t.notices, link := t.link,
                       fresh := t.fresh } ∧
          t.image.op = .none ∧ t.image.autostart = s.image.autostart ∧
          (ok = true → (t.bank target).state = .complete ∧ (t.bank target).seq = seq ∧ (t.bank target).loadable = true ∧
            (t.bank target).image = some { lists := s.sealedLists, params := params, autostart := autostart } ∧
            (t.bank target).checksum =
              crc16 (Config.imageLayout { lists := s.sealedLists, params := params, autostart := autostart })) ∧
          (ok = false → (t.bank target).state = .damaged ∧ (t.bank target).seq = 0 ∧ (t.bank target).image = none ∧
            (t.bank target).loadable = false) ∧
          (∀ k, k ≠ target → (t.bank k).state = (s.bank k).state ∧ (t.bank k).seq = (s.bank k).seq ∧
            (t.bank k).checksum = (s.bank k).checksum ∧ (t.bank k).image = (s.bank k).image)) ∧
      ((∀ target seq params autostart, s.image.op ≠ .save target seq params autostart) →
        exec (.saveCompletion ok) s = .next s.transmit)) ∧
  (∀ (s : State) (ok : Bool),
      (∀ q rest, s.asked 0x59 [] q rest →
        (s.image.op ≠ .none → exec .imageErase s = (s.taking rest).answered q .busy []) ∧
        (s.image.op = .none →
          ∃ t, exec .imageErase s = State.answered t q .pending [] ∧
            t = { s.taking rest with image := t.image, store := { s.store with busy := true }, fresh := t.fresh } ∧
            t.image.op = .eraseA ∧ (t.bank .a).state = .writing ∧ (t.bank .a).seq = 0 ∧ t.bank .b = s.bank .b)) ∧
      (s.phase = .live → s.image.op = .eraseA →
        ∃ t, exec (.bankATreated ok) s = .next t ∧
          t = { s with image := t.image, notices := t.notices, link := t.link, fresh := t.fresh } ∧
          (t.bank .a).state = (if ok then .erased else .damaged) ∧ (t.bank .a).seq = 0 ∧ (t.bank .a).image = none ∧
          (t.bank .b).state = .writing ∧ (t.bank .b).seq = 0 ∧ t.image.op = .eraseB ok) ∧
      (∀ aOk, s.phase = .live → s.image.op = .eraseB aOk →
        ∃ t, exec (.eraseCompletion ok) s = .next t ∧
          t = { s with image := t.image, store := { s.store with busy := false }, notices := t.notices, link := t.link,
                       fresh := t.fresh } ∧
          (t.bank .b).state = (if ok then .erased else .damaged) ∧ (t.bank .b).seq = 0 ∧ (t.bank .b).image = none ∧
          (t.bank .a).state = (s.bank .a).state ∧ t.image.op = .none) ∧
      (s.phase = .live → s.image.op ≠ .eraseA → exec (.bankATreated ok) s = .next s.transmit) ∧
      (s.phase = .live → (∀ aOk, s.image.op ≠ .eraseB aOk) → exec (.eraseCompletion ok) s = .next s.transmit))

/-- On a live part: at FRAME_SENT the transmitter is free. If the frame was the oldest reply, its entry is free too; a
reply that carries a change of rate puts the rate in force and returns the receiver to HUNT with its timer stopped;
the RELOAD reply makes the start-up reset, after which the part is BOOTING (at step 1 of its start-up) and live, not
held (log 12), with every block at its start-up values: store, players, lines, inputs, parameters, autostart table,
notices, the Timebase with SYNC_IN as last sampled, the safe record with HOLD_IN as last sampled (log 13), and a link
with empty inbox, queue, cache and slot at 115200; the banks are kept, no reload is pending and no frame is begun.
With nothing being sent the row changes nothing but what the transmitter begins (log 2). On a live part with nothing
being sent, what the end of every row does (the moment is the model's choice, log 11) begins the oldest filled reply,
which keeps its entry; with none, the reject, which leaves its slot; with neither, and unmuted, the oldest notice,
which leaves the queue with the notice sequence as its TAG, the sequence rising by one and the gap marker clearing. -/
def Obligations.FrameSentFreesAndTheNextBegins : Prop :=
  (∀ s : State, s.phase = .live →
      let free : State := { s with link := { s.link with tx := none } }
      (s.link.tx = none → exec .frameSent s = .next s.transmit) ∧
      (∀ t, s.link.tx = some t → t.source ≠ .reply → exec .frameSent s = .next free.transmit) ∧
      (∀ t e es, s.link.tx = some t → t.source = .reply → s.link.replies = e :: es →
        (e.effect = .plain →
          exec .frameSent s = .next ({ s with link := { s.link with tx := none, replies := es } } : State).transmit) ∧
        (∀ r, e.effect = .setRate r →
          exec .frameSent s = .next ({ s with link := { s.link with
            tx := none, replies := es, rate := r, rx := .hunt, timer := none } } : State).transmit) ∧
        (e.effect = .reload →
          ∃ u, exec .frameSent s = .next u ∧ u.phase = .live ∧ u.boot = .booting .values ∧ u.reloadPending = false ∧
            u.link = Link.blank ∧ u.notices = Notices.blank ∧ u.store = Store.blank ∧ u.params = Params.default ∧
            (∀ p, u.player p = Player.blank) ∧ u.lines = Lines.blank ∧ u.image.bankA = s.image.bankA ∧
            u.image.bankB = s.image.bankB ∧ u.image.op = .none ∧ u.image.autostart = Autostart.empty ∧
            u.tb = { Timebase.blank with syncIn := s.tb.syncIn } ∧ (∀ n, u.input n = Input.blank) ∧
            u.safe = { Safe.blank with holdIn := s.safe.holdIn } ∧ u.pending = s.pending))) ∧
  (∀ s : State, s.phase = .live → s.link.tx = none →
      (∀ e es, s.link.replies = e :: es →
        s.transmit = { s with link := { s.link with tx := some { source := .reply, frame := e.frame } } }) ∧
      (∀ f, s.link.replies = [] → s.link.reject = some f →
        s.transmit = { s with link := { s.link with reject := none, tx := some { source := .reject, frame := f } } }) ∧
      (∀ n ns, s.link.replies = [] → s.link.reject = none → s.notices.muted = false → s.notices.queue = n :: ns →
        s.transmit = { s with
          link := { s.link with tx := some { source := .notice, frame := noticeFrame n s.notices.gap s.notices.seq } }
          notices := { s.notices with queue := ns, gap := false, seq := s.notices.seq + 1 } }) ∧
      (s.link.replies = [] → s.link.reject = none → (s.notices.muted = true ∨ s.notices.queue = []) → s.transmit = s))

/-- In READY with the store not busy. AUTOSTART_SET of entry n with player n, a list id below 40h, any line set, a legal
start point and any limits fills that entry, overwriting, and replies OK with the entry as given; of entry 6 with a
flag of 0 or 1 it sets the timebase flag off or on. Where the OK replies of AUTOSTART_SET begin with the entry number
and how they lay out the entry is the model's choice (log 17). AUTOSTART_CLEAR of an entry makes it EMPTY, of 6 sets
the flag off, of FFh does both for all, with OK, or ALREADY when nothing changed. Nothing else changes. -/
def Obligations.AutostartTableIsSetAndCleared : Prop :=
  ∀ (s : State) (q : Frame) (rest : List Frame), s.store.busy = false →
    let s0 := s.taking rest
    (∀ (p : PlayerId) (l : ListId) (lines : LineSet) (sp : StartPoint) (limit stop : Byte),
      let fields := [finByte p, finByte l] ++ lineBytes lines ++ [sp.code, (sp.inputOf.map finByte).getD 0, limit, stop]
      s.asked 0x5B (finByte p :: fields) q rest →
      exec .autostartSet s =
        (s0.setEntry p (some {
          list := l, lines := lines, start := sp, passLimit := limit.toNat
          stopIndex := if stop = 0xFF then none else some stop.toNat })).answered q .ok (finByte p :: fields)) ∧
    (∀ flag : Byte, flag = 0 ∨ flag = 1 → s.asked 0x5B [6, flag] q rest →
      exec .autostartSet s = (s0.setAutoTimebase (decide (flag = 1))).answered q .ok [6, flag]) ∧
    (∀ p : PlayerId, s.asked 0x5C [finByte p] q rest →
      exec .autostartClear s = (s0.setEntry p none).answered q
        (if s.image.autostart.entries[p.val] = none then .already else .ok) []) ∧
    (s.asked 0x5C [6] q rest →
      exec .autostartClear s = (s0.setAutoTimebase false).answered q
        (if s.image.autostart.timebase then .ok else .already) []) ∧
    (s.asked 0x5C [0xFF] q rest →
      exec .autostartClear s = ({ s0 with image := { s.image with autostart := Autostart.empty } } : State).answered q
        (if s.image.autostart = Autostart.empty then .already else .ok) [])

/-- On a live part. A start-up at its step 1 (blocks at their start-up values, autostart table EMPTY): if a bank is
loadable, by the checksums as they stand, with the higher sequence of those, the first action of IMAGE_LOAD (how many
one row takes is the model's choice, log 42) puts that image's parameters in force, every logical level at the loaded
idle level, each list of the image SEALED under its id with its label, steps and what they derive, every other list
FREE, and keeps the result LOADED with bank and sequence. If none is loadable, store and parameters stay, and the
result is DAMAGED where a bank is DAMAGED, WRITING or COMPLETE, else NONE. The next action judges HOLD_IN against
HOLD_LEVEL: ACTIVE, or CLEAR, without a notice. With six results, the last action is the READY notice and READY. For
an EMPTY table all ten actions give those effects and READY with six EMPTY, the Timebase not started. In READY the row
changes nothing but what the transmitter begins (the model's choice, log 2). The autostart run has a statement of its
own. -/
def Obligations.StartUpLoadsTheNewestLoadableImage : Prop :=
  ∀ (s : State) (o : Order), s.phase = .live →
    let oneAction := exec (.imageLoad { o with actions := some 1 }) s
    let judged := fun (holdLevel : Bool) (r : Safe) =>
      r.holdActive = decide (s.safe.holdIn = holdLevel) ∧ r.holdIn = s.safe.holdIn ∧ r.faultPlayers = 0 ∧
        r.causes = { holdLine := decide (s.safe.holdIn = holdLevel), request := false, fault := false } ∧
        r.state = (if s.safe.holdIn = holdLevel then .active else .clear)
    (s.boot = .ready → exec (.imageLoad o) s = .next s.transmit) ∧
    (∀ load, s.boot = .booting (.loaded load) →
      ∃ r, oneAction = .next ({ s with boot := .booting (.judged load), safe := r } : State).transmit ∧
        judged s.params.holdLevel r) ∧
    (∀ load results, s.boot = .booting (.autostart load results) → results.length = 6 →
      oneAction = .next (State.transmit
        { s.produce (.ready load.result load.bank load.seq s.image.autostart.timebase results) with boot := .ready })) ∧
    (s.boot = .booting .values → s.bootClean → s.lines = Lines.blank → s.image.autostart = Autostart.empty →
      let loads := fun k : BankId => (s.bank k).state = .complete ∧ (s.bank k).agrees = true
      let firstLeaves := fun (load : LoadResult) (effects : State → Prop) =>
        ∃ u, oneAction = .next u.transmit ∧ u.boot = .booting (.loaded load) ∧ u.safe = s.safe ∧ effects u
      let allLeave := fun (load : LoadResult) (effects : State → Prop) =>
        ∃ u, exec (.imageLoad { o with actions := none }) s = .next (State.transmit
            { u.produce (.ready load.result load.bank load.seq false (List.replicate 6 .empty)) with boot := .ready }) ∧
          u.boot ≠ .ready ∧ judged u.params.holdLevel u.safe ∧ effects u
      (∀ (k : BankId) (img : Image), loads k → (loads k.other → (s.bank k.other).seq < (s.bank k).seq) →
        (s.bank k).image = some img → img.fits →
        let load : LoadResult := { result := .loaded, bank := some k, seq := (s.bank k).seq }
        let effects := fun u : State =>
          u.notices = s.notices ∧ u.params = img.params ∧ u.tb = s.tb ∧ u.inputs = s.inputs ∧
            u.lines.logical = img.params.lineIdle ∧ u.image.autostart = img.autostart ∧ (∀ j, u.owner j = none) ∧
            (∀ p, u.player p = Player.blank) ∧
            (∀ saved ∈ img.lists, u.list saved.id = {
              state := .sealed, label := saved.label, steps := saved.steps,
              derived := some (footprintOf saved.steps, durationOf saved.steps), useCount := 0 }) ∧
            ∀ l, l ∉ img.lists.map SavedList.id → u.list l = ListRec.blank
        firstLeaves load effects ∧ (img.autostart = Autostart.empty → allLeave load effects)) ∧
      (¬loads .a → ¬loads .b →
        let spoilt := fun k : BankId => (s.bank k).state = .damaged ∨ (s.bank k).state = .writing ∨
          (s.bank k).state = .complete
        let load : LoadResult := { result := if spoilt .a ∨ spoilt .b then .damaged else .none, bank := none, seq := 0 }
        let effects := fun u : State =>
          u.notices = s.notices ∧ u.params = s.params ∧ u.store = s.store ∧ u.tb = s.tb ∧ u.inputs = s.inputs ∧
            u.lines = s.lines ∧ u.image.autostart = Autostart.empty ∧ ∀ p, u.player p = Player.blank
        firstLeaves load effects ∧ allLeave load effects))

/-- On a live part with a start-up at its step 1, nothing owned, where bank k is loadable with the higher sequence of
those that are, its image fits and has FAULT_TO_SAFE off: the ten actions of IMAGE_LOAD (log 42) leave READY, the last
thing being READY LOADED with bank and sequence, the flag and six results. Each entry in turn, from P0, has the result
EMPTY where it is empty; NO_LIST where its list is not of the image; FOOTPRINT where the footprint is not within its
lines; LINE_OWNED where an earlier bound entry holds one of them; else its player is bound to list and lines, with
SAFE_ACTIVE where HOLD_IN stands at the loaded HOLD_LEVEL, and OK where not. A player bound with SAFE_ACTIVE is BOUND;
one with OK and a start point other than NOW is ARMED on it with pass limit and stop index; one with neither result is
as after a reset. Without the flag the Timebase is STOPPED; with it, it has started as SYNC_MODE gives. Whatever other
events fell between the actions: the Timebase's action alone starts it with the flag on and changes nothing with it
off; and the action of an entry, in a state whose lists in use lie within the claims, gives it by the store, the
owners and the safe state as they then stand the same results and the same record. -/
def Obligations.AutostartRunBindsAndStartsItsEntries : Prop :=
  (∀ (s : State) (o : Order) (k : BankId) (img : Image), s.phase = .live → s.boot = .booting .values → s.bootClean →
    s.lines = Lines.blank →
    let loads := fun k : BankId => (s.bank k).state = .complete ∧ (s.bank k).agrees = true
    loads k → (loads k.other → (s.bank k.other).seq < (s.bank k).seq) → (s.bank k).image = some img → img.fits →
    img.params.faultToSafe = false →
    let active := s.safe.holdIn = img.params.holdLevel
    let auto := img.autostart
    ∃ (u : State) (results : List AutoResult),
      exec (.imageLoad { o with actions := none }) s = .next (State.transmit
        { u.produce (.ready .loaded (some k) (s.bank k).seq auto.timebase results) with boot := .ready }) ∧
      results.length = 6 ∧ u.boot ≠ .ready ∧
      (auto.timebase = false → u.tb.state = .stopped) ∧
      (auto.timebase = true → u.tb.state = (match img.params.syncMode with
        | .free | .aligned => .running
        | .triggered => .awaitSync
        | .gated => if u.syncActive s.tb.syncIn then .running else .paused)) ∧
      ∀ (p : PlayerId) (result : AutoResult), results[p.val]? = some result →
        let bound := fun (p' : PlayerId) => results[p'.val]? = some .ok ∨ results[p'.val]? = some .safeActive
        (auto.entries[p.val] = none → result = .empty) ∧
        (∀ e, auto.entries[p.val] = some e →
          let taken := ∃ p' e', p' < p ∧ bound p' ∧ auto.entries[p'.val] = some e' ∧ e'.lines &&& e.lines ≠ 0
          (e.list ∉ img.lists.map SavedList.id → result = .noList) ∧
          (∀ saved ∈ img.lists, saved.id = e.list →
            (footprintOf saved.steps &&& ~~~e.lines ≠ 0 → result = .footprint) ∧
            (footprintOf saved.steps &&& ~~~e.lines = 0 →
              (taken → result = .lineOwned) ∧ (¬taken → active → result = .safeActive) ∧
                (¬taken → ¬active → result = .ok))) ∧
          (bound p → (u.player p).claimed = e.lines ∧ (u.player p).boundList = some e.list ∧
            ∀ j : LineId, e.lines.getLsbD j.val = true → u.owner j = some p) ∧
          (result = .safeActive → (u.player p).state = .bound) ∧
          (result = .ok → e.start ≠ .now → (u.player p).state = .armed ∧ (u.player p).startPoint = some e.start ∧
            (u.player p).passLimit = e.passLimit ∧ (u.player p).stopIndex = e.stopIndex)) ∧
        (¬bound p → u.player p = Player.blank)) ∧
  (∀ (s : State) (o : Order) (load : LoadResult), s.phase = .live → s.boot = .booting (.judged load) → s.bootClean →
    ∃ u : State, exec (.imageLoad { o with actions := some 1 }) s = .next u.transmit ∧ u.boot = .booting (.autostart load []) ∧
      (s.image.autostart.timebase = false → u = { s with boot := u.boot }) ∧
      (s.image.autostart.timebase = true → u.tb.state = (match s.params.syncMode with
        | .free | .aligned => .running
        | .triggered => .awaitSync
        | .gated => if u.syncActive s.tb.syncIn then .running else .paused))) ∧
  (∀ (s : State) (o : Order) (load : LoadResult) (results : List AutoResult) (p : PlayerId), s.phase = .live →
    s.boot = .booting (.autostart load results) → p.val = results.length → s.bootClean → s.playsInClaims →
    ∃ (u : State) (result : AutoResult), exec (.imageLoad { o with actions := some 1 }) s = .next u.transmit ∧
      u.boot = .booting (.autostart load (results ++ [result])) ∧
      (result ≠ .ok → result ≠ .safeActive → u = { s with boot := u.boot }) ∧
      (s.image.autostart.entries[p.val] = none → result = .empty) ∧
      (∀ e, s.image.autostart.entries[p.val] = some e →
        let footprint := footprintOf (s.list e.list).steps
        let owned := ∃ j : LineId, e.lines.getLsbD j.val = true ∧ s.owner j ≠ none
        let bound := { Player.blank with state := .bound, boundList := some e.list, claimed := e.lines }
        ((s.list e.list).state ≠ .sealed → result = .noList) ∧
        ((s.list e.list).state = .sealed →
          (footprint &&& ~~~e.lines ≠ 0 → result = .footprint) ∧
          (footprint &&& ~~~e.lines = 0 →
            (owned → result = .lineOwned) ∧
            (¬owned → s.safe.state ≠ .clear → result = .safeActive ∧ u.player p = bound) ∧
            (¬owned → s.safe.state = .clear → result = .ok ∧ (e.start ≠ .now → u.player p = { bound with
              state := .armed, startPoint := some e.start, passLimit := e.passLimit, stopIndex := e.stopIndex }))))))

/-- With a DEVICE_STATUS of empty payload at the front, in BOOTING and in READY: the reply is OK with 2Ch, 0624h, revision
01h, boot state, safe state and cause set, Timebase state, free slot count, the six player states from P0, the mute
flag and the gap marker, and nothing changes. While BOOTING every take row refuses every other request of its own with
NOT_READY. -/
def Obligations.DeviceStatusReportsThePart : Prop :=
  ∀ (s : State) (q : Frame) (rest : List Frame), s.front q rest →
    (q.kind = 0x60 → q.payload = [] →
      exec .deviceStatus s = (s.taking rest).answered q .ok
        ([0x2C, 0x06, 0x24, 0x01, s.boot.code, s.safe.state.code, s.safe.causes.code, s.tb.state.code] ++
          be16 s.store.freeSlots ++
          [(s.player 0).state.code, (s.player 1).state.code, (s.player 2).state.code, (s.player 3).state.code,
            (s.player 4).state.code, (s.player 5).state.code] ++
          [markByte s.notices.muted, markByte s.notices.gap])) ∧
    (∀ c mine, takesOf c = some mine → mine q = true → s.boot ≠ .ready → q.kind ≠ 0x60 →
      exec c s = (s.taking rest).answered q .notReady [])

/-- In READY, a DEVICE_RESET of kind 0: lists, free slots, parameters, banks and autostart table are kept, use counts are
0 and store busy is clear; the Timebase is STOPPED at frame 0 with nothing pending; every player is at its reset
values; no line has an owner and every logical level is the idle level; every latch is cleared, filtered level and
candidate count kept; the safe state is judged afresh from HOLD_IN; inbox, cache and reject slot are empty, filled
replies, the frame being sent, receiver and rate are kept; the Notice Queue is empty, unmuted, without gap, its
sequence kept; an image operation is abandoned; and the reply is OK with the kind. Another kind than 0 and 1 is
refused with BAD_VALUE. In READY, a DEVICE_RESET of kind 1 marks reload pending, queues its reply OK with the kind,
and changes nothing else; the reply carries the start-up reset to its end. While reload pending is yes, no take row
changes anything. START_UP_RESET by power-on, or by RESET_N on a part with supply, holds the part (from power-on too
until RESET_N_RELEASE, log 12) with every block at its start-up values, the banks kept and SYNC_IN and HOLD_IN as last
sampled (log 13), hold active being no (log 36); RESET_N on a part without supply does nothing (log 31).
RESET_N_RELEASE makes a held part live and changes nothing else; on a part that is not held it does nothing (log 2).
POWER_FAILURE cuts the frame being sent and abandons an image operation, its bank left as it is; the rest of the
volatile state stands unread until power-on (log 31). -/
def Obligations.ResetsAndPowerSetEveryBlock : Prop :=
  (∀ (s : State) (q : Frame) (rest : List Frame) (kind : Byte), s.asked 0x61 [kind] q rest →
      (kind = 0 →
        ∃ t, exec .deviceResetWarm s = State.answered t q .ok [0] ∧
          (∀ l, t.list l = { s.list l with useCount := 0 }) ∧ t.store.freeSlots = s.store.freeSlots ∧
          t.store.busy = false ∧ t.params = s.params ∧ t.tb = { Timebase.blank with syncIn := s.tb.syncIn } ∧
          (∀ p, t.player p = Player.blank) ∧ (∀ k, t.owner k = none) ∧ t.lines.logical = s.params.lineIdle ∧
          (∀ n, t.input n = { Input.blank with
            filtered := (s.input n).filtered, sampled := (s.input n).sampled, candidate := (s.input n).candidate }) ∧
          t.safe = (if s.safe.holdIn = s.params.holdLevel then
              { Safe.blank with
                state := .active, causes := { holdLine := true, request := false, fault := false }, holdActive := true,
                holdIn := s.safe.holdIn }
            else { Safe.blank with holdIn := s.safe.holdIn }) ∧
          t.link = { s.link with inbox := [], cache := [], reject := none } ∧
          t.notices = { Notices.blank with seq := s.notices.seq } ∧ t.image = { s.image with op := .none } ∧
          t.boot = .ready ∧ t.reloadPending = false ∧ t.phase = .live ∧ t.pending = s.pending) ∧
      (1 < kind.toNat → exec .deviceResetWarm s = (s.taking rest).answered q .badValue [])) ∧
  (∀ s : State,
      (∀ q rest, s.asked 0x61 [1] q rest →
        exec .deviceResetReload s = .next ((({ s.taking rest with reloadPending := true } : State).queueReply q
          { status := .ok, fields := [1], effect := .reload }).transmit)) ∧
      (∀ c mine, takesOf c = some mine → s.reloadPending = true → exec c s = .next s)) ∧
  (∀ s : State,
      let values : State := {
        phase := .held, boot := .booting .values, reloadPending := false, store := Store.blank
        tb := { Timebase.blank with syncIn := s.tb.syncIn }, params := Params.default
        players := Vector.replicate 6 Player.blank, lines := Lines.blank, inputs := Vector.replicate 8 Input.blank
        safe := { Safe.blank with holdIn := s.safe.holdIn }, link := Link.blank, notices := Notices.blank
        image := { s.image with op := .none, autostart := Autostart.empty }, fresh := s.fresh, pending := s.pending }
      exec (.startUpReset .powerOn) s = .next values ∧
      (s.phase ≠ .off → exec (.startUpReset .resetN) s = .next values) ∧
      (s.phase = .off → exec (.startUpReset .resetN) s = .next s) ∧
      (s.phase = .held → exec .resetNRelease s = .next { s with phase := .live }) ∧
      (s.phase ≠ .held → exec .resetNRelease s = .next s) ∧
      exec .powerFailure s =
        .next { s with phase := .off, link := { s.link with tx := none }, image := { s.image with op := .none } })

/-- State.reset has its queues within their sizes, nothing waiting for an idle transmitter, sound latches, its blocks at
their start-up values while BOOTING, an agreeing claim table, agreeing use counts, the pool accounted for, a sound
safe record, the Timebase in its ranges, and the lists in use within the claims; the free slot count is 2048, the
Timebase is STOPPED and the part is BOOTING with step 1 of its start-up done. -/
def Obligations.ResetMeetsEveryKeptCondition : Prop :=
  State.reset.bounded ∧ State.reset.nothingWaits ∧ State.reset.latchesSound ∧ State.reset.bootClean ∧
    State.reset.claimsAgree ∧ State.reset.usesAgree ∧ State.reset.slotsAccounted ∧ State.reset.safeSound ∧
    State.reset.timeSound ∧ State.reset.playsInClaims ∧ State.reset.store.freeSlots = 2048 ∧ State.reset.tb.state = .stopped ∧
    State.reset.boot = .booting .values

/-- For every state: if the inbox holds at most 8 frames, filled and reserved reply entries are at most 12, the cache
holds at most 4 entries and the Notice Queue at most 32 records, 31 while BOOTING, then so it is after any step. For
every state in which an idle transmitter of a part with supply has no reply, no reject and no unmuted notice ready, so
it is after any step. -/
def Obligations.LinkAndNoticeQueuesStaySound : Prop :=
  (∀ s t : State, s.bounded → step s = .next t → t.bounded) ∧
  (∀ s t : State, s.nothingWaits → step s = .next t → t.nothingWaits)

/-- For every state: if every doubled latch is pending, and while BOOTING no image operation is in flight and what the
start-up has not reached yet stands at its start-up values (the store until the load, the safe record until the
judgement of HOLD_IN, the Timebase's state until its autostart, each player until its entry; log 42), then so it is
after any step. -/
def Obligations.DoubledLatchesStayPending : Prop :=
  ∀ s t : State, s.latchesSound → s.bootClean → step s = .next t → t.latchesSound ∧ t.bootClean

/-- For every state in which, while BOOTING, what the start-up has not reached yet stands at its start-up values (log 42):
if the set of lines whose owner is Pn is the claimed lines of Pn for every n, and an IDLE player claims nothing, then
so it is after any step. -/
def Obligations.ClaimTableAndPlayersAgreeAtEveryStep : Prop :=
  ∀ s t : State, s.bootClean → s.claimsAgree → step s = .next t → t.claimsAgree

/-- For every state in which, while BOOTING, what the start-up has not reached yet stands at its start-up values (log 42):
if each list's use count is the number of players bound to it plus the number of pending replacements naming it, each
used list is SEALED, and an IDLE player uses none, then so it is after any step. -/
def Obligations.UseCountsAgreeAtEveryStep : Prop :=
  ∀ s t : State, s.bootClean → s.usesAgree → step s = .next t → t.usesAgree

/-- For every state in which, while BOOTING, what the start-up has not reached yet stands at its start-up values (log 42)
and whose use counts agree: if what is derived of each SEALED list is what its steps give, and the footprint of every
list that a player is bound to or holds as its replacement lies within its claim, then so it is after any step. -/
def Obligations.ListsInUseStayWithinTheirClaims : Prop :=
  ∀ s t : State, s.bootClean → s.usesAgree → s.playsInClaims → step s = .next t → t.playsInClaims

/-- For every state in which, while BOOTING, what the start-up has not reached yet stands at its start-up values (log 42)
and whose use counts agree: if free slots and held steps make up 2048, no list passes 255 steps, FREE records are
blank and the images in the banks fit, then so it is after any step. -/
def Obligations.SlotsAreAccountedForAtEveryStep : Prop :=
  ∀ s t : State, s.bootClean → s.usesAgree → s.slotsAccounted → step s = .next t → t.slotsAccounted

/-- For every state in which, while BOOTING, what the start-up has not reached yet stands at its start-up values (log 42):
if the safe record is one that R129 allows (CLEAR with no causes; ACTIVE exactly while hold active is yes and
HOLD_LINE is among the causes; fault players exactly with FAULT) and no player is RUNNING or ARMED while it is not
CLEAR, then so it is after any step. -/
def Obligations.NoPlayerPlaysInASafeState : Prop :=
  ∀ s t : State, s.bootClean → s.safeSound → step s = .next t → t.safeSound

/-- For every state in which, while BOOTING, what the start-up has not reached yet stands at its start-up values (log 42):
if position is below FRAME_LEN, index below SUPER_LEN, the divider count below TICK_DIV and 0 with TICK_IN, all three
0 without a run, and TICK_DIV, FRAME_LEN, SUPER_LEN and the pending values in their ranges, in force and in the banks
and a save in flight, then so it is after any step. -/
def Obligations.TimebaseCountsStayInRange : Prop :=
  ∀ s t : State, s.bootClean → s.timeSound → step s = .next t → t.timeSound

/-- Whenever one of these rows answers a next state. The thirteen reporting rows (LIST_INFO, LIST_READ, STORE_INFO,
PLAYER_STATUS, TB_STATUS, LINE_STATUS, SAFE_STATUS, PARAM_GET, IMAGE_INFO, AUTOSTART_READ, DEVICE_STATUS,
UNKNOWN_KIND_REQUEST, PARAM_SET of LINK_RATE) change nothing but the link. The six store-changing rows change the
store and the link; NOTICE_MUTE and NOTICE_UNMUTE the notices; AUTOSTART_SET and AUTOSTART_CLEAR the image unit; with
nothing owed to a player (log 5), PLAYER_CANCEL, PLAYER_HOLD, PLAYER_SET_STOP and PLAYER_CLEAR the players;
PLAYER_REPLACE and PLAYER_WITHDRAW the players and the store; and PLAYER_STOP players, lines, store and notices;
LINE_DRIVE the lines; and INPUT_READ the inputs. Whenever FRAME_RECEIVED, LINK_BAD_LENGTH, LINK_BYTE_ERROR,
LINK_TIMEOUT or SOF_RECEIVED answers a next state, nothing has changed but the link and the Notice Queue; and so it is
of FRAME_SENT unless the frame sent was the reply of a RELOAD. -/
def Obligations.RequestsAndLinkEventsTouchOnlyTheirBlocks : Prop :=
  (∀ (s t : State) (c : Instr), exec c s = .next t →
      (c ∈ [.listInfo, .listRead, .storeInfo, .playerStatus, .tbStatus, .lineStatus, .safeStatus, .paramGet, .imageInfo,
          .autostartRead, .deviceStatus, .unknownKindRequest, .paramSetLinkRate] → t = { s with link := t.link }) ∧
      (c ∈ [.listCreate, .listAppend, .listTruncate, .listSeal, .listUnseal, .listDelete] →
        t = { s with store := t.store, link := t.link }) ∧
      (c ∈ [.noticeMute, .noticeUnmute] → t = { s with notices := t.notices, link := t.link }) ∧
      (c ∈ [.autostartSet, .autostartClear] → t = { s with image := t.image, link := t.link }) ∧
      (c ∈ [.playerCancel, .playerHold, .playerSetStop, .playerClear] → s.nothingOwed →
        t = { s with players := t.players, link := t.link }) ∧
      (c ∈ [.playerReplace, .playerWithdraw] → s.nothingOwed →
        t = { s with players := t.players, store := t.store, link := t.link }) ∧
      (c = .lineDrive → t = { s with lines := t.lines, link := t.link }) ∧
      (c = .inputRead → t = { s with inputs := t.inputs, link := t.link }) ∧
      (c = .playerStop → s.nothingOwed → t = { s with
        players := t.players, lines := t.lines, store := t.store, notices := t.notices, link := t.link })) ∧
  (∀ (s t : State) (c : Instr) (f : Frame) (len : Byte), exec c s = .next t →
      (c ∈ [.frameReceived f, .linkBadLength len, .linkByteError, .linkTimeout, .sofReceived] →
        t = { s with link := t.link, notices := t.notices }) ∧
      (c = .frameSent →
        (∀ w e es, s.link.tx = some w → w.source = .reply → s.link.replies = e :: es → e.effect ≠ .reload) →
        t = { s with link := t.link, notices := t.notices }))

/-- Whenever PLAYER_START, PLAYER_RESUME, TB_START, TB_STOP, SAFE_ENTER, SAFE_RELEASE, INTERNAL_TICK, TICK_IN_EDGE,
SYNC_IN_EDGE, SYNC_OUT_PULSE_END, a row of a phase end, ACCEPTED_CHANGE, INPUT_SAMPLE or HOLD_IN_CHANGE answers a next
state: every list keeps state, label, steps and what is derived, the free slots and the store-busy flag are as they
were, every line keeps its owner, the image unit, boot state, reload mark and phase are as they were, every parameter
but FRAME_LEN and SUPER_LEN is as it was, and every player keeps its claimed lines. Where the lists in use lie within
the claims, as every step keeps it, a line that no player claims keeps its logical level, and a row of one player's
phase end, with no player late in its order, writes no line outside that player's claim. -/
def Obligations.PlayAndTimeTouchNoListNoBankNoOwner : Prop :=
  ∀ (s t : State) (c : Instr) (o : Order) (p : PlayerId) (n : InputId) (level : Bool), exec c s = .next t →
    c ∈ [.playerStart o, .playerResume o, .tbStart o, .tbStop o, .safeEnter o, .safeRelease o, .internalTick o,
      .tickInEdge o, .syncInEdge level o, .syncOutPulseEnd, .setDwellEnd p o, .pulseTrailingEdge p o, .pulseDwellEnd p o,
      .waitEdgeTimeout p o, .acceptedChange n o, .inputSample n level o, .holdInChange level o] →
    (∀ l, { t.list l with useCount := (s.list l).useCount } = s.list l) ∧ t.store.freeSlots = s.store.freeSlots ∧
      t.store.busy = s.store.busy ∧ (∀ k, t.owner k = s.owner k) ∧ t.image = s.image ∧ t.boot = s.boot ∧
      t.reloadPending = s.reloadPending ∧ t.phase = s.phase ∧
      t.params = { s.params with frameLen := t.params.frameLen, superLen := t.params.superLen } ∧
      (∀ p', (t.player p').claimed = (s.player p').claimed) ∧ t.pending = s.pending ∧ t.fresh = s.fresh ∧
      (s.playsInClaims → ∀ k : LineId,
        ((∀ p', (s.player p').claimed.getLsbD k.val = false) →
          t.lines.logical.getLsbD k.val = s.lines.logical.getLsbD k.val) ∧
        (c ∈ [.setDwellEnd p o, .pulseTrailingEdge p o, .pulseDwellEnd p o, .waitEdgeTimeout p o] → o.late = [] →
          (s.player p).claimed.getLsbD k.val = false →
          t.lines.logical.getLsbD k.val = s.lines.logical.getLsbD k.val))

end Statements
end

