-- ==== Sys2Proof/Laws/Operands.lean ====
section
/-! SUPPORT. The fields of frames read back: numbers, line sets, counts, flags and step records. -/

namespace Sys2Proof.Machine

/-! ### Numbers of a request -/

@[simp] theorem playerOf_finByte (p : PlayerId) : playerOf (finByte p) = some p := by
  fin_cases p <;> rfl

@[simp] theorem inputOf_finByte (n : InputId) : inputOf (finByte n) = some n := by
  fin_cases n <;> rfl

@[simp] theorem listOf_finByte (l : ListId) : listOf (finByte l) = some l := by
  fin_cases l <;> rfl

@[simp] theorem commitPointOf_code (c : CommitPoint) : commitPointOf c.code = some c := by
  cases c <;> rfl

/-- A start point's two bytes are read as that start point (R72). -/
@[simp] theorem startPointOf_code (sp : StartPoint) :
    startPointOf sp.code ((sp.inputOf.map finByte).getD 0) = .ok sp := by
  cases sp with
  | input n => simp [startPointOf, StartPoint.code, StartPoint.inputOf]
  | now => rfl
  | frame => rfl
  | superframe => rfl
  | sync => rfl

@[simp] theorem linesOf_lineBytes (l : LineSet) :
    linesOf (l.extractLsb' 0 8) (l.extractLsb' 8 8) (l.extractLsb' 16 8) = l := by
  unfold linesOf; ext i hi; simp; grind

@[simp] theorem word16_countBytes (c : BitVec 16) : word16 (c.extractLsb' 8 8) (c.extractLsb' 0 8) = c := by
  unfold word16; ext i hi; simp; grind

/-! ### Step records (R7, R8, R155) -/

/-- The bits of a flags byte. -/
theorem flagBits (a b c d e f : Bool) : ∀ i, i < 8 →
    ((if a then 1#8 else 0) ||| (if b then 2 else 0) ||| (if c then 4 else 0) ||| (if d then 8 else 0) |||
      (if e then 16 else 0) ||| (if f then 32 else 0)).getLsbD i = [a, b, c, d, e, f, false, false].getD i false := by
  revert a b c d e f; decide

/-- A step's flags byte gives its flags back. -/
theorem withFlags_flagByte (st : Step) : Step.withFlags st.action st.flagByte = st := by
  obtain ⟨ac, a, b, c, d, e, f⟩ := st
  have h := flagBits a b c d e f
  simp only [Step.withFlags, Step.flagByte, Step.mk.injEq, true_and]
  exact ⟨h 0 (by omega), h 1 (by omega), h 2 (by omega), h 3 (by omega), h 4 (by omega), h 5 (by omega)⟩

/-- Bits 6 and 7 of a flags byte are clear. -/
theorem flagByte_high (st : Step) : st.flagByte.getLsbD 6 = false ∧ st.flagByte.getLsbD 7 = false :=
  ⟨flagBits _ _ _ _ _ _ 6 (by omega), flagBits _ _ _ _ _ _ 7 (by omega)⟩

@[simp] theorem record_length (st : Step) : st.record.length = 12 := by
  unfold Step.record; cases st.action <;> simp [lineBytes, countBytes]

/-- A step's record gives its action back. -/
theorem actionOfRecord_record (st : Step) : ∃ kind b2 b3 b4 b5 b6 b7 b8 b9 b10 b11,
    st.record = [kind, st.flagByte, b2, b3, b4, b5, b6, b7, b8, b9, b10, b11] ∧
      actionOfRecord kind b2 b3 b4 b5 b6 b7 b8 b9 b10 b11 = some st.action := by
  have h0 : word16 0#8 0#8 = 0#16 := by decide
  have h1 : linesOf 0#8 0#8 0#8 = 0#24 := by decide
  unfold Step.record
  cases st.action <;>
    exact ⟨_, _, _, _, _, _, _, _, _, _, _, rfl, by simp [actionOfRecord, h0, h1]⟩

/-- The record of a valid step holds that step. -/
theorem ofRecord_record {st : Step} (h : st.valid = true) : Step.ofRecord st.record = some st := by
  obtain ⟨k, b2, b3, b4, b5, b6, b7, b8, b9, b10, b11, hr, ha⟩ := actionOfRecord_record st
  have hw := withFlags_flagByte st
  have hf := flagByte_high st
  rw [hr]
  simp only [Step.ofRecord, ha, hw, hf, h, true_and, if_true]

/-- Records of 12 bytes are read one by one. -/
theorem stepRecords_flatten : ∀ rs : List (List Byte), (∀ r ∈ rs, r.length = 12) → stepRecords rs.flatten = rs
  | [], _ => rfl
  | r :: rs, h => by
    have hr := h r (by simp)
    match r, hr with
    | [a0, a1, a2, a3, a4, a5, a6, a7, a8, a9, a10, a11], _ =>
      simp [stepRecords, stepRecords_flatten rs (fun r' h' => h r' (by simp [h']))]

/-- Records that all hold steps are read as those steps. -/
theorem stepsOf_records (i : Nat) : ∀ sts : List Step, (∀ st ∈ sts, st.valid = true) →
    stepsOf i (sts.map Step.record) = .ok sts
  | [], _ => rfl
  | st :: sts, h => by
    simp [stepsOf, ofRecord_record (h st (by simp)), stepsOf_records (i + 1) sts (fun s' h' => h s' (by simp [h']))]

/-! ### Bytes on the line (R141) -/

/-- The levels of a byte spell that byte with a high stop bit. -/
@[simp] theorem uartByte_uartBits : ∀ b : Byte, uartByte (uartBits b) = some (b, true) := by decide +kernel

/-- A byte has ten levels. -/
@[simp] theorem uartBits_length (b : Byte) : (uartBits b).length = 10 := rfl

end Sys2Proof.Machine
end

