-- ==== Sys2Proof/Laws/State.lean ====
section
/-! SUPPORT. One lemma per field per update, true by rfl, so that a proof unfolds no record update; and what the reading of a
record gives after an update of another. -/

namespace Sys2Proof.Machine

/-! ### setPlayer -/

@[simp] theorem State.setPlayer_phase (s : State) (p : PlayerId) (r : Player) : (s.setPlayer p r).phase = s.phase := rfl
@[simp] theorem State.setPlayer_boot (s : State) (p : PlayerId) (r : Player) : (s.setPlayer p r).boot = s.boot := rfl
@[simp] theorem State.setPlayer_reloadPending (s : State) (p : PlayerId) (r : Player) : (s.setPlayer p r).reloadPending = s.reloadPending := rfl
@[simp] theorem State.setPlayer_store (s : State) (p : PlayerId) (r : Player) : (s.setPlayer p r).store = s.store := rfl
@[simp] theorem State.setPlayer_tb (s : State) (p : PlayerId) (r : Player) : (s.setPlayer p r).tb = s.tb := rfl
@[simp] theorem State.setPlayer_params (s : State) (p : PlayerId) (r : Player) : (s.setPlayer p r).params = s.params := rfl
@[simp] theorem State.setPlayer_players (s : State) (p : PlayerId) (r : Player) : (s.setPlayer p r).players = s.players.set p.val r := rfl
@[simp] theorem State.setPlayer_lines (s : State) (p : PlayerId) (r : Player) : (s.setPlayer p r).lines = s.lines := rfl
@[simp] theorem State.setPlayer_inputs (s : State) (p : PlayerId) (r : Player) : (s.setPlayer p r).inputs = s.inputs := rfl
@[simp] theorem State.setPlayer_safe (s : State) (p : PlayerId) (r : Player) : (s.setPlayer p r).safe = s.safe := rfl
@[simp] theorem State.setPlayer_link (s : State) (p : PlayerId) (r : Player) : (s.setPlayer p r).link = s.link := rfl
@[simp] theorem State.setPlayer_notices (s : State) (p : PlayerId) (r : Player) : (s.setPlayer p r).notices = s.notices := rfl
@[simp] theorem State.setPlayer_image (s : State) (p : PlayerId) (r : Player) : (s.setPlayer p r).image = s.image := rfl
@[simp] theorem State.setPlayer_fresh (s : State) (p : PlayerId) (r : Player) : (s.setPlayer p r).fresh = s.fresh := rfl
@[simp] theorem State.setPlayer_pending (s : State) (p : PlayerId) (r : Player) : (s.setPlayer p r).pending = s.pending := rfl
@[simp] theorem State.setPlayer_list (s : State) (p : PlayerId) (r : Player) (l0 : ListId) : (s.setPlayer p r).list l0 = s.list l0 := rfl
@[simp] theorem State.setPlayer_input (s : State) (p : PlayerId) (r : Player) (n0 : InputId) : (s.setPlayer p r).input n0 = s.input n0 := rfl
@[simp] theorem State.setPlayer_owner (s : State) (p : PlayerId) (r : Player) (k0 : LineId) : (s.setPlayer p r).owner k0 = s.owner k0 := rfl

/-! ### setList -/

@[simp] theorem State.setList_phase (s : State) (l : ListId) (r : ListRec) : (s.setList l r).phase = s.phase := rfl
@[simp] theorem State.setList_boot (s : State) (l : ListId) (r : ListRec) : (s.setList l r).boot = s.boot := rfl
@[simp] theorem State.setList_reloadPending (s : State) (l : ListId) (r : ListRec) : (s.setList l r).reloadPending = s.reloadPending := rfl
@[simp] theorem State.setList_store (s : State) (l : ListId) (r : ListRec) : (s.setList l r).store = { s.store with lists := s.store.lists.set l.val r } := rfl
@[simp] theorem State.setList_tb (s : State) (l : ListId) (r : ListRec) : (s.setList l r).tb = s.tb := rfl
@[simp] theorem State.setList_params (s : State) (l : ListId) (r : ListRec) : (s.setList l r).params = s.params := rfl
@[simp] theorem State.setList_players (s : State) (l : ListId) (r : ListRec) : (s.setList l r).players = s.players := rfl
@[simp] theorem State.setList_lines (s : State) (l : ListId) (r : ListRec) : (s.setList l r).lines = s.lines := rfl
@[simp] theorem State.setList_inputs (s : State) (l : ListId) (r : ListRec) : (s.setList l r).inputs = s.inputs := rfl
@[simp] theorem State.setList_safe (s : State) (l : ListId) (r : ListRec) : (s.setList l r).safe = s.safe := rfl
@[simp] theorem State.setList_link (s : State) (l : ListId) (r : ListRec) : (s.setList l r).link = s.link := rfl
@[simp] theorem State.setList_notices (s : State) (l : ListId) (r : ListRec) : (s.setList l r).notices = s.notices := rfl
@[simp] theorem State.setList_image (s : State) (l : ListId) (r : ListRec) : (s.setList l r).image = s.image := rfl
@[simp] theorem State.setList_fresh (s : State) (l : ListId) (r : ListRec) : (s.setList l r).fresh = s.fresh := rfl
@[simp] theorem State.setList_pending (s : State) (l : ListId) (r : ListRec) : (s.setList l r).pending = s.pending := rfl
@[simp] theorem State.setList_player (s : State) (l : ListId) (r : ListRec) (p0 : PlayerId) : (s.setList l r).player p0 = s.player p0 := rfl
@[simp] theorem State.setList_input (s : State) (l : ListId) (r : ListRec) (n0 : InputId) : (s.setList l r).input n0 = s.input n0 := rfl
@[simp] theorem State.setList_owner (s : State) (l : ListId) (r : ListRec) (k0 : LineId) : (s.setList l r).owner k0 = s.owner k0 := rfl

/-! ### setInput -/

@[simp] theorem State.setInput_phase (s : State) (n : InputId) (r : Input) : (s.setInput n r).phase = s.phase := rfl
@[simp] theorem State.setInput_boot (s : State) (n : InputId) (r : Input) : (s.setInput n r).boot = s.boot := rfl
@[simp] theorem State.setInput_reloadPending (s : State) (n : InputId) (r : Input) : (s.setInput n r).reloadPending = s.reloadPending := rfl
@[simp] theorem State.setInput_store (s : State) (n : InputId) (r : Input) : (s.setInput n r).store = s.store := rfl
@[simp] theorem State.setInput_tb (s : State) (n : InputId) (r : Input) : (s.setInput n r).tb = s.tb := rfl
@[simp] theorem State.setInput_params (s : State) (n : InputId) (r : Input) : (s.setInput n r).params = s.params := rfl
@[simp] theorem State.setInput_players (s : State) (n : InputId) (r : Input) : (s.setInput n r).players = s.players := rfl
@[simp] theorem State.setInput_lines (s : State) (n : InputId) (r : Input) : (s.setInput n r).lines = s.lines := rfl
@[simp] theorem State.setInput_inputs (s : State) (n : InputId) (r : Input) : (s.setInput n r).inputs = s.inputs.set n.val r := rfl
@[simp] theorem State.setInput_safe (s : State) (n : InputId) (r : Input) : (s.setInput n r).safe = s.safe := rfl
@[simp] theorem State.setInput_link (s : State) (n : InputId) (r : Input) : (s.setInput n r).link = s.link := rfl
@[simp] theorem State.setInput_notices (s : State) (n : InputId) (r : Input) : (s.setInput n r).notices = s.notices := rfl
@[simp] theorem State.setInput_image (s : State) (n : InputId) (r : Input) : (s.setInput n r).image = s.image := rfl
@[simp] theorem State.setInput_fresh (s : State) (n : InputId) (r : Input) : (s.setInput n r).fresh = s.fresh := rfl
@[simp] theorem State.setInput_pending (s : State) (n : InputId) (r : Input) : (s.setInput n r).pending = s.pending := rfl
@[simp] theorem State.setInput_player (s : State) (n : InputId) (r : Input) (p0 : PlayerId) : (s.setInput n r).player p0 = s.player p0 := rfl
@[simp] theorem State.setInput_list (s : State) (n : InputId) (r : Input) (l0 : ListId) : (s.setInput n r).list l0 = s.list l0 := rfl
@[simp] theorem State.setInput_owner (s : State) (n : InputId) (r : Input) (k0 : LineId) : (s.setInput n r).owner k0 = s.owner k0 := rfl

/-! ### useUp -/

@[simp] theorem State.useUp_phase (s : State) (l : ListId) : (s.useUp l).phase = s.phase := rfl
@[simp] theorem State.useUp_boot (s : State) (l : ListId) : (s.useUp l).boot = s.boot := rfl
@[simp] theorem State.useUp_reloadPending (s : State) (l : ListId) : (s.useUp l).reloadPending = s.reloadPending := rfl
@[simp] theorem State.useUp_tb (s : State) (l : ListId) : (s.useUp l).tb = s.tb := rfl
@[simp] theorem State.useUp_params (s : State) (l : ListId) : (s.useUp l).params = s.params := rfl
@[simp] theorem State.useUp_players (s : State) (l : ListId) : (s.useUp l).players = s.players := rfl
@[simp] theorem State.useUp_lines (s : State) (l : ListId) : (s.useUp l).lines = s.lines := rfl
@[simp] theorem State.useUp_inputs (s : State) (l : ListId) : (s.useUp l).inputs = s.inputs := rfl
@[simp] theorem State.useUp_safe (s : State) (l : ListId) : (s.useUp l).safe = s.safe := rfl
@[simp] theorem State.useUp_link (s : State) (l : ListId) : (s.useUp l).link = s.link := rfl
@[simp] theorem State.useUp_notices (s : State) (l : ListId) : (s.useUp l).notices = s.notices := rfl
@[simp] theorem State.useUp_image (s : State) (l : ListId) : (s.useUp l).image = s.image := rfl
@[simp] theorem State.useUp_fresh (s : State) (l : ListId) : (s.useUp l).fresh = s.fresh := rfl
@[simp] theorem State.useUp_pending (s : State) (l : ListId) : (s.useUp l).pending = s.pending := rfl
@[simp] theorem State.useUp_player (s : State) (l : ListId) (p0 : PlayerId) : (s.useUp l).player p0 = s.player p0 := rfl
@[simp] theorem State.useUp_input (s : State) (l : ListId) (n0 : InputId) : (s.useUp l).input n0 = s.input n0 := rfl
@[simp] theorem State.useUp_owner (s : State) (l : ListId) (k0 : LineId) : (s.useUp l).owner k0 = s.owner k0 := rfl

/-! ### useDown -/

@[simp] theorem State.useDown_phase (s : State) (l : ListId) : (s.useDown l).phase = s.phase := rfl
@[simp] theorem State.useDown_boot (s : State) (l : ListId) : (s.useDown l).boot = s.boot := rfl
@[simp] theorem State.useDown_reloadPending (s : State) (l : ListId) : (s.useDown l).reloadPending = s.reloadPending := rfl
@[simp] theorem State.useDown_tb (s : State) (l : ListId) : (s.useDown l).tb = s.tb := rfl
@[simp] theorem State.useDown_params (s : State) (l : ListId) : (s.useDown l).params = s.params := rfl
@[simp] theorem State.useDown_players (s : State) (l : ListId) : (s.useDown l).players = s.players := rfl
@[simp] theorem State.useDown_lines (s : State) (l : ListId) : (s.useDown l).lines = s.lines := rfl
@[simp] theorem State.useDown_inputs (s : State) (l : ListId) : (s.useDown l).inputs = s.inputs := rfl
@[simp] theorem State.useDown_safe (s : State) (l : ListId) : (s.useDown l).safe = s.safe := rfl
@[simp] theorem State.useDown_link (s : State) (l : ListId) : (s.useDown l).link = s.link := rfl
@[simp] theorem State.useDown_notices (s : State) (l : ListId) : (s.useDown l).notices = s.notices := rfl
@[simp] theorem State.useDown_image (s : State) (l : ListId) : (s.useDown l).image = s.image := rfl
@[simp] theorem State.useDown_fresh (s : State) (l : ListId) : (s.useDown l).fresh = s.fresh := rfl
@[simp] theorem State.useDown_pending (s : State) (l : ListId) : (s.useDown l).pending = s.pending := rfl
@[simp] theorem State.useDown_player (s : State) (l : ListId) (p0 : PlayerId) : (s.useDown l).player p0 = s.player p0 := rfl
@[simp] theorem State.useDown_input (s : State) (l : ListId) (n0 : InputId) : (s.useDown l).input n0 = s.input n0 := rfl
@[simp] theorem State.useDown_owner (s : State) (l : ListId) (k0 : LineId) : (s.useDown l).owner k0 = s.owner k0 := rfl

/-! ### writeLines -/

@[simp] theorem State.writeLines_phase (s : State) (lines levels : LineSet) : (s.writeLines lines levels).phase = s.phase := rfl
@[simp] theorem State.writeLines_boot (s : State) (lines levels : LineSet) : (s.writeLines lines levels).boot = s.boot := rfl
@[simp] theorem State.writeLines_reloadPending (s : State) (lines levels : LineSet) : (s.writeLines lines levels).reloadPending = s.reloadPending := rfl
@[simp] theorem State.writeLines_store (s : State) (lines levels : LineSet) : (s.writeLines lines levels).store = s.store := rfl
@[simp] theorem State.writeLines_tb (s : State) (lines levels : LineSet) : (s.writeLines lines levels).tb = s.tb := rfl
@[simp] theorem State.writeLines_params (s : State) (lines levels : LineSet) : (s.writeLines lines levels).params = s.params := rfl
@[simp] theorem State.writeLines_players (s : State) (lines levels : LineSet) : (s.writeLines lines levels).players = s.players := rfl
@[simp] theorem State.writeLines_inputs (s : State) (lines levels : LineSet) : (s.writeLines lines levels).inputs = s.inputs := rfl
@[simp] theorem State.writeLines_safe (s : State) (lines levels : LineSet) : (s.writeLines lines levels).safe = s.safe := rfl
@[simp] theorem State.writeLines_link (s : State) (lines levels : LineSet) : (s.writeLines lines levels).link = s.link := rfl
@[simp] theorem State.writeLines_notices (s : State) (lines levels : LineSet) : (s.writeLines lines levels).notices = s.notices := rfl
@[simp] theorem State.writeLines_image (s : State) (lines levels : LineSet) : (s.writeLines lines levels).image = s.image := rfl
@[simp] theorem State.writeLines_fresh (s : State) (lines levels : LineSet) : (s.writeLines lines levels).fresh = s.fresh := rfl
@[simp] theorem State.writeLines_pending (s : State) (lines levels : LineSet) : (s.writeLines lines levels).pending = s.pending := rfl
@[simp] theorem State.writeLines_player (s : State) (lines levels : LineSet) (p0 : PlayerId) : (s.writeLines lines levels).player p0 = s.player p0 := rfl
@[simp] theorem State.writeLines_list (s : State) (lines levels : LineSet) (l0 : ListId) : (s.writeLines lines levels).list l0 = s.list l0 := rfl
@[simp] theorem State.writeLines_input (s : State) (lines levels : LineSet) (n0 : InputId) : (s.writeLines lines levels).input n0 = s.input n0 := rfl
@[simp] theorem State.writeLines_owner (s : State) (lines levels : LineSet) (k0 : LineId) : (s.writeLines lines levels).owner k0 = s.owner k0 := rfl

/-! ### idleLines -/

@[simp] theorem State.idleLines_phase (s : State) (lines : LineSet) : (s.idleLines lines).phase = s.phase := rfl
@[simp] theorem State.idleLines_boot (s : State) (lines : LineSet) : (s.idleLines lines).boot = s.boot := rfl
@[simp] theorem State.idleLines_reloadPending (s : State) (lines : LineSet) : (s.idleLines lines).reloadPending = s.reloadPending := rfl
@[simp] theorem State.idleLines_store (s : State) (lines : LineSet) : (s.idleLines lines).store = s.store := rfl
@[simp] theorem State.idleLines_tb (s : State) (lines : LineSet) : (s.idleLines lines).tb = s.tb := rfl
@[simp] theorem State.idleLines_params (s : State) (lines : LineSet) : (s.idleLines lines).params = s.params := rfl
@[simp] theorem State.idleLines_players (s : State) (lines : LineSet) : (s.idleLines lines).players = s.players := rfl
@[simp] theorem State.idleLines_inputs (s : State) (lines : LineSet) : (s.idleLines lines).inputs = s.inputs := rfl
@[simp] theorem State.idleLines_safe (s : State) (lines : LineSet) : (s.idleLines lines).safe = s.safe := rfl
@[simp] theorem State.idleLines_link (s : State) (lines : LineSet) : (s.idleLines lines).link = s.link := rfl
@[simp] theorem State.idleLines_notices (s : State) (lines : LineSet) : (s.idleLines lines).notices = s.notices := rfl
@[simp] theorem State.idleLines_image (s : State) (lines : LineSet) : (s.idleLines lines).image = s.image := rfl
@[simp] theorem State.idleLines_fresh (s : State) (lines : LineSet) : (s.idleLines lines).fresh = s.fresh := rfl
@[simp] theorem State.idleLines_pending (s : State) (lines : LineSet) : (s.idleLines lines).pending = s.pending := rfl
@[simp] theorem State.idleLines_player (s : State) (lines : LineSet) (p0 : PlayerId) : (s.idleLines lines).player p0 = s.player p0 := rfl
@[simp] theorem State.idleLines_list (s : State) (lines : LineSet) (l0 : ListId) : (s.idleLines lines).list l0 = s.list l0 := rfl
@[simp] theorem State.idleLines_input (s : State) (lines : LineSet) (n0 : InputId) : (s.idleLines lines).input n0 = s.input n0 := rfl
@[simp] theorem State.idleLines_owner (s : State) (lines : LineSet) (k0 : LineId) : (s.idleLines lines).owner k0 = s.owner k0 := rfl

/-! ### claimLines -/

@[simp] theorem State.claimLines_phase (s : State) (p : PlayerId) (lines : LineSet) : (s.claimLines p lines).phase = s.phase := by unfold State.claimLines; rfl
@[simp] theorem State.claimLines_boot (s : State) (p : PlayerId) (lines : LineSet) : (s.claimLines p lines).boot = s.boot := by unfold State.claimLines; rfl
@[simp] theorem State.claimLines_reloadPending (s : State) (p : PlayerId) (lines : LineSet) : (s.claimLines p lines).reloadPending = s.reloadPending := by unfold State.claimLines; rfl
@[simp] theorem State.claimLines_store (s : State) (p : PlayerId) (lines : LineSet) : (s.claimLines p lines).store = s.store := by unfold State.claimLines; rfl
@[simp] theorem State.claimLines_tb (s : State) (p : PlayerId) (lines : LineSet) : (s.claimLines p lines).tb = s.tb := by unfold State.claimLines; rfl
@[simp] theorem State.claimLines_params (s : State) (p : PlayerId) (lines : LineSet) : (s.claimLines p lines).params = s.params := by unfold State.claimLines; rfl
@[simp] theorem State.claimLines_players (s : State) (p : PlayerId) (lines : LineSet) : (s.claimLines p lines).players = s.players := by unfold State.claimLines; rfl
@[simp] theorem State.claimLines_inputs (s : State) (p : PlayerId) (lines : LineSet) : (s.claimLines p lines).inputs = s.inputs := by unfold State.claimLines; rfl
@[simp] theorem State.claimLines_safe (s : State) (p : PlayerId) (lines : LineSet) : (s.claimLines p lines).safe = s.safe := by unfold State.claimLines; rfl
@[simp] theorem State.claimLines_link (s : State) (p : PlayerId) (lines : LineSet) : (s.claimLines p lines).link = s.link := by unfold State.claimLines; rfl
@[simp] theorem State.claimLines_notices (s : State) (p : PlayerId) (lines : LineSet) : (s.claimLines p lines).notices = s.notices := by unfold State.claimLines; rfl
@[simp] theorem State.claimLines_image (s : State) (p : PlayerId) (lines : LineSet) : (s.claimLines p lines).image = s.image := by unfold State.claimLines; rfl
@[simp] theorem State.claimLines_fresh (s : State) (p : PlayerId) (lines : LineSet) : (s.claimLines p lines).fresh = s.fresh := by unfold State.claimLines; rfl
@[simp] theorem State.claimLines_pending (s : State) (p : PlayerId) (lines : LineSet) : (s.claimLines p lines).pending = s.pending := by unfold State.claimLines; rfl
@[simp] theorem State.claimLines_player (s : State) (p : PlayerId) (lines : LineSet) (p0 : PlayerId) : (s.claimLines p lines).player p0 = s.player p0 := by unfold State.player State.claimLines; rfl
@[simp] theorem State.claimLines_list (s : State) (p : PlayerId) (lines : LineSet) (l0 : ListId) : (s.claimLines p lines).list l0 = s.list l0 := by unfold State.list State.claimLines; rfl
@[simp] theorem State.claimLines_input (s : State) (p : PlayerId) (lines : LineSet) (n0 : InputId) : (s.claimLines p lines).input n0 = s.input n0 := by unfold State.input State.claimLines; rfl

/-! ### releaseLines -/

@[simp] theorem State.releaseLines_phase (s : State) (p : PlayerId) : (s.releaseLines p).phase = s.phase := by unfold State.releaseLines; rfl
@[simp] theorem State.releaseLines_boot (s : State) (p : PlayerId) : (s.releaseLines p).boot = s.boot := by unfold State.releaseLines; rfl
@[simp] theorem State.releaseLines_reloadPending (s : State) (p : PlayerId) : (s.releaseLines p).reloadPending = s.reloadPending := by unfold State.releaseLines; rfl
@[simp] theorem State.releaseLines_store (s : State) (p : PlayerId) : (s.releaseLines p).store = s.store := by unfold State.releaseLines; rfl
@[simp] theorem State.releaseLines_tb (s : State) (p : PlayerId) : (s.releaseLines p).tb = s.tb := by unfold State.releaseLines; rfl
@[simp] theorem State.releaseLines_params (s : State) (p : PlayerId) : (s.releaseLines p).params = s.params := by unfold State.releaseLines; rfl
@[simp] theorem State.releaseLines_players (s : State) (p : PlayerId) : (s.releaseLines p).players = s.players := by unfold State.releaseLines; rfl
@[simp] theorem State.releaseLines_inputs (s : State) (p : PlayerId) : (s.releaseLines p).inputs = s.inputs := by unfold State.releaseLines; rfl
@[simp] theorem State.releaseLines_safe (s : State) (p : PlayerId) : (s.releaseLines p).safe = s.safe := by unfold State.releaseLines; rfl
@[simp] theorem State.releaseLines_link (s : State) (p : PlayerId) : (s.releaseLines p).link = s.link := by unfold State.releaseLines; rfl
@[simp] theorem State.releaseLines_notices (s : State) (p : PlayerId) : (s.releaseLines p).notices = s.notices := by unfold State.releaseLines; rfl
@[simp] theorem State.releaseLines_image (s : State) (p : PlayerId) : (s.releaseLines p).image = s.image := by unfold State.releaseLines; rfl
@[simp] theorem State.releaseLines_fresh (s : State) (p : PlayerId) : (s.releaseLines p).fresh = s.fresh := by unfold State.releaseLines; rfl
@[simp] theorem State.releaseLines_pending (s : State) (p : PlayerId) : (s.releaseLines p).pending = s.pending := by unfold State.releaseLines; rfl
@[simp] theorem State.releaseLines_player (s : State) (p : PlayerId) (p0 : PlayerId) : (s.releaseLines p).player p0 = s.player p0 := by unfold State.player State.releaseLines; rfl
@[simp] theorem State.releaseLines_list (s : State) (p : PlayerId) (l0 : ListId) : (s.releaseLines p).list l0 = s.list l0 := by unfold State.list State.releaseLines; rfl
@[simp] theorem State.releaseLines_input (s : State) (p : PlayerId) (n0 : InputId) : (s.releaseLines p).input n0 = s.input n0 := by unfold State.input State.releaseLines; rfl

/-! ### clearLatch -/

@[simp] theorem State.clearLatch_phase (s : State) (n : InputId) : (s.clearLatch n).phase = s.phase := rfl
@[simp] theorem State.clearLatch_boot (s : State) (n : InputId) : (s.clearLatch n).boot = s.boot := rfl
@[simp] theorem State.clearLatch_reloadPending (s : State) (n : InputId) : (s.clearLatch n).reloadPending = s.reloadPending := rfl
@[simp] theorem State.clearLatch_store (s : State) (n : InputId) : (s.clearLatch n).store = s.store := rfl
@[simp] theorem State.clearLatch_tb (s : State) (n : InputId) : (s.clearLatch n).tb = s.tb := rfl
@[simp] theorem State.clearLatch_params (s : State) (n : InputId) : (s.clearLatch n).params = s.params := rfl
@[simp] theorem State.clearLatch_players (s : State) (n : InputId) : (s.clearLatch n).players = s.players := rfl
@[simp] theorem State.clearLatch_lines (s : State) (n : InputId) : (s.clearLatch n).lines = s.lines := rfl
@[simp] theorem State.clearLatch_safe (s : State) (n : InputId) : (s.clearLatch n).safe = s.safe := rfl
@[simp] theorem State.clearLatch_link (s : State) (n : InputId) : (s.clearLatch n).link = s.link := rfl
@[simp] theorem State.clearLatch_notices (s : State) (n : InputId) : (s.clearLatch n).notices = s.notices := rfl
@[simp] theorem State.clearLatch_image (s : State) (n : InputId) : (s.clearLatch n).image = s.image := rfl
@[simp] theorem State.clearLatch_fresh (s : State) (n : InputId) : (s.clearLatch n).fresh = s.fresh := rfl
@[simp] theorem State.clearLatch_pending (s : State) (n : InputId) : (s.clearLatch n).pending = s.pending := rfl
@[simp] theorem State.clearLatch_player (s : State) (n : InputId) (p0 : PlayerId) : (s.clearLatch n).player p0 = s.player p0 := rfl
@[simp] theorem State.clearLatch_list (s : State) (n : InputId) (l0 : ListId) : (s.clearLatch n).list l0 = s.list l0 := rfl
@[simp] theorem State.clearLatch_owner (s : State) (n : InputId) (k0 : LineId) : (s.clearLatch n).owner k0 = s.owner k0 := rfl

/-! ### lowerSyncOut -/

@[simp] theorem State.lowerSyncOut_phase (s : State) : (s.lowerSyncOut).phase = s.phase := rfl
@[simp] theorem State.lowerSyncOut_boot (s : State) : (s.lowerSyncOut).boot = s.boot := rfl
@[simp] theorem State.lowerSyncOut_reloadPending (s : State) : (s.lowerSyncOut).reloadPending = s.reloadPending := rfl
@[simp] theorem State.lowerSyncOut_store (s : State) : (s.lowerSyncOut).store = s.store := rfl
@[simp] theorem State.lowerSyncOut_tb (s : State) : (s.lowerSyncOut).tb = { s.tb with syncOut := false, syncHold := false } := rfl
@[simp] theorem State.lowerSyncOut_params (s : State) : (s.lowerSyncOut).params = s.params := rfl
@[simp] theorem State.lowerSyncOut_players (s : State) : (s.lowerSyncOut).players = s.players := rfl
@[simp] theorem State.lowerSyncOut_lines (s : State) : (s.lowerSyncOut).lines = s.lines := rfl
@[simp] theorem State.lowerSyncOut_inputs (s : State) : (s.lowerSyncOut).inputs = s.inputs := rfl
@[simp] theorem State.lowerSyncOut_safe (s : State) : (s.lowerSyncOut).safe = s.safe := rfl
@[simp] theorem State.lowerSyncOut_link (s : State) : (s.lowerSyncOut).link = s.link := rfl
@[simp] theorem State.lowerSyncOut_notices (s : State) : (s.lowerSyncOut).notices = s.notices := rfl
@[simp] theorem State.lowerSyncOut_image (s : State) : (s.lowerSyncOut).image = s.image := rfl
@[simp] theorem State.lowerSyncOut_fresh (s : State) : (s.lowerSyncOut).fresh = s.fresh := rfl
@[simp] theorem State.lowerSyncOut_pending (s : State) : (s.lowerSyncOut).pending = s.pending := rfl
@[simp] theorem State.lowerSyncOut_player (s : State)  (p0 : PlayerId) : (s.lowerSyncOut).player p0 = s.player p0 := rfl
@[simp] theorem State.lowerSyncOut_list (s : State)  (l0 : ListId) : (s.lowerSyncOut).list l0 = s.list l0 := rfl
@[simp] theorem State.lowerSyncOut_input (s : State)  (n0 : InputId) : (s.lowerSyncOut).input n0 = s.input n0 := rfl
@[simp] theorem State.lowerSyncOut_owner (s : State)  (k0 : LineId) : (s.lowerSyncOut).owner k0 = s.owner k0 := rfl

/-! ### raiseSyncOut -/

@[simp] theorem State.raiseSyncOut_phase (s : State) : (s.raiseSyncOut).phase = s.phase := rfl
@[simp] theorem State.raiseSyncOut_boot (s : State) : (s.raiseSyncOut).boot = s.boot := rfl
@[simp] theorem State.raiseSyncOut_reloadPending (s : State) : (s.raiseSyncOut).reloadPending = s.reloadPending := rfl
@[simp] theorem State.raiseSyncOut_store (s : State) : (s.raiseSyncOut).store = s.store := rfl
@[simp] theorem State.raiseSyncOut_tb (s : State) : (s.raiseSyncOut).tb = { s.tb with syncOut := true, syncHold := !s.ticking } := rfl
@[simp] theorem State.raiseSyncOut_params (s : State) : (s.raiseSyncOut).params = s.params := rfl
@[simp] theorem State.raiseSyncOut_players (s : State) : (s.raiseSyncOut).players = s.players := rfl
@[simp] theorem State.raiseSyncOut_lines (s : State) : (s.raiseSyncOut).lines = s.lines := rfl
@[simp] theorem State.raiseSyncOut_inputs (s : State) : (s.raiseSyncOut).inputs = s.inputs := rfl
@[simp] theorem State.raiseSyncOut_safe (s : State) : (s.raiseSyncOut).safe = s.safe := rfl
@[simp] theorem State.raiseSyncOut_link (s : State) : (s.raiseSyncOut).link = s.link := rfl
@[simp] theorem State.raiseSyncOut_notices (s : State) : (s.raiseSyncOut).notices = s.notices := rfl
@[simp] theorem State.raiseSyncOut_image (s : State) : (s.raiseSyncOut).image = s.image := rfl
@[simp] theorem State.raiseSyncOut_fresh (s : State) : (s.raiseSyncOut).fresh = s.fresh := rfl
@[simp] theorem State.raiseSyncOut_pending (s : State) : (s.raiseSyncOut).pending = s.pending := rfl
@[simp] theorem State.raiseSyncOut_player (s : State)  (p0 : PlayerId) : (s.raiseSyncOut).player p0 = s.player p0 := rfl
@[simp] theorem State.raiseSyncOut_list (s : State)  (l0 : ListId) : (s.raiseSyncOut).list l0 = s.list l0 := rfl
@[simp] theorem State.raiseSyncOut_input (s : State)  (n0 : InputId) : (s.raiseSyncOut).input n0 = s.input n0 := rfl
@[simp] theorem State.raiseSyncOut_owner (s : State)  (k0 : LineId) : (s.raiseSyncOut).owner k0 = s.owner k0 := rfl

/-! ### clearDivider -/

@[simp] theorem State.clearDivider_phase (s : State) : (s.clearDivider).phase = s.phase := rfl
@[simp] theorem State.clearDivider_boot (s : State) : (s.clearDivider).boot = s.boot := rfl
@[simp] theorem State.clearDivider_reloadPending (s : State) : (s.clearDivider).reloadPending = s.reloadPending := rfl
@[simp] theorem State.clearDivider_store (s : State) : (s.clearDivider).store = s.store := rfl
@[simp] theorem State.clearDivider_tb (s : State) : (s.clearDivider).tb = { s.tb with divider := 0 } := rfl
@[simp] theorem State.clearDivider_params (s : State) : (s.clearDivider).params = s.params := rfl
@[simp] theorem State.clearDivider_players (s : State) : (s.clearDivider).players = s.players := rfl
@[simp] theorem State.clearDivider_lines (s : State) : (s.clearDivider).lines = s.lines := rfl
@[simp] theorem State.clearDivider_inputs (s : State) : (s.clearDivider).inputs = s.inputs := rfl
@[simp] theorem State.clearDivider_safe (s : State) : (s.clearDivider).safe = s.safe := rfl
@[simp] theorem State.clearDivider_link (s : State) : (s.clearDivider).link = s.link := rfl
@[simp] theorem State.clearDivider_notices (s : State) : (s.clearDivider).notices = s.notices := rfl
@[simp] theorem State.clearDivider_image (s : State) : (s.clearDivider).image = s.image := rfl
@[simp] theorem State.clearDivider_fresh (s : State) : (s.clearDivider).fresh = s.fresh := rfl
@[simp] theorem State.clearDivider_pending (s : State) : (s.clearDivider).pending = s.pending := rfl
@[simp] theorem State.clearDivider_player (s : State)  (p0 : PlayerId) : (s.clearDivider).player p0 = s.player p0 := rfl
@[simp] theorem State.clearDivider_list (s : State)  (l0 : ListId) : (s.clearDivider).list l0 = s.list l0 := rfl
@[simp] theorem State.clearDivider_input (s : State)  (n0 : InputId) : (s.clearDivider).input n0 = s.input n0 := rfl
@[simp] theorem State.clearDivider_owner (s : State)  (k0 : LineId) : (s.clearDivider).owner k0 = s.owner k0 := rfl

/-! ### taking -/

@[simp] theorem State.taking_phase (s : State) (rest : List Frame) : (s.taking rest).phase = s.phase := rfl
@[simp] theorem State.taking_boot (s : State) (rest : List Frame) : (s.taking rest).boot = s.boot := rfl
@[simp] theorem State.taking_reloadPending (s : State) (rest : List Frame) : (s.taking rest).reloadPending = s.reloadPending := rfl
@[simp] theorem State.taking_store (s : State) (rest : List Frame) : (s.taking rest).store = s.store := rfl
@[simp] theorem State.taking_tb (s : State) (rest : List Frame) : (s.taking rest).tb = s.tb := rfl
@[simp] theorem State.taking_params (s : State) (rest : List Frame) : (s.taking rest).params = s.params := rfl
@[simp] theorem State.taking_players (s : State) (rest : List Frame) : (s.taking rest).players = s.players := rfl
@[simp] theorem State.taking_lines (s : State) (rest : List Frame) : (s.taking rest).lines = s.lines := rfl
@[simp] theorem State.taking_inputs (s : State) (rest : List Frame) : (s.taking rest).inputs = s.inputs := rfl
@[simp] theorem State.taking_safe (s : State) (rest : List Frame) : (s.taking rest).safe = s.safe := rfl
@[simp] theorem State.taking_link (s : State) (rest : List Frame) : (s.taking rest).link = { s.link with inbox := rest } := rfl
@[simp] theorem State.taking_notices (s : State) (rest : List Frame) : (s.taking rest).notices = s.notices := rfl
@[simp] theorem State.taking_image (s : State) (rest : List Frame) : (s.taking rest).image = s.image := rfl
@[simp] theorem State.taking_fresh (s : State) (rest : List Frame) : (s.taking rest).fresh = s.fresh := rfl
@[simp] theorem State.taking_pending (s : State) (rest : List Frame) : (s.taking rest).pending = s.pending := rfl
@[simp] theorem State.taking_player (s : State) (rest : List Frame) (p0 : PlayerId) : (s.taking rest).player p0 = s.player p0 := rfl
@[simp] theorem State.taking_list (s : State) (rest : List Frame) (l0 : ListId) : (s.taking rest).list l0 = s.list l0 := rfl
@[simp] theorem State.taking_input (s : State) (rest : List Frame) (n0 : InputId) : (s.taking rest).input n0 = s.input n0 := rfl
@[simp] theorem State.taking_owner (s : State) (rest : List Frame) (k0 : LineId) : (s.taking rest).owner k0 = s.owner k0 := rfl

/-! ### queueReply -/

@[simp] theorem State.queueReply_phase (s : State) (q : Frame) (r : Reply) : (s.queueReply q r).phase = s.phase := rfl
@[simp] theorem State.queueReply_boot (s : State) (q : Frame) (r : Reply) : (s.queueReply q r).boot = s.boot := rfl
@[simp] theorem State.queueReply_reloadPending (s : State) (q : Frame) (r : Reply) : (s.queueReply q r).reloadPending = s.reloadPending := rfl
@[simp] theorem State.queueReply_store (s : State) (q : Frame) (r : Reply) : (s.queueReply q r).store = s.store := rfl
@[simp] theorem State.queueReply_tb (s : State) (q : Frame) (r : Reply) : (s.queueReply q r).tb = s.tb := rfl
@[simp] theorem State.queueReply_params (s : State) (q : Frame) (r : Reply) : (s.queueReply q r).params = s.params := rfl
@[simp] theorem State.queueReply_players (s : State) (q : Frame) (r : Reply) : (s.queueReply q r).players = s.players := rfl
@[simp] theorem State.queueReply_lines (s : State) (q : Frame) (r : Reply) : (s.queueReply q r).lines = s.lines := rfl
@[simp] theorem State.queueReply_inputs (s : State) (q : Frame) (r : Reply) : (s.queueReply q r).inputs = s.inputs := rfl
@[simp] theorem State.queueReply_safe (s : State) (q : Frame) (r : Reply) : (s.queueReply q r).safe = s.safe := rfl
@[simp] theorem State.queueReply_notices (s : State) (q : Frame) (r : Reply) : (s.queueReply q r).notices = s.notices := rfl
@[simp] theorem State.queueReply_image (s : State) (q : Frame) (r : Reply) : (s.queueReply q r).image = s.image := rfl
@[simp] theorem State.queueReply_fresh (s : State) (q : Frame) (r : Reply) : (s.queueReply q r).fresh = s.fresh := rfl
@[simp] theorem State.queueReply_pending (s : State) (q : Frame) (r : Reply) : (s.queueReply q r).pending = s.pending := rfl
@[simp] theorem State.queueReply_player (s : State) (q : Frame) (r : Reply) (p0 : PlayerId) : (s.queueReply q r).player p0 = s.player p0 := rfl
@[simp] theorem State.queueReply_list (s : State) (q : Frame) (r : Reply) (l0 : ListId) : (s.queueReply q r).list l0 = s.list l0 := rfl
@[simp] theorem State.queueReply_input (s : State) (q : Frame) (r : Reply) (n0 : InputId) : (s.queueReply q r).input n0 = s.input n0 := rfl
@[simp] theorem State.queueReply_owner (s : State) (q : Frame) (r : Reply) (k0 : LineId) : (s.queueReply q r).owner k0 = s.owner k0 := rfl

/-! ### setRx -/

@[simp] theorem State.setRx_phase (s : State) (rx : Receiver) (timer : Option Nat) : (s.setRx rx timer).phase = s.phase := rfl
@[simp] theorem State.setRx_boot (s : State) (rx : Receiver) (timer : Option Nat) : (s.setRx rx timer).boot = s.boot := rfl
@[simp] theorem State.setRx_reloadPending (s : State) (rx : Receiver) (timer : Option Nat) : (s.setRx rx timer).reloadPending = s.reloadPending := rfl
@[simp] theorem State.setRx_store (s : State) (rx : Receiver) (timer : Option Nat) : (s.setRx rx timer).store = s.store := rfl
@[simp] theorem State.setRx_tb (s : State) (rx : Receiver) (timer : Option Nat) : (s.setRx rx timer).tb = s.tb := rfl
@[simp] theorem State.setRx_params (s : State) (rx : Receiver) (timer : Option Nat) : (s.setRx rx timer).params = s.params := rfl
@[simp] theorem State.setRx_players (s : State) (rx : Receiver) (timer : Option Nat) : (s.setRx rx timer).players = s.players := rfl
@[simp] theorem State.setRx_lines (s : State) (rx : Receiver) (timer : Option Nat) : (s.setRx rx timer).lines = s.lines := rfl
@[simp] theorem State.setRx_inputs (s : State) (rx : Receiver) (timer : Option Nat) : (s.setRx rx timer).inputs = s.inputs := rfl
@[simp] theorem State.setRx_safe (s : State) (rx : Receiver) (timer : Option Nat) : (s.setRx rx timer).safe = s.safe := rfl
@[simp] theorem State.setRx_link (s : State) (rx : Receiver) (timer : Option Nat) : (s.setRx rx timer).link = { s.link with rx := rx, timer := timer } := rfl
@[simp] theorem State.setRx_notices (s : State) (rx : Receiver) (timer : Option Nat) : (s.setRx rx timer).notices = s.notices := rfl
@[simp] theorem State.setRx_image (s : State) (rx : Receiver) (timer : Option Nat) : (s.setRx rx timer).image = s.image := rfl
@[simp] theorem State.setRx_fresh (s : State) (rx : Receiver) (timer : Option Nat) : (s.setRx rx timer).fresh = s.fresh := rfl
@[simp] theorem State.setRx_pending (s : State) (rx : Receiver) (timer : Option Nat) : (s.setRx rx timer).pending = s.pending := rfl
@[simp] theorem State.setRx_player (s : State) (rx : Receiver) (timer : Option Nat) (p0 : PlayerId) : (s.setRx rx timer).player p0 = s.player p0 := rfl
@[simp] theorem State.setRx_list (s : State) (rx : Receiver) (timer : Option Nat) (l0 : ListId) : (s.setRx rx timer).list l0 = s.list l0 := rfl
@[simp] theorem State.setRx_input (s : State) (rx : Receiver) (timer : Option Nat) (n0 : InputId) : (s.setRx rx timer).input n0 = s.input n0 := rfl
@[simp] theorem State.setRx_owner (s : State) (rx : Receiver) (timer : Option Nat) (k0 : LineId) : (s.setRx rx timer).owner k0 = s.owner k0 := rfl

/-! ### setEntry -/

@[simp] theorem State.setEntry_phase (s : State) (p : PlayerId) (e : Option AutoEntry) : (s.setEntry p e).phase = s.phase := rfl
@[simp] theorem State.setEntry_boot (s : State) (p : PlayerId) (e : Option AutoEntry) : (s.setEntry p e).boot = s.boot := rfl
@[simp] theorem State.setEntry_reloadPending (s : State) (p : PlayerId) (e : Option AutoEntry) : (s.setEntry p e).reloadPending = s.reloadPending := rfl
@[simp] theorem State.setEntry_store (s : State) (p : PlayerId) (e : Option AutoEntry) : (s.setEntry p e).store = s.store := rfl
@[simp] theorem State.setEntry_tb (s : State) (p : PlayerId) (e : Option AutoEntry) : (s.setEntry p e).tb = s.tb := rfl
@[simp] theorem State.setEntry_params (s : State) (p : PlayerId) (e : Option AutoEntry) : (s.setEntry p e).params = s.params := rfl
@[simp] theorem State.setEntry_players (s : State) (p : PlayerId) (e : Option AutoEntry) : (s.setEntry p e).players = s.players := rfl
@[simp] theorem State.setEntry_lines (s : State) (p : PlayerId) (e : Option AutoEntry) : (s.setEntry p e).lines = s.lines := rfl
@[simp] theorem State.setEntry_inputs (s : State) (p : PlayerId) (e : Option AutoEntry) : (s.setEntry p e).inputs = s.inputs := rfl
@[simp] theorem State.setEntry_safe (s : State) (p : PlayerId) (e : Option AutoEntry) : (s.setEntry p e).safe = s.safe := rfl
@[simp] theorem State.setEntry_link (s : State) (p : PlayerId) (e : Option AutoEntry) : (s.setEntry p e).link = s.link := rfl
@[simp] theorem State.setEntry_notices (s : State) (p : PlayerId) (e : Option AutoEntry) : (s.setEntry p e).notices = s.notices := rfl
@[simp] theorem State.setEntry_fresh (s : State) (p : PlayerId) (e : Option AutoEntry) : (s.setEntry p e).fresh = s.fresh := rfl
@[simp] theorem State.setEntry_pending (s : State) (p : PlayerId) (e : Option AutoEntry) : (s.setEntry p e).pending = s.pending := rfl
@[simp] theorem State.setEntry_player (s : State) (p : PlayerId) (e : Option AutoEntry) (p0 : PlayerId) : (s.setEntry p e).player p0 = s.player p0 := rfl
@[simp] theorem State.setEntry_list (s : State) (p : PlayerId) (e : Option AutoEntry) (l0 : ListId) : (s.setEntry p e).list l0 = s.list l0 := rfl
@[simp] theorem State.setEntry_input (s : State) (p : PlayerId) (e : Option AutoEntry) (n0 : InputId) : (s.setEntry p e).input n0 = s.input n0 := rfl
@[simp] theorem State.setEntry_owner (s : State) (p : PlayerId) (e : Option AutoEntry) (k0 : LineId) : (s.setEntry p e).owner k0 = s.owner k0 := rfl

/-! ### setAutoTimebase -/

@[simp] theorem State.setAutoTimebase_phase (s : State) (on : Bool) : (s.setAutoTimebase on).phase = s.phase := rfl
@[simp] theorem State.setAutoTimebase_boot (s : State) (on : Bool) : (s.setAutoTimebase on).boot = s.boot := rfl
@[simp] theorem State.setAutoTimebase_reloadPending (s : State) (on : Bool) : (s.setAutoTimebase on).reloadPending = s.reloadPending := rfl
@[simp] theorem State.setAutoTimebase_store (s : State) (on : Bool) : (s.setAutoTimebase on).store = s.store := rfl
@[simp] theorem State.setAutoTimebase_tb (s : State) (on : Bool) : (s.setAutoTimebase on).tb = s.tb := rfl
@[simp] theorem State.setAutoTimebase_params (s : State) (on : Bool) : (s.setAutoTimebase on).params = s.params := rfl
@[simp] theorem State.setAutoTimebase_players (s : State) (on : Bool) : (s.setAutoTimebase on).players = s.players := rfl
@[simp] theorem State.setAutoTimebase_lines (s : State) (on : Bool) : (s.setAutoTimebase on).lines = s.lines := rfl
@[simp] theorem State.setAutoTimebase_inputs (s : State) (on : Bool) : (s.setAutoTimebase on).inputs = s.inputs := rfl
@[simp] theorem State.setAutoTimebase_safe (s : State) (on : Bool) : (s.setAutoTimebase on).safe = s.safe := rfl
@[simp] theorem State.setAutoTimebase_link (s : State) (on : Bool) : (s.setAutoTimebase on).link = s.link := rfl
@[simp] theorem State.setAutoTimebase_notices (s : State) (on : Bool) : (s.setAutoTimebase on).notices = s.notices := rfl
@[simp] theorem State.setAutoTimebase_fresh (s : State) (on : Bool) : (s.setAutoTimebase on).fresh = s.fresh := rfl
@[simp] theorem State.setAutoTimebase_pending (s : State) (on : Bool) : (s.setAutoTimebase on).pending = s.pending := rfl
@[simp] theorem State.setAutoTimebase_player (s : State) (on : Bool) (p0 : PlayerId) : (s.setAutoTimebase on).player p0 = s.player p0 := rfl
@[simp] theorem State.setAutoTimebase_list (s : State) (on : Bool) (l0 : ListId) : (s.setAutoTimebase on).list l0 = s.list l0 := rfl
@[simp] theorem State.setAutoTimebase_input (s : State) (on : Bool) (n0 : InputId) : (s.setAutoTimebase on).input n0 = s.input n0 := rfl
@[simp] theorem State.setAutoTimebase_owner (s : State) (on : Bool) (k0 : LineId) : (s.setAutoTimebase on).owner k0 = s.owner k0 := rfl

/-! ### Reading what was written -/

@[simp] theorem State.setPlayer_player_same (s : State) (p : PlayerId) (r : Player) : (s.setPlayer p r).player p = r := by
  simp [State.player, State.setPlayer]

theorem State.setPlayer_player_ne (s : State) {p p' : PlayerId} (r : Player) (h : p' ≠ p) :
    (s.setPlayer p r).player p' = s.player p' := by
  have : p.val ≠ p'.val := fun e => h (Fin.ext e.symm)
  simp [State.player, State.setPlayer, Vector.getElem_set_ne, this]

/-- The record of any player after one has been written. -/
theorem State.setPlayer_player (s : State) (p p' : PlayerId) (r : Player) :
    (s.setPlayer p r).player p' = if p' = p then r else s.player p' := by
  by_cases h : p' = p
  · subst h; simp
  · simp [h, s.setPlayer_player_ne r h]

@[simp] theorem State.setPlayer_setPlayer (s : State) (p : PlayerId) (r r' : Player) :
    (s.setPlayer p r).setPlayer p r' = s.setPlayer p r' := by
  simp [State.setPlayer]

@[simp] theorem State.setList_list_same (s : State) (l : ListId) (r : ListRec) : (s.setList l r).list l = r := by
  simp [State.list, State.setList]

theorem State.setList_list_ne (s : State) {l l' : ListId} (r : ListRec) (h : l' ≠ l) :
    (s.setList l r).list l' = s.list l' := by
  have : l.val ≠ l'.val := fun e => h (Fin.ext e.symm)
  simp [State.list, State.setList, Vector.getElem_set_ne, this]

/-- Any list after one has been written. -/
theorem State.setList_list (s : State) (l l' : ListId) (r : ListRec) :
    (s.setList l r).list l' = if l' = l then r else s.list l' := by
  by_cases h : l' = l
  · subst h; simp
  · simp [h, s.setList_list_ne r h]

@[simp] theorem State.setInput_input_same (s : State) (n : InputId) (r : Input) : (s.setInput n r).input n = r := by
  simp [State.input, State.setInput]

theorem State.setInput_input_ne (s : State) {n n' : InputId} (r : Input) (h : n' ≠ n) :
    (s.setInput n r).input n' = s.input n' := by
  have : n.val ≠ n'.val := fun e => h (Fin.ext e.symm)
  simp [State.input, State.setInput, Vector.getElem_set_ne, this]

@[simp] theorem State.setInput_setInput (s : State) (n : InputId) (r r' : Input) :
    (s.setInput n r).setInput n r' = s.setInput n r' := by
  simp [State.setInput]

/-- Writing a player's own record changes nothing. -/
@[simp] theorem State.setPlayer_self (s : State) (p : PlayerId) : s.setPlayer p (s.player p) = s := by
  simp [State.player, State.setPlayer]

/-- The owner of a line after a claim (R107). -/
theorem State.claimLines_owner (s : State) (p : PlayerId) (lines : LineSet) (k : LineId) :
    (s.claimLines p lines).owner k = if lines.getLsbD k.val then some p else s.owner k := by
  simp [State.owner, State.claimLines]

/-- The owner of a line after a release (R108). -/
theorem State.releaseLines_owner (s : State) (p : PlayerId) (k : LineId) :
    (s.releaseLines p).owner k = if s.owner k = some p then none else s.owner k := by
  simp only [State.owner, State.releaseLines, Vector.getElem_ofFn]
  congr

/-- The logical level of a line after a write (R106). -/
theorem State.writeLines_level (s : State) (lines levels : LineSet) (k : LineId) :
    (s.writeLines lines levels).lines.logical.getLsbD k.val =
      if lines.getLsbD k.val then levels.getLsbD k.val else s.lines.logical.getLsbD k.val := by
  have hk := k.isLt
  cases h : lines.getLsbD k.val <;>
    (rw [BitVec.getLsbD_eq_getElem hk] at h; simp [State.writeLines, h])

@[simp] theorem State.claimLines_logical (s : State) (p : PlayerId) (lines : LineSet) :
    (s.claimLines p lines).lines.logical = s.lines.logical := by unfold State.claimLines; rfl

@[simp] theorem State.releaseLines_logical (s : State) (p : PlayerId) :
    (s.releaseLines p).lines.logical = s.lines.logical := by unfold State.releaseLines; rfl

end Sys2Proof.Machine
end

