-- ==== Sys2Proof/Laws/Ops.lean ====
section
/-! SUPPORT. What each shared operation can do, said once: the transmitter, notices, takes, the reach of a safe entry, and the end of
an event. A proof cites these and does not unfold the operations. -/

namespace Sys2Proof.Machine

/-! ### The transmitter (R149) changes the link and the notices alone -/

theorem State.transmit_frame (s : State) :
    s.transmit = { s with link := s.transmit.link, notices := s.transmit.notices } := by
  unfold State.transmit; split
  · split
    · rfl
    · split
      · rfl
      · split <;> rfl
  · rfl

@[simp] theorem State.transmit_phase (s : State) : s.transmit.phase = s.phase := by rw [s.transmit_frame]
@[simp] theorem State.transmit_boot (s : State) : s.transmit.boot = s.boot := by rw [s.transmit_frame]
@[simp] theorem State.transmit_reloadPending (s : State) : s.transmit.reloadPending = s.reloadPending := by
  rw [s.transmit_frame]
@[simp] theorem State.transmit_store (s : State) : s.transmit.store = s.store := by rw [s.transmit_frame]
@[simp] theorem State.transmit_tb (s : State) : s.transmit.tb = s.tb := by rw [s.transmit_frame]
@[simp] theorem State.transmit_params (s : State) : s.transmit.params = s.params := by rw [s.transmit_frame]
@[simp] theorem State.transmit_players (s : State) : s.transmit.players = s.players := by rw [s.transmit_frame]
@[simp] theorem State.transmit_lines (s : State) : s.transmit.lines = s.lines := by rw [s.transmit_frame]
@[simp] theorem State.transmit_inputs (s : State) : s.transmit.inputs = s.inputs := by rw [s.transmit_frame]
@[simp] theorem State.transmit_safe (s : State) : s.transmit.safe = s.safe := by rw [s.transmit_frame]
@[simp] theorem State.transmit_image (s : State) : s.transmit.image = s.image := by rw [s.transmit_frame]
@[simp] theorem State.transmit_fresh (s : State) : s.transmit.fresh = s.fresh := by rw [s.transmit_frame]
@[simp] theorem State.transmit_pending (s : State) : s.transmit.pending = s.pending := by rw [s.transmit_frame]
@[simp] theorem State.transmit_player (s : State) (p : PlayerId) : s.transmit.player p = s.player p := by
  simp [State.player]
@[simp] theorem State.transmit_list (s : State) (l : ListId) : s.transmit.list l = s.list l := by simp [State.list]
@[simp] theorem State.transmit_input (s : State) (n : InputId) : s.transmit.input n = s.input n := by simp [State.input]
@[simp] theorem State.transmit_owner (s : State) (k : LineId) : s.transmit.owner k = s.owner k := by simp [State.owner]

/-- The transmitter touches its own frame and the reject alone, and never the inbox, the filled replies or the cache (R149). -/
theorem State.transmit_link (s : State) :
    s.transmit.link = { s.link with reject := s.transmit.link.reject, tx := s.transmit.link.tx } := by
  unfold State.transmit; split
  · split
    · rfl
    · split
      · rfl
      · split <;> rfl
  · rfl

@[simp] theorem State.transmit_replies (s : State) : s.transmit.link.replies = s.link.replies := by rw [s.transmit_link]
@[simp] theorem State.transmit_inbox (s : State) : s.transmit.link.inbox = s.link.inbox := by rw [s.transmit_link]
@[simp] theorem State.transmit_cache (s : State) : s.transmit.link.cache = s.link.cache := by rw [s.transmit_link]
@[simp] theorem State.transmit_rate (s : State) : s.transmit.link.rate = s.link.rate := by rw [s.transmit_link]
@[simp] theorem State.transmit_rx (s : State) : s.transmit.link.rx = s.link.rx := by rw [s.transmit_link]
@[simp] theorem State.transmit_timer (s : State) : s.transmit.link.timer = s.link.timer := by rw [s.transmit_link]

@[simp] theorem State.transmit_muted (s : State) : s.transmit.notices.muted = s.notices.muted := by
  unfold State.transmit; split
  · split
    · rfl
    · split
      · rfl
      · split <;> rfl
  · rfl

/-- At most the front record leaves the Notice Queue (R170). -/
theorem State.transmit_queue (s : State) :
    s.transmit.notices.queue = s.notices.queue ∨ s.transmit.notices.queue = s.notices.queue.tail := by
  unfold State.transmit; split
  · split
    · simp
    · split
      · simp
      · split
        · rename_i h; simp [h]
        · simp
  · simp

/-! ### A notice (R166 to R169) changes the Notice Queue alone -/

theorem State.produce_frame (s : State) (body : NoticeBody) :
    s.produce body = { s with notices := (s.produce body).notices } := by
  unfold State.produce; split
  · split
    · rfl
    · split <;> rfl
  · rfl

@[simp] theorem State.produce_phase (s : State) (body : NoticeBody) : (s.produce body).phase = s.phase := by
  rw [s.produce_frame]
@[simp] theorem State.produce_boot (s : State) (body : NoticeBody) : (s.produce body).boot = s.boot := by
  rw [s.produce_frame]
@[simp] theorem State.produce_reloadPending (s : State) (body : NoticeBody) :
    (s.produce body).reloadPending = s.reloadPending := by rw [s.produce_frame]
@[simp] theorem State.produce_store (s : State) (body : NoticeBody) : (s.produce body).store = s.store := by
  rw [s.produce_frame]
@[simp] theorem State.produce_tb (s : State) (body : NoticeBody) : (s.produce body).tb = s.tb := by rw [s.produce_frame]
@[simp] theorem State.produce_params (s : State) (body : NoticeBody) : (s.produce body).params = s.params := by
  rw [s.produce_frame]
@[simp] theorem State.produce_players (s : State) (body : NoticeBody) : (s.produce body).players = s.players := by
  rw [s.produce_frame]
@[simp] theorem State.produce_lines (s : State) (body : NoticeBody) : (s.produce body).lines = s.lines := by
  rw [s.produce_frame]
@[simp] theorem State.produce_inputs (s : State) (body : NoticeBody) : (s.produce body).inputs = s.inputs := by
  rw [s.produce_frame]
@[simp] theorem State.produce_safe (s : State) (body : NoticeBody) : (s.produce body).safe = s.safe := by
  rw [s.produce_frame]
@[simp] theorem State.produce_link (s : State) (body : NoticeBody) : (s.produce body).link = s.link := by
  rw [s.produce_frame]
@[simp] theorem State.produce_image (s : State) (body : NoticeBody) : (s.produce body).image = s.image := by
  rw [s.produce_frame]
@[simp] theorem State.produce_fresh (s : State) (body : NoticeBody) : (s.produce body).fresh = s.fresh := by
  rw [s.produce_frame]
@[simp] theorem State.produce_pending (s : State) (body : NoticeBody) : (s.produce body).pending = s.pending := by
  rw [s.produce_frame]
@[simp] theorem State.produce_player (s : State) (body : NoticeBody) (p : PlayerId) :
    (s.produce body).player p = s.player p := by simp [State.player]
@[simp] theorem State.produce_list (s : State) (body : NoticeBody) (l : ListId) : (s.produce body).list l = s.list l := by
  simp [State.list]
@[simp] theorem State.produce_input (s : State) (body : NoticeBody) (n : InputId) :
    (s.produce body).input n = s.input n := by simp [State.input]
@[simp] theorem State.produce_owner (s : State) (body : NoticeBody) (k : LineId) :
    (s.produce body).owner k = s.owner k := by simp [State.owner]

theorem mergeNewest_length (body : NoticeBody) (stamp : Stamp) :
    ∀ (q q' : List Notice), mergeNewest body stamp q = some q' → q'.length = q.length
  | [], q', h => by simp [mergeNewest] at h
  | n :: rest, q', h => by
    unfold mergeNewest at h
    split at h
    · rename_i r' hr
      have := mergeNewest_length body stamp rest r' hr
      cases h; simp [this]
    · split at h
      · cases h; rfl
      · cases h

/-- A full queue's newest record of the kind and subject takes the notice in its place (R169). -/
theorem mergeNewest_split (body : NoticeBody) (stamp : Stamp) (n : Notice) (after : List Notice)
    (hn : n.body.merges body = true) (ha : ∀ m ∈ after, m.body.merges body = false) : ∀ before : List Notice,
    mergeNewest body stamp (before ++ n :: after) =
      some (before ++ { body := body, stamp := stamp, repeats := min (n.repeats + 1) 255 } :: after) := by
  have hnone : mergeNewest body stamp after = none := by
    induction after with
    | nil => rfl
    | cons m ms ih =>
      have hm := ha m (by simp)
      simp [mergeNewest, ih (fun m' h' => ha m' (by simp [h'])), hm]
  intro before
  induction before with
  | nil => simp [mergeNewest, hnone, hn]
  | cons b bs ih => simp [mergeNewest, ih]

/-- A queue without a record of the kind and subject takes no notice by merging. -/
theorem mergeNewest_none (body : NoticeBody) (stamp : Stamp) : ∀ q : List Notice,
    (∀ m ∈ q, m.body.merges body = false) → mergeNewest body stamp q = none
  | [], _ => rfl
  | m :: ms, h => by
    simp [mergeNewest, mergeNewest_none body stamp ms (fun m' h' => h m' (by simp [h'])), h m (by simp)]

/-- The Notice Queue grows by at most one record, and never past the room there is (R168, R169). -/
theorem State.produce_queue_length (s : State) (body : NoticeBody) :
    (s.produce body).notices.queue.length = s.notices.queue.length ∨
      ((s.produce body).notices.queue.length = s.notices.queue.length + 1 ∧
        s.notices.queue.length < s.noticeRoom body) := by
  unfold State.produce; split
  · split
    · rename_i h; right; simp [h]
    · split
      · rename_i q h; left; exact mergeNewest_length _ _ _ _ h
      · left; rfl
  · left; rfl

@[simp] theorem State.produce_muted (s : State) (body : NoticeBody) :
    (s.produce body).notices.muted = s.notices.muted := by
  unfold State.produce; split
  · split
    · rfl
    · split <;> rfl
  · rfl

@[simp] theorem State.produce_seq (s : State) (body : NoticeBody) : (s.produce body).notices.seq = s.notices.seq := by
  unfold State.produce; split
  · split
    · rfl
    · split <;> rfl
  · rfl

/-! ### Takes (R145, R156, R157) -/

/-- A take of a request at the front: its answer, the reply queued, the transmitter busy. -/
theorem State.take_front {s : State} {q : Frame} {rest : List Frame} {mine : Frame → Bool}
    {serve : Frame → State → State × Reply} (h : s.front q rest) (hm : mine q = true) :
    s.take mine serve =
      ((((s.taking rest).answer q serve).1.queueReply q ((s.taking rest).answer q serve).2).transmit) := by
  obtain ⟨hp, hr, hi⟩ := h
  simp [State.take, State.mayTake, hp, hr, hi, hm, State.taking]

/-- A take in READY of a request of a known KIND and an allowed length is its block's own. -/
theorem State.take_asked {s : State} {kind : Byte} {payload : List Byte} {q : Frame} {rest : List Frame}
    {mine : Frame → Bool} {serve : Frame → State → State × Reply} (h : s.asked kind payload q rest)
    (hm : mine q = true) (hk : knownKind kind = true) (hl : lengthAllowed kind payload.length = true) :
    s.take mine serve = ((serve q (s.taking rest)).1.queueReply q (serve q (s.taking rest)).2).transmit := by
  obtain ⟨hf, hb, hq, hpl⟩ := h
  rw [State.take_front hf hm]
  simp [State.answer, State.sharedRefusal, hb, hq, hpl, hk, hl]

/-- A row with no request of its own to take changes nothing (log 2). -/
theorem State.take_reloading {s : State} {mine : Frame → Bool} {serve : Frame → State → State × Reply}
    (h : s.reloadPending = true) : s.take mine serve = s := by
  simp [State.take, State.mayTake, h]

theorem State.queueReply_frame (s : State) (q : Frame) (r : Reply) :
    s.queueReply q r = { s with link := { s.link with
      replies := s.link.replies ++ [{ frame := replyFrame q r, effect := r.effect }]
      cache := cacheAdd s.link.cache { tag := q.tag, check := q.check, reply := replyFrame q r } } } := rfl

/-- The replay cache never holds more than four entries (R147). -/
theorem cacheAdd_length (cache : List CacheEntry) (e : CacheEntry) : (cacheAdd cache e).length ≤ 4 := by
  simp [cacheAdd, Config.cacheSize]; omega

/-- The newest entry is the one that has joined (R147). -/
theorem cacheAdd_last (cache : List CacheEntry) (e : CacheEntry) : (cacheAdd cache e).getLast? = some e := by
  unfold cacheAdd
  rw [List.getLast?_drop]
  simp [Config.cacheSize]

/-! ### The order of agents -/

theorem addActor_mem {acc : List Actor} {a x : Actor} (h : x ∈ acc) : x ∈ addActor acc a := by
  unfold addActor; split
  · exact h
  · simp [h]

theorem foldl_addActor_mem {l : List Actor} : ∀ {acc : List Actor} {x : Actor}, x ∈ acc ∨ x ∈ l → x ∈ l.foldl addActor acc := by
  induction l with
  | nil => intro acc x h; simpa using h
  | cons a l ih =>
    intro acc x h
    refine ih ?_
    rcases h with h | h
    · exact .inl (addActor_mem h)
    · rcases List.mem_cons.mp h with rfl | h
      · left; unfold addActor; split
        · assumption
        · simp
      · exact .inr h

/-- Every player acts, whatever order is given. -/
theorem mem_playersOf (o : Order) (p : PlayerId) : p ∈ playersOf o := by
  unfold playersOf actorsOf
  refine List.mem_filterMap.mpr ⟨.player p, foldl_addActor_mem (.inr ?_), rfl⟩
  refine List.mem_append.mpr (.inr ?_)
  fin_cases p <;> simp [usualActors]

/-! ### The reach of a safe entry (R133) -/

theorem State.safeClear_iff (s : State) : s.safeClear = true ↔ s.safe.state = .clear := by simp [State.safeClear]

/-- In CLEAR no entry reaches anyone. -/
theorem State.reachPlayers_clear {s : State} (h : s.safe.state = .clear) (players exempt : List PlayerId) :
    s.reachPlayers players exempt = s := by
  simp [State.reachPlayers, State.safeClear, h]

/-- The reach of an entry on one player: its own record, and a notice for an ARMED one. -/
theorem State.enterPlayer_frame (s : State) (p : PlayerId) :
    s.enterPlayer p = { (s.setPlayer p (s.player p).frozen) with notices := (s.enterPlayer p).notices } := by
  unfold State.enterPlayer
  cases h : (s.player p).state <;>
    simp only [Player.frozen, h, s.setPlayer_self]
  exact State.produce_frame _ _

/-- A record that an entry has reached, or cannot move, stays. -/
theorem Player.frozen_frozen (r : Player) : r.frozen.frozen = r.frozen := by
  cases h : r.state <;> simp [Player.frozen, h]

theorem Player.frozen_of {r : Player} (h1 : r.state ≠ .running) (h2 : r.state ≠ .armed) : r.frozen = r := by
  cases h : r.state <;> simp_all [Player.frozen]

/-- A player that is neither RUNNING nor ARMED is not moved. -/
theorem State.enterPlayer_still {s : State} {p : PlayerId} (h1 : (s.player p).state ≠ .running)
    (h2 : (s.player p).state ≠ .armed) : s.enterPlayer p = s := by
  unfold State.enterPlayer
  cases h : (s.player p).state <;> simp_all

/-- With nobody to reach, an entry changes nothing. -/
theorem State.reachPlayers_still {s : State} (h : ∀ p, (s.player p).state ≠ .running ∧ (s.player p).state ≠ .armed)
    (players exempt : List PlayerId) : s.reachPlayers players exempt = s := by
  unfold State.reachPlayers; split
  · rfl
  · induction players with
    | nil => rfl
    | cons p ps ih =>
      simp only [List.foldl_cons, s.enterPlayer_still (h p).1 (h p).2, ite_self]
      exact ih

/-- An entry without exemptions: every player named is frozen, the others and every other block but the Notice Queue stay. -/
theorem State.reachPlayers_all {s : State} (h : s.safe.state ≠ .clear) (players : List PlayerId) :
    (s.reachPlayers players [] = { s with
      players := (s.reachPlayers players []).players, notices := (s.reachPlayers players []).notices }) ∧
    ∀ p, (s.reachPlayers players []).player p = if p ∈ players then (s.player p).frozen else s.player p := by
  have hc : s.safeClear = false := by simp [State.safeClear, h]
  simp only [State.reachPlayers, hc, List.not_mem_nil, if_false, Bool.false_eq_true]
  clear hc h
  induction players generalizing s with
  | nil => simp
  | cons p ps ih =>
    simp only [List.foldl_cons]
    obtain ⟨h1, h2⟩ := ih (s := s.enterPlayer p)
    have hf := s.enterPlayer_frame p
    constructor
    · rw [h1]; rw [hf]; rfl
    · intro p'
      have hp : (s.enterPlayer p).player p' = if p' = p then (s.player p).frozen else s.player p' := by
        rw [hf]; exact s.setPlayer_player p p' _
      rw [h2, hp]
      by_cases e : p' = p
      · subst e; simp [Player.frozen_frozen]
      · simp [e]

/-- The agents change nothing where each of them, in that state, changes nothing and no entry has anyone to reach. -/
theorem runActors_still {o : Order} {act : Actor → State → State} {s : State}
    (hr : ∀ players exempt, s.reachPlayers players exempt = s) :
    ∀ actors : List Actor, (∀ a ∈ actors, act a s = s) → runActors o act actors s = s
  | [], _ => rfl
  | a :: rest, h => by
    unfold runActors
    simp only [h a (by simp), hr]
    exact runActors_still hr rest (fun a' h' => h a' (by simp [h']))

/-- The players change nothing where none of them does in that state and no entry has anyone to reach. -/
theorem eachPlayer_still {o : Order} {act : PlayerId → State → State} {s : State}
    (hr : ∀ players exempt, s.reachPlayers players exempt = s) (h : ∀ p, act p s = s) : eachPlayer o act s = s := by
  refine runActors_still hr _ (fun a _ => ?_)
  cases a with
  | player p => exact h p
  | safeUnit => rfl
  | superframeNotice => rfl

/-- In CLEAR the end of an event changes nothing. -/
theorem State.settle_clear {s : State} (o : Order) (h : s.safe.state = .clear) : s.settle o = s :=
  State.reachPlayers_clear h _ _

theorem Player.frozen_state (r : Player) : r.frozen.state ≠ .running ∧ r.frozen.state ≠ .armed := by
  cases h : r.state <;> simp [Player.frozen, h]

/-- Outside CLEAR the end of an event freezes every player as the entry does (R133). -/
theorem State.settle_player {s : State} (o : Order) (h : s.safe.state ≠ .clear) (p : PlayerId) :
    (s.settle o).player p = (s.player p).frozen := by
  unfold State.settle; rw [(State.reachPlayers_all h _).2]; simp [mem_playersOf]

/-- Where no player is RUNNING or ARMED, the end of an event changes nothing. -/
theorem State.settle_still {s : State} (o : Order) (h : ∀ p, (s.player p).state ≠ .running ∧ (s.player p).state ≠ .armed) :
    s.settle o = s :=
  State.reachPlayers_still h _ _

/-! ### What is due and what is owed (log 4, log 5) -/

theorem State.phaseEnd_still {s : State} {p : PlayerId} (h : (s.player p).due = false) : s.phaseEnd p = s := by
  simp [State.phaseEnd, h]

theorem State.owedEvent_still {s : State} {p : PlayerId} (h : (s.player p).owed = none) : s.owedEvent p = s := by
  simp [State.owedEvent, h]

/-- With nothing owed to the player, the end of its request changes nothing. -/
theorem State.owedNow_still {s : State} {p : PlayerId} (h : (s.player p).owed = none) : s.owedNow p = s := by
  simp [State.owedNow, h]

/-- With nothing due and nothing owed, and nobody for an entry to reach, there is nothing to catch up with. -/
theorem State.catchUp_still {s : State} (o : Order) (hd : s.nothingDue) (ho : s.nothingOwed)
    (hr : ∀ players exempt, s.reachPlayers players exempt = s) : s.catchUp o = s :=
  eachPlayer_still hr fun p => by rw [State.phaseEnd_still (hd p), State.owedEvent_still (ho p)]

/-! ### Events of a live part -/

/-- On a live part an event runs and the transmitter begins what is ready (log 11). -/
theorem State.live_live {s : State} (h : s.phase = .live) (event : State → State) : s.live event = (event s).transmit := by
  simp [State.live, h]

theorem State.live_other {s : State} (h : s.phase ≠ .live) (event : State → State) : s.live event = s := by
  unfold State.live; split
  · contradiction
  · rfl
  · rfl

/-! ### Start-up (R179) -/

/-- The players stand in the list of all by number. -/
theorem allPlayers_at : ∀ p : PlayerId, allPlayers[p.val]? = some p := by decide

@[simp] theorem State.startUp_zero (s : State) (o : Order) : s.startUp o 0 = s := rfl

theorem State.startUp_succ (s : State) (o : Order) (n : Nat) : s.startUp o (n + 1) = (s.startUpAction o).startUp o n := rfl

/-- A start-up goes on where an earlier row left it. -/
theorem State.startUp_add (s : State) (o : Order) (n m : Nat) : s.startUp o (n + m) = (s.startUp o n).startUp o m := by
  induction n generalizing s with
  | zero => rw [Nat.zero_add, State.startUp_zero]
  | succ n ih => rw [Nat.succ_add, State.startUp_succ, State.startUp_succ, ih]

/-- In READY there is nothing left of a start-up. -/
theorem State.startUp_ready {s : State} (h : s.boot = .ready) (o : Order) (n : Nat) : s.startUp o n = s := by
  induction n with
  | zero => rfl
  | succ n ih => rw [State.startUp_succ, show s.startUpAction o = s by simp [State.startUpAction, h], ih]

theorem State.startUpAction_values {s : State} (h : s.boot = .booting .values) (o : Order) :
    s.startUpAction o = { s.loadBanks.1 with boot := .booting (.loaded s.loadBanks.2) } := by
  simp [State.startUpAction, h]

theorem State.startUpAction_loaded {s : State} {load : LoadResult} (h : s.boot = .booting (.loaded load)) (o : Order) :
    s.startUpAction o = { s.judgeHoldAtBoot with boot := .booting (.judged load) } := by
  simp [State.startUpAction, h]

theorem State.startUpAction_judged {s : State} {load : LoadResult} (h : s.boot = .booting (.judged load)) (o : Order) :
    s.startUpAction o = { s.autostartTimebase o with boot := .booting (.autostart load []) } := by
  simp [State.startUpAction, h]

/-- An entry is taken, and its result joins the others. -/
theorem State.startUpAction_entry {s : State} {load : LoadResult} {results : List AutoResult} {p : PlayerId}
    (h : s.boot = .booting (.autostart load results)) (hp : p.val = results.length) (o : Order) :
    s.startUpAction o = { (s.runEntry o p).1 with boot := .booting (.autostart load (results ++ [(s.runEntry o p).2])) } := by
  have : allPlayers[results.length]? = some p := by
    rw [← hp]; exact allPlayers_at p
  simp only [State.startUpAction, h, this]

/-- With all six entries taken, READY is next. -/
theorem State.startUpAction_last {s : State} {load : LoadResult} {results : List AutoResult}
    (h : s.boot = .booting (.autostart load results)) (hl : results.length = 6) (o : Order) :
    s.startUpAction o =
      { s.produce (.ready load.result load.bank load.seq s.image.autostart.timebase results) with boot := .ready } := by
  have : allPlayers[results.length]? = none := by rw [hl]; rfl
  simp only [State.startUpAction, h, this]

/-! ### Bytes received (R141, R143) -/

/-- A byte on the line is received as that byte. -/
@[simp] theorem State.rxUart_uartBits (s : State) (b : Byte) : s.rxUart (uartBits b) = s.rxByte b := by
  simp [State.rxUart]

/-- Bytes on the line are received one after another. -/
theorem State.rxBytes_eq (s : State) (bs : List Byte) : s.rxBytes bs = bs.foldl State.rxByte s := by
  simp [State.rxBytes]

/-! ### The microsecond (R26, R41, R144) -/

/-- The inter-byte timer touches the link and the notices alone. -/
theorem State.timeByte_frame (s : State) :
    s.timeByte = { s with link := s.timeByte.link, notices := s.timeByte.notices } := by
  unfold State.timeByte; split
  · unfold State.linkError; rw [State.produce_frame]; rfl
  · rfl

/-- A held SYNC_OUT level ends in the Timebase's record alone. -/
theorem State.endSyncHold_frame (s : State) : s.endSyncHold = { s with tb := s.endSyncHold.tb } := by
  unfold State.endSyncHold; split <;> rfl

end Sys2Proof.Machine
end

