-- ==== Sys2Proof/Laws/PerInstr.lean ====
section
/-! SUPPORT. One lemma for each command: a well-formed one carries a frame that the link can carry, a bad LEN byte that is bad, and
an order that names each agent once and no more actions than a start-up has. -/

namespace Sys2Proof.Laws.Frames

/-- The order that a command carries, if it carries one. -/
def orderOf : Instr → Option Order
  | .playerStart o => some o
  | .playerResume o => some o
  | .tbStart o => some o
  | .tbStop o => some o
  | .safeEnter o => some o
  | .safeRelease o => some o
  | .paramSetHoldLevel o => some o
  | .internalTick o => some o
  | .tickInEdge o => some o
  | .syncInEdge _ o => some o
  | .setDwellEnd _ o => some o
  | .pulseTrailingEdge _ o => some o
  | .pulseDwellEnd _ o => some o
  | .waitEdgeTimeout _ o => some o
  | .acceptedChange _ o => some o
  | .holdInChange _ o => some o
  | .imageLoad o => some o
  | .inputSample _ _ o => some o
  | .listCreate | .listAppend | .listTruncate | .listSeal | .listUnseal | .listDelete | .listInfo | .listRead
  | .storeInfo | .playerBind | .playerUnbind | .playerCancel | .playerStop | .playerHold | .playerSetStop
  | .playerClear | .playerStatus | .playerReplace | .playerWithdraw | .tbStatus | .lineDrive | .lineStatus
  | .inputRead | .safeStatus | .paramGet | .paramSet | .paramSetStaged | .paramSetStoppedClass
  | .paramSetSyncOutSrc | .paramSetLinkRate | .paramSetInEdge | .paramSetInFilter | .paramSetLineIdle
  | .paramSetLineSafe | .paramSetNoticeMask | .noticeMute | .noticeUnmute | .imageSave | .imageErase
  | .imageInfo | .autostartSet | .autostartClear | .autostartRead | .deviceStatus | .deviceResetWarm
  | .deviceResetReload | .unknownKindRequest | .frameReceived _ | .linkBadLength _ | .linkByteError
  | .linkTimeout | .frameSent | .syncOutPulseEnd | .saveCompletion _ | .eraseCompletion _ | .startUpReset _
  | .sofReceived | .bankATreated _ | .resetNRelease | .powerFailure => none

/-- A well-formed command's frame has a payload of at most 248 bytes, its bad LEN byte lies outside 2 to 250, and its order names no
agent twice and, if any number, 1 to 10 start-up actions (R143, R144, R153, R179). -/
def Statement (c : Instr) : Prop :=
  c.wellFormed = true →
    (∀ f, c = .frameReceived f → f.payload.length ≤ 248) ∧
      (∀ len, c = .linkBadLength len → len.toNat < 2 ∨ 250 < len.toNat) ∧
      ∀ o, orderOf c = some o → o.first.Nodup ∧ ∀ n, o.actions = some n → 1 ≤ n ∧ n ≤ 10

/-- A command that is no frame and no bad LEN byte, and carries no order. -/
theorem statement_of_plain {c : Instr} (hf : ∀ f, c ≠ .frameReceived f) (hl : ∀ len, c ≠ .linkBadLength len)
    (ho : orderOf c = none) : Statement c :=
  fun _ => ⟨fun f h => absurd h (hf f), fun len h => absurd h (hl len), fun _ h => nomatch ho.symm.trans h⟩

/-- A command that is no frame and no bad LEN byte, and is well formed when its order is. -/
theorem statement_of_order {c : Instr} {o : Order} (hf : ∀ f, c ≠ .frameReceived f) (hl : ∀ len, c ≠ .linkBadLength len)
    (ho : orderOf c = some o) (hw : c.wellFormed = o.wellFormed) : Statement c := by
  refine fun h => ⟨fun f e => absurd e (hf f), fun len e => absurd e (hl len), fun o' e => ?_⟩
  obtain rfl : o = o' := Option.some.inj (ho.symm.trans e)
  have hv : o.wellFormed = true := hw.symm.trans h
  simp only [Order.wellFormed, Bool.and_eq_true, decide_eq_true_eq] at hv
  refine ⟨hv.1, fun n hn => ?_⟩
  have hb := hv.2
  rw [hn] at hb
  simp only [Option.all_some, Bool.and_eq_true, decide_eq_true_eq] at hb
  exact hb

theorem listCreate : Statement .listCreate := statement_of_plain nofun nofun rfl

theorem listAppend : Statement .listAppend := statement_of_plain nofun nofun rfl

theorem listTruncate : Statement .listTruncate := statement_of_plain nofun nofun rfl

theorem listSeal : Statement .listSeal := statement_of_plain nofun nofun rfl

theorem listUnseal : Statement .listUnseal := statement_of_plain nofun nofun rfl

theorem listDelete : Statement .listDelete := statement_of_plain nofun nofun rfl

theorem listInfo : Statement .listInfo := statement_of_plain nofun nofun rfl

theorem listRead : Statement .listRead := statement_of_plain nofun nofun rfl

theorem storeInfo : Statement .storeInfo := statement_of_plain nofun nofun rfl

theorem playerBind : Statement .playerBind := statement_of_plain nofun nofun rfl

theorem playerUnbind : Statement .playerUnbind := statement_of_plain nofun nofun rfl

theorem playerStart (o : Order) : Statement (.playerStart o) := statement_of_order nofun nofun rfl rfl

theorem playerCancel : Statement .playerCancel := statement_of_plain nofun nofun rfl

theorem playerStop : Statement .playerStop := statement_of_plain nofun nofun rfl

theorem playerHold : Statement .playerHold := statement_of_plain nofun nofun rfl

theorem playerResume (o : Order) : Statement (.playerResume o) := statement_of_order nofun nofun rfl rfl

theorem playerSetStop : Statement .playerSetStop := statement_of_plain nofun nofun rfl

theorem playerClear : Statement .playerClear := statement_of_plain nofun nofun rfl

theorem playerStatus : Statement .playerStatus := statement_of_plain nofun nofun rfl

theorem playerReplace : Statement .playerReplace := statement_of_plain nofun nofun rfl

theorem playerWithdraw : Statement .playerWithdraw := statement_of_plain nofun nofun rfl

theorem tbStart (o : Order) : Statement (.tbStart o) := statement_of_order nofun nofun rfl rfl

theorem tbStop (o : Order) : Statement (.tbStop o) := statement_of_order nofun nofun rfl rfl

theorem tbStatus : Statement .tbStatus := statement_of_plain nofun nofun rfl

theorem lineDrive : Statement .lineDrive := statement_of_plain nofun nofun rfl

theorem lineStatus : Statement .lineStatus := statement_of_plain nofun nofun rfl

theorem inputRead : Statement .inputRead := statement_of_plain nofun nofun rfl

theorem safeEnter (o : Order) : Statement (.safeEnter o) := statement_of_order nofun nofun rfl rfl

theorem safeRelease (o : Order) : Statement (.safeRelease o) := statement_of_order nofun nofun rfl rfl

theorem safeStatus : Statement .safeStatus := statement_of_plain nofun nofun rfl

theorem paramGet : Statement .paramGet := statement_of_plain nofun nofun rfl

theorem paramSet : Statement .paramSet := statement_of_plain nofun nofun rfl

theorem paramSetStaged : Statement .paramSetStaged := statement_of_plain nofun nofun rfl

theorem paramSetStoppedClass : Statement .paramSetStoppedClass := statement_of_plain nofun nofun rfl

theorem paramSetSyncOutSrc : Statement .paramSetSyncOutSrc := statement_of_plain nofun nofun rfl

theorem paramSetLinkRate : Statement .paramSetLinkRate := statement_of_plain nofun nofun rfl

theorem paramSetHoldLevel (o : Order) : Statement (.paramSetHoldLevel o) := statement_of_order nofun nofun rfl rfl

theorem paramSetInEdge : Statement .paramSetInEdge := statement_of_plain nofun nofun rfl

theorem paramSetInFilter : Statement .paramSetInFilter := statement_of_plain nofun nofun rfl

theorem paramSetLineIdle : Statement .paramSetLineIdle := statement_of_plain nofun nofun rfl

theorem paramSetLineSafe : Statement .paramSetLineSafe := statement_of_plain nofun nofun rfl

theorem paramSetNoticeMask : Statement .paramSetNoticeMask := statement_of_plain nofun nofun rfl

theorem noticeMute : Statement .noticeMute := statement_of_plain nofun nofun rfl

theorem noticeUnmute : Statement .noticeUnmute := statement_of_plain nofun nofun rfl

theorem imageSave : Statement .imageSave := statement_of_plain nofun nofun rfl

theorem imageErase : Statement .imageErase := statement_of_plain nofun nofun rfl

theorem imageInfo : Statement .imageInfo := statement_of_plain nofun nofun rfl

theorem autostartSet : Statement .autostartSet := statement_of_plain nofun nofun rfl

theorem autostartClear : Statement .autostartClear := statement_of_plain nofun nofun rfl

theorem autostartRead : Statement .autostartRead := statement_of_plain nofun nofun rfl

theorem deviceStatus : Statement .deviceStatus := statement_of_plain nofun nofun rfl

theorem deviceResetWarm : Statement .deviceResetWarm := statement_of_plain nofun nofun rfl

theorem deviceResetReload : Statement .deviceResetReload := statement_of_plain nofun nofun rfl

theorem unknownKindRequest : Statement .unknownKindRequest := statement_of_plain nofun nofun rfl

theorem frameReceived (f : Frame) : Statement (.frameReceived f) := by
  intro h
  refine ⟨fun g hg => ?_, by simp, by simp [orderOf]⟩
  cases hg
  simpa [Instr.wellFormed, Frame.wellFormed, legalLen] using h

theorem linkBadLength (len : Byte) : Statement (.linkBadLength len) := by
  intro h
  refine ⟨by simp, fun l hl => ?_, by simp [orderOf]⟩
  cases hl
  simp only [Instr.wellFormed, legalLen, Bool.not_eq_true', Bool.and_eq_false_iff, decide_eq_false_iff_not] at h
  omega

theorem linkByteError : Statement .linkByteError := statement_of_plain nofun nofun rfl

theorem linkTimeout : Statement .linkTimeout := statement_of_plain nofun nofun rfl

theorem frameSent : Statement .frameSent := statement_of_plain nofun nofun rfl

theorem internalTick (o : Order) : Statement (.internalTick o) := statement_of_order nofun nofun rfl rfl

theorem tickInEdge (o : Order) : Statement (.tickInEdge o) := statement_of_order nofun nofun rfl rfl

theorem syncInEdge (level : Bool) (o : Order) : Statement (.syncInEdge level o) := statement_of_order nofun nofun rfl rfl

theorem syncOutPulseEnd : Statement .syncOutPulseEnd := statement_of_plain nofun nofun rfl

theorem setDwellEnd (p : PlayerId) (o : Order) : Statement (.setDwellEnd p o) := statement_of_order nofun nofun rfl rfl

theorem pulseTrailingEdge (p : PlayerId) (o : Order) : Statement (.pulseTrailingEdge p o) :=
  statement_of_order nofun nofun rfl rfl

theorem pulseDwellEnd (p : PlayerId) (o : Order) : Statement (.pulseDwellEnd p o) := statement_of_order nofun nofun rfl rfl

theorem waitEdgeTimeout (p : PlayerId) (o : Order) : Statement (.waitEdgeTimeout p o) := statement_of_order nofun nofun rfl rfl

theorem acceptedChange (n : InputId) (o : Order) : Statement (.acceptedChange n o) := statement_of_order nofun nofun rfl rfl

theorem holdInChange (level : Bool) (o : Order) : Statement (.holdInChange level o) := statement_of_order nofun nofun rfl rfl

theorem saveCompletion (ok : Bool) : Statement (.saveCompletion ok) := statement_of_plain nofun nofun rfl

theorem eraseCompletion (ok : Bool) : Statement (.eraseCompletion ok) := statement_of_plain nofun nofun rfl

theorem startUpReset (cause : ResetCause) : Statement (.startUpReset cause) := statement_of_plain nofun nofun rfl

theorem imageLoad (o : Order) : Statement (.imageLoad o) := statement_of_order nofun nofun rfl rfl

theorem sofReceived : Statement .sofReceived := statement_of_plain nofun nofun rfl

theorem inputSample (n : InputId) (level : Bool) (o : Order) : Statement (.inputSample n level o) :=
  statement_of_order nofun nofun rfl rfl

theorem bankATreated (ok : Bool) : Statement (.bankATreated ok) := statement_of_plain nofun nofun rfl

theorem resetNRelease : Statement .resetNRelease := statement_of_plain nofun nofun rfl

theorem powerFailure : Statement .powerFailure := statement_of_plain nofun nofun rfl

end Sys2Proof.Laws.Frames
end

