-- ==== Sys2Proof/Laws/Play.lean ====
section
/-! SUPPORT. What playing and passing time never touch: `State.fixed` collects it, and one lemma for each shared operation says that
the operation leaves it as it was. -/

namespace Sys2Proof.Machine

/-- Phase, boot state, reload mark, lists but for their use counts, free slots, store-busy flag, parameters but for FRAME_LEN and
SUPER_LEN, claimed lines, owners, link, image unit, free values and queue. -/
structure Fixed where
  phase         : Phase
  boot          : Boot
  reloadPending : Bool
  lists         : Vector ListRec 64
  freeSlots     : Nat
  busy          : Bool
  params        : Params
  claims        : Vector LineSet 6
  owners        : Vector (Option PlayerId) 24
  link          : Link
  image         : ImageUnit
  fresh         : Nat
  pending       : List Instr

def State.fixed (s : State) : Fixed where
  phase         := s.phase
  boot          := s.boot
  reloadPending := s.reloadPending
  lists         := s.store.lists.map fun r => { r with useCount := 0 }
  freeSlots     := s.store.freeSlots
  busy          := s.store.busy
  params        := { s.params with frameLen := 0, superLen := 0 }
  claims        := s.players.map Player.claimed
  owners        := s.lines.owners
  link          := s.link
  image         := s.image
  fresh         := s.fresh
  pending       := s.pending

/-! ### Records and notices -/

/-- A player's record may change in everything but its claimed lines. -/
@[simp] theorem State.setPlayer_fixed (s : State) (p : PlayerId) (r : Player) (h : r.claimed = (s.player p).claimed) :
    (s.setPlayer p r).fixed = s.fixed := by
  have : (s.players.set p.val r).map Player.claimed = s.players.map Player.claimed := by
    ext1 i hi
    by_cases e : p.val = i
    · subst e; simpa [State.player] using h
    · simp [Vector.getElem_set_ne, e]
  simp [State.fixed, this]

/-- A list may change in its use count alone. -/
theorem State.setList_fixed (s : State) (l : ListId) (n : Nat) :
    (s.setList l { s.list l with useCount := n }).fixed = s.fixed := by
  have : (s.store.lists.set l.val { s.list l with useCount := n }).map (fun r => { r with useCount := 0 }) =
      s.store.lists.map fun r => { r with useCount := 0 } := by
    ext1 i hi
    by_cases e : l.val = i
    · subst e; simp [State.list]
    · simp [Vector.getElem_set_ne, e]
  simp [State.fixed, this]

@[simp] theorem State.useUp_fixed (s : State) (l : ListId) : (s.useUp l).fixed = s.fixed := s.setList_fixed l _
@[simp] theorem State.useDown_fixed (s : State) (l : ListId) : (s.useDown l).fixed = s.fixed := s.setList_fixed l _
@[simp] theorem State.useDownOpt_fixed (s : State) (l : Option ListId) : (s.useDownOpt l).fixed = s.fixed := by
  cases l <;> simp [State.useDownOpt]

@[simp] theorem State.setInput_fixed (s : State) (n : InputId) (r : Input) : (s.setInput n r).fixed = s.fixed := rfl
@[simp] theorem State.clearLatch_fixed (s : State) (n : InputId) : (s.clearLatch n).fixed = s.fixed := rfl
@[simp] theorem State.writeLines_fixed (s : State) (lines levels : LineSet) :
    (s.writeLines lines levels).fixed = s.fixed := rfl
@[simp] theorem State.idleLines_fixed (s : State) (lines : LineSet) : (s.idleLines lines).fixed = s.fixed := rfl
@[simp] theorem State.raiseSyncOut_fixed (s : State) : s.raiseSyncOut.fixed = s.fixed := rfl
@[simp] theorem State.lowerSyncOut_fixed (s : State) : s.lowerSyncOut.fixed = s.fixed := rfl
@[simp] theorem State.clearDivider_fixed (s : State) : s.clearDivider.fixed = s.fixed := rfl

@[simp] theorem State.raiseIf_fixed (s : State) (src : SyncOutSrc) : (s.raiseIf src).fixed = s.fixed := by
  unfold State.raiseIf; split <;> simp

@[simp] theorem State.syncOutAtTick_fixed (s : State) : s.syncOutAtTick.fixed = s.fixed := by
  unfold State.syncOutAtTick; split <;> simp

@[simp] theorem State.produce_fixed (s : State) (body : NoticeBody) : (s.produce body).fixed = s.fixed := by
  rw [s.produce_frame]; rfl

@[simp] theorem State.safeNotice_fixed (s : State) : s.safeNotice.fixed = s.fixed := s.produce_fixed _

@[simp] theorem State.changeSafe_fixed (s : State) (state : SafeState) (causes : Causes) (players : BitVec 6) :
    (s.changeSafe state causes players).fixed = s.fixed := by
  simp only [State.changeSafe, State.safeNotice_fixed]; rfl

@[simp] theorem State.escalate_fixed (s : State) (p : PlayerId) : (s.escalate p).fixed = s.fixed := by
  unfold State.escalate
  simp only
  split
  · simp
  · split
    · split
      · rfl
      · rw [State.safeNotice_fixed]; rfl
    · simp

/-! ### The order of agents -/

@[simp] theorem State.enterPlayer_fixed (s : State) (p : PlayerId) : (s.enterPlayer p).fixed = s.fixed := by
  unfold State.enterPlayer; simp only; split <;> simp

theorem foldl_fixed {α : Type} (f : State → α → State) (h : ∀ s a, (f s a).fixed = s.fixed) :
    ∀ (l : List α) (s : State), (l.foldl f s).fixed = s.fixed
  | [], _ => rfl
  | a :: l, s => by rw [List.foldl_cons, foldl_fixed f h l, h]

@[simp] theorem State.reachPlayers_fixed (s : State) (players exempt : List PlayerId) :
    (s.reachPlayers players exempt).fixed = s.fixed := by
  unfold State.reachPlayers; split
  · rfl
  · refine foldl_fixed _ (fun s p => ?_) _ _
    split <;> simp

theorem runActors_fixed {o : Order} {act : Actor → State → State} (h : ∀ a s, (act a s).fixed = s.fixed) :
    ∀ (actors : List Actor) (s : State), (runActors o act actors s).fixed = s.fixed
  | [], _ => rfl
  | a :: rest, s => by
    unfold runActors
    simp only [runActors_fixed h rest, State.reachPlayers_fixed, h]

theorem eachPlayer_fixed {o : Order} {act : PlayerId → State → State} (h : ∀ p s, (act p s).fixed = s.fixed) (s : State) :
    (eachPlayer o act s).fixed = s.fixed := by
  refine runActors_fixed (fun a s => ?_) _ s
  cases a <;> simp [h]

/-! ### Steps -/

@[simp] theorem State.rest_fixed (s : State) (p : PlayerId) (a : Activity) (n : Nat) : (s.rest p a n).fixed = s.fixed := by
  simp [State.rest]

@[simp] theorem State.commitRecord_fixed (s : State) (p : PlayerId) (new : ListId) (point : CommitPoint) :
    (s.commitRecord p new point).fixed = s.fixed := by
  simp [State.commitRecord]

@[simp] theorem State.commitAtPassEnd_fixed (s : State) (p : PlayerId) : (s.commitAtPassEnd p).fixed = s.fixed := by
  unfold State.commitAtPassEnd; split <;> simp

@[simp] theorem State.faultPlayer_fixed (s : State) (p : PlayerId) (c : FaultCause) :
    (s.faultPlayer p c).fixed = s.fixed := by
  unfold State.faultPlayer; simp only; split <;> simp

@[simp] theorem State.noteBegin_fixed (s : State) (p : PlayerId) (st : Step) : (s.noteBegin p st).fixed = s.fixed := by
  unfold State.noteBegin; split <;> simp

@[simp] theorem State.beginWait_fixed (s : State) (p : PlayerId) (st : Step) (n : InputId) (t : BitVec 16) :
    (s.beginWait p st n t).1.fixed = s.fixed := by
  unfold State.beginWait; simp only
  split
  · split
    · simp
    · split <;> simp
  · simp

@[simp] theorem State.beginStep_fixed (s : State) (p : PlayerId) (st : Step) : (s.beginStep p st).1.fixed = s.fixed := by
  unfold State.beginStep; simp only
  split
  · split <;> simp
  · simp
  · simp
  · split <;> simp

@[simp] theorem State.admitStep_fixed (s : State) (p : PlayerId) : (s.admitStep p).1.fixed = s.fixed := by
  unfold State.admitStep; split
  · rfl
  · split
    · split <;> simp
    · simp

@[simp] theorem State.admitNext_fixed (s : State) (p : PlayerId) : (s.admitNext p).1.fixed = s.fixed := by
  unfold State.admitNext; simp only; split
  · split <;> simp
  · simp

@[simp] theorem State.endRun_fixed (s : State) (p : PlayerId) (c : RunEndCause) : (s.endRun p c).fixed = s.fixed := by
  simp [State.endRun]

@[simp] theorem State.holdQuestion_fixed (s : State) (p : PlayerId) (st : Step) :
    (s.holdQuestion p st).1.fixed = s.fixed := by
  unfold State.holdQuestion; simp only; split <;> simp

@[simp] theorem State.passEnd_fixed (s : State) (p : PlayerId) (st : Step) : (s.passEnd p st).1.fixed = s.fixed := by
  unfold State.passEnd; simp only; split
  · simp
  · split
    · simp
    · split <;> simp

@[simp] theorem State.resolve_fixed (s : State) (p : PlayerId) (st : Step) : (s.resolve p st).1.fixed = s.fixed := by
  unfold State.resolve; simp only; split
  · simp
  · split <;> simp

theorem chain_fixed : ∀ (fuel : Nat) (p : PlayerId) (s : State), (chain fuel p s).fixed = s.fixed
  | 0, _, _ => rfl
  | fuel + 1, p, s => by
    have ha := s.admitNext_fixed p
    unfold chain
    split
    · rename_i h; rw [h] at ha; exact ha
    · rename_i s1 st h
      rw [h] at ha
      have hr := s1.resolve_fixed p st
      split
      · rename_i h2; rw [h2] at hr; rw [chain_fixed fuel]; exact hr.trans ha
      · rename_i h2; rw [h2] at hr; exact hr.trans ha

@[simp] theorem State.admitChain_fixed (s : State) (p : PlayerId) : (s.admitChain p).fixed = s.fixed := chain_fixed _ p s

@[simp] theorem State.endStep_fixed (s : State) (p : PlayerId) (st : Step) : (s.endStep p st).fixed = s.fixed := by
  have hr := s.resolve_fixed p st
  unfold State.endStep
  split
  · rename_i h; rw [h] at hr; rw [State.admitChain_fixed]; exact hr
  · rename_i h; rw [h] at hr; exact hr

@[simp] theorem State.follow_fixed (a : State × Admission) (p : PlayerId) : (State.follow a p).fixed = a.1.fixed := by
  unfold State.follow; split <;> simp

@[simp] theorem State.beginRun_fixed (s : State) (p : PlayerId) (c : StartCause) : (s.beginRun p c).fixed = s.fixed := by
  simp [State.beginRun]

@[simp] theorem State.trailingEdge_fixed (s : State) (st : Step) : (s.trailingEdge st).fixed = s.fixed := by
  unfold State.trailingEdge; split <;> simp

/-- A trailing edge writes lines alone. -/
@[simp] theorem State.trailingEdge_player (s : State) (st : Step) (p : PlayerId) :
    (s.trailingEdge st).player p = s.player p := by
  unfold State.trailingEdge; split <;> simp

@[simp] theorem State.expire_fixed (s : State) (p : PlayerId) (st : Step) : (s.expire p st).fixed = s.fixed := by
  unfold State.expire; split <;> simp

@[simp] theorem State.phaseEnd_fixed (s : State) (p : PlayerId) : (s.phaseEnd p).fixed = s.fixed := by
  unfold State.phaseEnd; simp only; split
  · split
    · simp
    · split <;> simp
    · simp
    · simp
  · rfl

@[simp] theorem State.abandonStep_fixed (s : State) (p : PlayerId) : (s.abandonStep p).fixed = s.fixed := by
  unfold State.abandonStep; simp only; split <;> simp

@[simp] theorem State.commitSuper_fixed (s : State) (p : PlayerId) : (s.commitSuper p).fixed = s.fixed := by
  unfold State.commitSuper; simp only; split
  · split <;> simp
  · rfl

@[simp] theorem State.resumeWait_fixed (s : State) (p : PlayerId) (st : Step) (n : InputId) :
    (s.resumeWait p st n).fixed = s.fixed := by
  unfold State.resumeWait; simp only; split
  · split <;> simp
  · rfl

@[simp] theorem State.resumePlayer_fixed (s : State) (p : PlayerId) : (s.resumePlayer p).fixed = s.fixed := by
  unfold State.resumePlayer; simp only; split
  · simp
  · split <;> simp
  · split
    · split <;> simp
    · simp
    · simp
    · simp
  · simp

/-! ### The Safe Unit and the end of an event -/

@[simp] theorem State.settle_fixed (s : State) (o : Order) : (s.settle o).fixed = s.fixed := by
  simp [State.settle]

@[simp] theorem State.enterSafe_fixed (s : State) (o : Order) (state : SafeState) (causes : Causes) :
    (s.enterSafe o state causes).fixed = s.fixed := by
  simp [State.enterSafe]

@[simp] theorem State.judgeHold_fixed (s : State) (o : Order) (active : Bool) : (s.judgeHold o active).fixed = s.fixed := by
  unfold State.judgeHold; simp only; split
  · rfl
  · split
    · split
      · rw [State.enterSafe_fixed]; rfl
      · rw [State.changeSafe_fixed]; rfl
      · rfl
    · split
      · rw [State.changeSafe_fixed]; rfl
      · rfl
      · rfl

@[simp] theorem State.autoResume_fixed (s : State) (o : Order) (super : Bool) (p : PlayerId) :
    (s.autoResume o super p).fixed = s.fixed := by
  unfold State.autoResume; simp only; split
  · split <;> simp
  · rfl

@[simp] theorem State.releaseSafe_fixed (s : State) (o : Order) (super : Bool) :
    (s.releaseSafe o super).fixed = s.fixed := by
  unfold State.releaseSafe; simp only; split
  · rw [eachPlayer_fixed (fun p s => s.autoResume_fixed o super p), State.changeSafe_fixed]
  · simp

@[simp] theorem State.autoRelease_fixed (s : State) (o : Order) : (s.autoRelease o).fixed = s.fixed := by
  unfold State.autoRelease; split <;> simp

/-! ### The Timebase -/

@[simp] theorem State.tbNotice_fixed (s : State) (e : TbEventKind) (r : Option Stamp) :
    (s.tbNotice e r).fixed = s.fixed := by
  simp [State.tbNotice]

@[simp] theorem State.setTbState_fixed (s : State) (state : TbState) : (s.setTbState state).fixed = s.fixed := by
  unfold State.setTbState; simp only; split
  · split <;> rfl
  · split <;> rfl

@[simp] theorem State.commitStaged_fixed (s : State) : s.commitStaged.fixed = s.fixed := rfl

@[simp] theorem State.commitNotice_fixed (s before : State) : (s.commitNotice before).fixed = s.fixed := by
  unfold State.commitNotice; split <;> simp

@[simp] theorem State.countFrame_fixed (s : State) (index : Nat) : (s.countFrame index).fixed = s.fixed := by
  unfold State.countFrame; simp only; split
  · rw [State.commitStaged_fixed]; rfl
  · rfl

@[simp] theorem State.syncOutAtFrame_fixed (s : State) (super : Bool) : (s.syncOutAtFrame super).fixed = s.fixed := by
  unfold State.syncOutAtFrame; split
  · simp
  · split <;> simp
  · rfl
  · rfl
  · rfl

@[simp] theorem State.countTick_fixed (s : State) (o : Order) (p : PlayerId) : (s.countTick o p).fixed = s.fixed := by
  unfold State.countTick; simp only; split
  · split <;> simp
  · simp

@[simp] theorem State.alignEvent_fixed (s : State) (p : PlayerId) (ev : TbEvent) : (s.alignEvent p ev).fixed = s.fixed := by
  unfold State.alignEvent; split
  · split
    · split <;> simp
    · rfl
    · rfl
    · rfl
  · rfl

@[simp] theorem State.fitEvent_fixed (s : State) (p : PlayerId) (ev : TbEvent) : (s.fitEvent p ev).fixed = s.fixed := by
  unfold State.fitEvent; split
  · split <;> simp
  · rfl

@[simp] theorem State.runningEvent_fixed (s : State) (o : Order) (p : PlayerId) (ev : TbEvent) :
    (s.runningEvent o p ev).fixed = s.fixed := by
  unfold State.runningEvent; simp only; split
  · split <;> simp
  · split
    · split <;> simp
    · split <;> simp
    · split <;> simp
    · simp
    · simp
    · rfl

@[simp] theorem State.superEvent_fixed (s : State) (o : Order) (p : PlayerId) (ev : TbEvent) :
    (s.superEvent o p ev).fixed = s.fixed := by
  unfold State.superEvent; split
  · split <;> simp
  · simp

@[simp] theorem State.playerEvent_fixed (s : State) (o : Order) (ev : TbEvent) (before : PlayerState) (p : PlayerId) :
    (s.playerEvent o ev before p).fixed = s.fixed := by
  unfold State.playerEvent; simp only; split
  · simp
  · split
    · simp
    · split <;> simp
    · rfl

@[simp] theorem State.handTo_fixed (s : State) (o : Order) (ev : TbEvent) (before : Player) (p : PlayerId) :
    (s.handTo o ev before p).fixed = s.fixed := by
  unfold State.handTo; simp only; split
  · split <;> simp
  · simp

@[simp] theorem State.owedEvent_fixed (s : State) (p : PlayerId) : (s.owedEvent p).fixed = s.fixed := by
  unfold State.owedEvent; simp only; split <;> simp

@[simp] theorem State.owedNow_fixed (s : State) (p : PlayerId) : (s.owedNow p).fixed = s.fixed := by
  unfold State.owedNow; split <;> simp

@[simp] theorem State.handOut_fixed (s : State) (o : Order) (ev : TbEvent) : (s.handOut o ev).fixed = s.fixed := by
  unfold State.handOut
  refine runActors_fixed (fun a s' => ?_) _ s
  cases a <;> simp only
  · simp
  · split <;> simp
  · split <;> simp

/-- A frame start, where the notices before it are no more than notices. -/
theorem State.frameStart_fixed (s : State) (o : Order) (index : Nat) (first : State → State) (tick sync : Bool)
    (h : ∀ s, (first s).fixed = s.fixed) : (s.frameStart o index first tick sync).fixed = s.fixed := by
  simp [State.frameStart, h]

@[simp] theorem State.catchUp_fixed (s : State) (o : Order) : (s.catchUp o).fixed = s.fixed := by
  unfold State.catchUp
  rw [eachPlayer_fixed (fun p s => by simp)]

@[simp] theorem State.clearPassBegun_fixed (s : State) : s.clearPassBegun.fixed = s.fixed := by
  unfold State.clearPassBegun State.fixed
  simp only [Fixed.mk.injEq, true_and, and_true]
  ext1 i hi
  simp

@[simp] theorem State.tick_fixed (s : State) (o : Order) : (s.tick o).fixed = s.fixed := by
  have h : ((s.catchUp o).syncOutAtTick.clearPassBegun).fixed = s.fixed := by simp
  unfold State.tick; simp only; split
  · rw [State.handOut_fixed]; exact h
  · rw [State.frameStart_fixed _ _ _ id _ _ (fun _ => rfl)]; exact h

@[simp] theorem State.beginTbRun_fixed (s : State) (o : Order) (state : TbState) (sync : Bool) :
    (s.beginTbRun o state sync).fixed = s.fixed := by
  unfold State.beginTbRun
  rw [State.frameStart_fixed _ _ _ _ _ _ (fun _ => by simp)]; simp

@[simp] theorem State.tbStartAction_fixed (s : State) (o : Order) : (s.tbStartAction o).fixed = s.fixed := by
  unfold State.tbStartAction; split <;> simp

@[simp] theorem State.mergeEdge_fixed (s : State) (o : Order) : (s.mergeEdge o).fixed = s.fixed := by
  unfold State.mergeEdge; simp only; split
  · simp
  · simp only [State.handOut_fixed, State.commitNotice_fixed, State.raiseIf_fixed, State.commitStaged_fixed]; rfl

@[simp] theorem State.activeEdge_fixed (s : State) (o : Order) : (s.activeEdge o).fixed = s.fixed := by
  unfold State.activeEdge; split
  · simp
  · split
    · simp
    · rw [State.frameStart_fixed _ _ _ id _ _ (fun _ => rfl)]; simp
  · simp
  · simp

@[simp] theorem State.inactiveEdge_fixed (s : State) : s.inactiveEdge.fixed = s.fixed := by
  unfold State.inactiveEdge; split <;> simp

@[simp] theorem State.tbStopAction_fixed (s : State) : s.tbStopAction.fixed = s.fixed := by
  have h : (s.setTbState .stopped).fixed = s.fixed := by simp
  unfold State.tbStopAction; simp only [State.tbNotice_fixed]
  split <;> exact h

@[simp] theorem State.syncChange_fixed (s : State) (level : Bool) (o : Order) : (s.syncChange level o).fixed = s.fixed := by
  have h : (s.catchUp o).fixed = s.fixed := by simp
  unfold State.syncChange; simp only; split
  · rfl
  · split
    · rw [State.activeEdge_fixed]; exact h
    · rw [State.inactiveEdge_fixed]; exact h

@[simp] theorem State.endSyncHold_fixed (s : State) : s.endSyncHold.fixed = s.fixed := by
  unfold State.endSyncHold; split <;> simp

@[simp] theorem State.divide_fixed (s : State) (o : Order) : (s.divide o).fixed = s.fixed := by
  unfold State.divide; split
  · simp
  · split <;> rfl

/-- Everything but the link is left by a microsecond as by its inter-byte timer. -/
theorem State.passMicrosecond_fixed (s : State) (o : Order) : (s.passMicrosecond o).fixed = s.timeByte.fixed := by
  simp [State.passMicrosecond]

/-! ### Inputs and HOLD_IN -/

@[simp] theorem State.edgeReaches_fixed (s : State) (n : InputId) (d : Bool) (p : PlayerId) :
    (s.edgeReaches n d p).fixed = s.fixed := by
  unfold State.edgeReaches; simp only; split
  · simp
  · split
    · split <;> simp
    · rfl

@[simp] theorem State.acceptEdge_fixed (s : State) (n : InputId) (o : Order) : (s.acceptEdge n o).fixed = s.fixed := by
  unfold State.acceptEdge; simp only; split
  · rw [eachPlayer_fixed (fun p s' => by split <;> simp)]; simp
  · simp

@[simp] theorem State.acceptChange_fixed (s : State) (n : InputId) (o : Order) : (s.acceptChange n o).fixed = s.fixed := by
  unfold State.acceptChange; simp only; split <;> simp

@[simp] theorem State.sample_fixed (s : State) (n : InputId) (level : Bool) (o : Order) :
    (s.sample n level o).fixed = s.fixed := by
  unfold State.sample; simp only; split
  · simp
  · split
    · simp
    · split <;> simp

@[simp] theorem State.holdSample_fixed (s : State) (level : Bool) (o : Order) : (s.holdSample level o).fixed = s.fixed := by
  unfold State.holdSample; simp only; split
  · simp only [State.settle_fixed, State.judgeHold_fixed]; rfl
  · rfl

/-! ### Starting a player -/

@[simp] theorem State.startPlayer_fixed (s : State) (p : PlayerId) (sp : StartPoint) (n : Nat) (i : Option Nat) :
    (s.startPlayer p sp n i).fixed = s.fixed := by
  unfold State.startPlayer State.setLimits State.armPlayer; simp only; split <;> simp

end Sys2Proof.Machine
end

