-- ==== Sys2Proof/Tests/Slice0.lean ====
section
/-! SUPPORT. Tests: the ill-formed terms that WellFormed refuses, the check value, small steps, and for each statement that has
hypotheses a state and operands that meet them, clause by clause. -/

-- One theorem at a time: a kernel decision waits for every theorem before it, and each waiting thread keeps its own stack.
set_option Elab.async false

namespace Sys2Proof.Tests

open Sys2Proof Sys2Proof.Machine

/-! ### WellFormed refuses -/

/-- A frame with a payload of 248 bytes is the longest. -/
theorem test_longest_frame_is_wellFormed :
    Instr.wellFormed (.frameReceived { tag := 0, kind := 0, payload := List.replicate 248 0, check := 0 }) = true := by
  decide +kernel

theorem test_longer_frame_is_refused :
    Instr.wellFormed (.frameReceived { tag := 0, kind := 0, payload := List.replicate 249 0, check := 0 }) = false := by
  decide +kernel

theorem test_legal_len_is_no_bad_length :
    Instr.wellFormed (.linkBadLength 2) = false ∧ Instr.wellFormed (.linkBadLength 250) = false := by decide

theorem test_bad_lengths_are_wellFormed :
    Instr.wellFormed (.linkBadLength 1) = true ∧ Instr.wellFormed (.linkBadLength 251) = true := by decide

theorem test_order_naming_an_agent_twice_is_refused :
    Instr.wellFormed (.internalTick { first := [.player 2, .safeUnit, .player 2] }) = false := by decide

theorem test_start_up_has_ten_actions :
    Instr.wellFormed (.imageLoad {}) = true ∧ Instr.wellFormed (.imageLoad { actions := some 10 }) = true ∧
      Instr.wellFormed (.imageLoad { actions := some 0 }) = false ∧
      Instr.wellFormed (.imageLoad { actions := some 11 }) = false := by decide

/-! ### Fields of frames -/

/-- The check value over 02 31 32, computed by hand from the polynomial of R153. -/
theorem test_check_value : frameCheck 0x31 0x32 [] = 0x8249 := by decide +kernel

/-- The standard check value of CRC-16 with polynomial 1021h and initial value FFFFh: 29B1h for the digits 1 to 9. -/
theorem test_crc_of_the_nine_digits : crc16 [0x31, 0x32, 0x33, 0x34, 0x35, 0x36, 0x37, 0x38, 0x39] = 0x29B1 := by
  decide +kernel

/-- OUT0 to OUT7 are in the first byte of a line set (R152). -/
theorem test_line_bytes : lineBytes 0x800103 = [0x03, 0x01, 0x80] := by decide

/-- A PULSE on OUT0 at level 1 with NOTE, width 300 and dwell 2 (R155). -/
theorem test_pulse_record : Step.ofRecord [2, 2, 1, 0, 0, 1, 0, 0, 1, 44, 0, 2] =
    some { action := .pulse 1 1 300 2, halt := false, note := true, fit := false, fresh := false, strict := false,
           timeoutFault := false } := by decide

/-- A SET with a nonzero value in the place of a PULSE's dwell is no step (R8). -/
theorem test_reserved_place_is_refused : Step.ofRecord [1, 0, 1, 0, 0, 1, 0, 0, 0, 5, 0, 1] = none := by decide

/-- A word spells no command (log 32). -/
theorem test_no_word_spells_a_command : decodeTableWord 8 0x10 = none := rfl

/-! ### States to test on -/

/-- A request frame. Its CHECK does not matter to a take. -/
def req (kind : Byte) (payload : List Byte) : Frame := { tag := 1, kind := kind, payload := payload, check := 0 }

/-- The state in READY with that request alone in the inbox. -/
def ask (s : State) (kind : Byte) (payload : List Byte) : State :=
  { s with boot := .ready, link := { s.link with inbox := [req kind payload] } }

/-- The request may be taken in READY. -/
def Asks (s : State) (kind : Byte) (payload : List Byte) : Prop :=
  (ask s kind payload).asked kind payload (req kind payload) []

theorem asks {s : State} (kind : Byte) (payload : List Byte) (hp : s.phase = .live := by rfl)
    (hr : s.reloadPending = false := by rfl) : Asks s kind payload := ⟨⟨hp, hr, rfl⟩, rfl, rfl, rfl⟩

/-- The part in READY after a start-up without an image. -/
def up : State := { State.reset with boot := .ready }

/-- A step without flags. -/
def plain (action : StepAction) : Step where
  action       := action
  halt         := false
  note         := false
  fit          := false
  fresh        := false
  strict       := false
  timeoutFault := false

/-- A SEALED list of the steps. -/
def cue (steps : List Step) : ListRec where
  state    := .sealed
  label    := []
  steps    := steps
  derived  := some (footprintOf steps, durationOf steps)
  useCount := 0

/-- An OPEN list of the steps. -/
def opened (steps : List Step) : ListRec := { cue steps with state := .opened, derived := none }

def pair : List Step := [plain (.set 1 1 5), plain (.set 1 0 7)]

/-- The pair is list 0, P0 has the record given with list 0 bound and OUT0 claimed and owned. -/
def stage (steps : List Step) (r : Player) : State :=
  ((up.setList 0 { cue steps with useCount := 1 }).setPlayer 0 { r with boundList := some 0, claimed := 1 }).claimLines 0 1

def inState (state : PlayerState) : Player := { Player.blank with state := state }

/-- P0 RUNNING in the activity. -/
def runs (activity : Activity) (remaining : Nat) : Player :=
  { Player.blank with state := .running, activity := activity, remaining := remaining }

/-- The Timebase RUNNING in the last microsecond of its tick period. -/
def ticking (s : State) : State := { s with tb := { s.tb with state := .running, divider := 999 } }

/-- The same at the last position of a frame of 1000 ticks. -/
def framing (s : State) : State := { ticking s with tb := { (ticking s).tb with position := 999 } }

/-- What a step answers. -/
def after (c : Instr) (s : State) : State :=
  match exec c s with
  | .next t => t
  | .fault _ => s
  | .refused _ => s

/-! ### Steps -/

theorem test_store_info_answers : (after .storeInfo (ask up 0x18 [])).link.replies.map (fun e => e.frame.payload) =
    [[0x00, 0x08, 0x00, 64, 255, 255, 255, 255, 255, 255, 255, 255, 0x00]] := by decide +kernel

theorem test_list_create_opens_the_record : (after .listCreate (ask up 0x10 [5, 0x41])).list 5 =
    { state := .opened, label := [0x41], steps := [], derived := none, useCount := 0 } := by decide +kernel

theorem test_bind_claims :
    let t := after .playerBind (ask (up.setList 0 (cue pair)) 0x20 [0, 0, 1, 0, 0])
    t.owner 0 = some 0 ∧ (t.player 0).state = .bound ∧ (t.list 0).useCount = 1 := by decide +kernel

theorem test_start_now_runs_step_0 :
    let t := after (.playerStart {}) (ask (stage pair (inState .bound)) 0x22 [0, 0, 0, 1, 0xFF])
    (t.player 0).state = .running ∧ (t.player 0).remaining = 5 ∧ t.lines.logical = 1 := by decide +kernel

theorem test_dwell_end_admits_step_1 :
    let t := after (.setDwellEnd 0 {}) (stage pair { runs .stepping 1 with due := true })
    (t.player 0).index = 1 ∧ (t.player 0).remaining = 7 ∧ t.lines.logical = 0 := by decide +kernel

theorem test_timeout_faults :
    let wait : Step := { plain (.waitEdge 0 3) with timeoutFault := true }
    ((after (.waitEdgeTimeout 0 {}) (stage [wait] { runs .edgeWait 1 with due := true })).player 0).faultCause =
      some .waitTimeout := by decide +kernel

theorem test_tick_counts :
    let t := after (.internalTick {}) (ticking (stage pair (runs .stepping 5)))
    t.tb.position = 1 ∧ t.tb.divider = 0 ∧ (t.player 0).remaining = 4 := by decide +kernel

/-- The last microsecond of TICK_DIV makes the tick where no command asks for it, and before it INTERNAL_TICK makes none. -/
theorem test_divider_makes_the_tick :
    let s := ticking (stage pair (runs .stepping 1))
    (s.microsecond.tb.position = 1 ∧ (s.microsecond.player 0).index = 1) ∧
      (after (.internalTick {}) { s with tb := { s.tb with divider := 998 } }).tb.position = 0 := by decide +kernel

/-- One tick ends a phase in P1's turn or leaves it due, as the order says. -/
theorem test_order_says_where_a_phase_ends :
    let s := ticking (stage pair (runs .stepping 1))
    ((after (.internalTick { ends := [0] }) s).player 0).index = 1 ∧
      ((after (.internalTick {}) s).player 0).due = true := by decide +kernel

/-- A tick that comes late to P0 finds it stopped, and its SUPERFRAME replacement commits with P0 BOUND (R100). -/
theorem test_stop_before_a_late_superframe_commits_bound :
    let s := after (.internalTick { lateEvent := [0] })
      (framing (stage pair { runs .stepping 5 with replacement := some (0, .superframe) }))
    let t := after .playerStop (ask s 0x24 [0])
    (s.player 0).owed.isSome = true ∧ (t.player 0).state = .bound ∧ (t.player 0).replacement = none ∧
      (t.player 0).owed = none := by decide +kernel

/-- The byte C5h on the line: start bit low, data bits from the least significant, stop bit high. -/
theorem test_uart_levels :
    uartBits 0xC5 = [false, true, false, true, false, false, false, true, true, true] ∧
      uartByte [false, true, false, true, false, false, false, true, true, false] = some (0xC5, false) := by decide

/-- SYNC_OUT_SRC set to what it is leaves a level high (log 37); set to another it falls. -/
theorem test_equal_source_keeps_the_pulse :
    let s := { up with params := { up.params with syncOutSrc := .frame }, tb := { up.tb with syncOut := true } }
    (after .paramSetSyncOutSrc (ask s 0x49 [7, 0, 0, 1])).tb.syncOut = true ∧
      (after .paramSetSyncOutSrc (ask s 0x49 [7, 0, 0, 2])).tb.syncOut = false := by decide +kernel

/-- At the inter-byte timer's last microsecond the frame is dropped. -/
theorem test_timeout_drops_the_frame :
    let s := { up with link := { up.link with rx := .length, timer := some 4999 } }
    s.microsecond.link.rx = .hunt ∧ (after .linkTimeout s).link.rx = .hunt ∧
      s.microsecond.link.tx.map (fun x => x.frame.kind) = some 0x7E := by decide +kernel

theorem test_safe_enter_freezes :
    let t := after (.safeEnter {}) (ask (stage pair (runs .stepping 5)) 0x40 [])
    t.safe.state = .latched ∧ (t.player 0).state = .held ∧ (t.player 0).remaining = 5 := by decide +kernel

theorem test_first_sample_is_no_edge :
    let t := after (.inputSample 3 true {}) up
    (t.input 3).filtered = true ∧ (t.input 3).pending = false ∧ t.notices.queue = [] := by decide +kernel

theorem test_tb_start_makes_frame_1 :
    let t := after (.tbStart {}) (ask up 0x30 [])
    t.tb.state = .running ∧ t.tb.number = 1 ∧ t.tb.position = 0 := by decide +kernel

theorem test_frame_enters_the_inbox :
    (after (.frameReceived { tag := 0x31, kind := 0x32, payload := [], check := 0x8249 }) up).link.inbox.length = 1 := by
  decide +kernel

theorem test_wrong_check_is_reported :
    let t := after (.frameReceived { tag := 0x31, kind := 0x32, payload := [], check := 0x8248 }) up
    t.link.inbox = [] ∧ t.link.tx.map (fun x => x.frame.kind) = some 0x7E := by decide +kernel

theorem test_image_load_makes_ready :
    let t := after (.imageLoad {}) State.reset
    t.boot = .ready ∧ t.safe.state = .clear ∧ t.link.tx.map (fun x => x.frame.kind) = some 0x70 := by decide +kernel

/-- HOLD_IN goes low between the judgement of it and READY. -/
theorem test_hold_in_is_followed_before_ready :
    let t := after (.holdInChange false {}) (after (.imageLoad { actions := some 3 }) State.reset)
    t.boot ≠ .ready ∧ t.safe.state = .active := by decide +kernel

theorem test_divider_counts_a_microsecond :
    step { up with tb := { up.tb with state := .running } } =
      .next { up with tb := { up.tb with state := .running, divider := 1 } } := by
  show Host.Outcome.next _ = _
  congr 1

theorem test_save_writes_bank_a :
    (after .imageSave (ask up 0x58 [])).image.bankA.state = .writing := by decide +kernel

/-! ### Witnesses: for each statement with hypotheses, states and operands that meet them, clause by clause -/

theorem owes {s : State} (h : decide (∀ p, (s.player p).owed = none) = true) : s.nothingOwed := by
  unfold State.nothingOwed; exact of_decide_eq_true h

theorem dues {s : State} (h : decide (∀ p, (s.player p).due = false) = true) : s.nothingDue := by
  unfold State.nothingDue; exact of_decide_eq_true h

theorem quiets {s : State} (h : decide (s.safe.state = .clear ∧ s.params.faultToSafe = false ∧
    (∀ p, (s.player p).due = false) ∧ ∀ p, (s.player p).owed = none) = true) : s.quiet := by
  unfold State.quiet State.nothingDue State.nothingOwed; exact of_decide_eq_true h

theorem ticks {s : State} (o : Order) (h : decide (s.phase = .live ∧ s.tb.state = .running ∧ s.params.tickSource = .internal ∧
    s.params.tickDiv ≤ s.tb.divider + 1) = true) : s.tickedBy (.internalTick o) o := by
  have h := of_decide_eq_true h
  exact ⟨h.1, h.2.1, .inl ⟨rfl, h.2.2.1, h.2.2.2⟩⟩

theorem supers {s : State} (h1 : s.params.frameLen ≤ s.tb.position + 1) (h2 : (s.tb.index + 1) % s.params.superLen = 0) :
    s.superDue := ⟨h1, h2⟩

theorem plains {s : State} {p : PlayerId} {i : Nat} {lines levels : LineSet} {dwell : BitVec 16} (l : ListId)
    (h : decide ((s.player p).boundList = some l ∧ (s.list l).steps[i]? = some (plain (.set lines levels dwell)) ∧
      dwell ≠ 0) = true) : s.plainAt p i lines levels dwell := by
  have h := of_decide_eq_true h
  exact ⟨l, _, h.1, h.2.1, rfl, h.2.2, rfl, rfl⟩

theorem leads {s : State} {p : PlayerId} {lines levels : LineSet} {dwell : BitVec 16} (l : ListId)
    (h : decide (((s.player p).stopIndex ≠ some (s.player p).index ∧ (s.currentStep p).all (fun st => !st.halt) = true ∧
      (s.player p).holdPending = false) ∧ (s.player p).boundList = some l ∧
      (s.list l).steps[(s.player p).index + 1]? = some (plain (.set lines levels dwell)) ∧ dwell ≠ 0) = true) :
    s.goesOn p lines levels dwell := by
  have h := of_decide_eq_true h
  refine ⟨h.1.1, fun st hs => ?_, h.1.2.2, plains l (decide_eq_true h.2)⟩
  have := h.1.2.1
  simpa [hs] using this

theorem witness_EmptyQueueLetsAMicrosecondPass :
    (({ up with phase := .off } : State).pending = [] ∧ ({ up with phase := .off } : State).phase ≠ .live) ∧
    (let s := ticking up;
      s.pending = [] ∧ s.phase = .live ∧ s.tb.state = .running ∧ s.params.tickSource = .internal ∧
        s.params.tickDiv ≤ s.tb.divider + 1) ∧
    (let s := { up with link := { up.link with rx := .length, timer := some 4999 } };
      s.pending = [] ∧ s.phase = .live ∧ s.link.rx ≠ .hunt ∧ s.link.timer = some 4999 ∧ 5000 ≤ 4999 + 1) ∧
    (let s := { up with
        tb := { up.tb with state := .running, divider := 998 }, link := { up.link with rx := .length, timer := some 4998 } };
      s.pending = [] ∧ s.phase = .live ∧ ¬s.params.tickDiv ≤ s.tb.divider + 1 ∧ ¬5000 ≤ 4998 + 1 ∧ s.nothingDue ∧
        s.nothingOwed ∧ s.safe.state = .clear) :=
  ⟨by decide, by decide, by decide, rfl, rfl, by decide, by decide, dues (by decide +kernel), owes (by decide +kernel), rfl⟩

theorem witness_TakeAnswersAndRecordsItsRequest :
    (takesOf .storeInfo = some (ofKind 0x18) ∧ ofKind 0x18 (req 0x18 []) = true ∧
      (ask up 0x18 []).front (req 0x18 []) []) ∧
    (takesOf .deviceResetWarm = some asksWarm ∧ asksWarm (req 0x61 [0]) = true ∧
      (ask up 0x61 [0]).front (req 0x61 [0]) []) :=
  ⟨⟨rfl, by decide, (asks 0x18 []).1⟩, ⟨rfl, by decide, (asks 0x61 [0]).1⟩⟩

theorem witness_SharedRefusalsComeFirst :
    (takesOf .storeInfo = some (ofKind 0x18) ∧ ofKind 0x18 (req 0x18 []) = true ∧
      ({ ask up 0x18 [] with boot := .booting .values } : State).front (req 0x18 []) [] ∧ (req 0x18 []).kind ≠ 0x60) ∧
    (takesOf .unknownKindRequest = some unknownKind ∧ unknownKind (req 0x62 []) = true ∧
      (ask up 0x62 []).front (req 0x62 []) [] ∧ knownKind (req 0x62 []).kind = false) ∧
    (takesOf .storeInfo = some (ofKind 0x18) ∧ ofKind 0x18 (req 0x18 [0]) = true ∧
      (ask up 0x18 [0]).front (req 0x18 [0]) [] ∧ knownKind 0x18 = true ∧ lengthAllowed 0x18 1 = false) :=
  ⟨⟨rfl, by decide, ⟨rfl, rfl, rfl⟩, by decide⟩, ⟨rfl, by decide, (asks 0x62 []).1, by decide⟩,
    ⟨rfl, by decide, (asks 0x18 [0]).1, by decide, by decide⟩⟩

theorem witness_ListsAreCreatedTruncatedUnsealedAndDeleted :
    ((Asks up 0x10 (finByte (63 : ListId) :: List.replicate 12 0x7E) ∧ (List.replicate 12 (0x7E : Byte)).all printable = true ∧
      up.store.busy = false ∧ (up.list 63).state = .free) ∧
    (let s := up.setList 0 (opened []);
      Asks s 0x10 [0xFF] ∧ (s.list 1).state = .free ∧ ∀ k : ListId, k < 1 → (s.list k).state ≠ .free)) ∧
    (let s := up.setList 0 (opened pair);
      Asks s 0x12 [0, 1] ∧ Asks s 0x12 [0, 2] ∧ Asks s 0x12 [0, 3] ∧ Asks s 0x14 [0] ∧ Asks s 0x15 [0] ∧
        s.store.busy = false ∧ (s.list 0).state = .opened ∧ (s.list 0).steps.length = 2 ∧ (s.list 0).useCount = 0) ∧
    (let s := up.setList 0 (cue pair);
      Asks s 0x14 [0] ∧ s.store.busy = false ∧ (s.list 0).state = .sealed ∧ (s.list 0).useCount = 0) ∧
    (let s := stage pair (inState .bound);
      Asks s 0x14 [0] ∧ Asks s 0x15 [0] ∧ s.store.busy = false ∧ (s.list 0).state = .sealed ∧ 0 < (s.list 0).useCount) ∧
    (Asks up 0x15 [63] ∧ (up.list 63).state = .free) :=
  ⟨⟨⟨asks _ _, by decide +kernel⟩, asks _ _, by decide +kernel⟩, ⟨asks _ _, asks _ _, asks _ _, asks _ _, asks _ _, by decide +kernel⟩, ⟨asks _ _, by decide +kernel⟩,
    ⟨asks _ _, asks _ _, by decide +kernel⟩, asks _ _, by decide +kernel⟩

theorem witness_ListAppendAddsAllOrNothing :
    let full := up.setList 63 (opened (List.replicate 253 (plain (.align 0))));
    (let s := { full with store := { full.store with freeSlots := 2 } };
      Asks s 0x11 (finByte (63 : ListId) :: (pair.map Step.record).flatten) ∧ (∀ st ∈ pair, st.valid = true) ∧
        (s.list 63).state = .opened ∧ (s.list 63).steps.length + pair.length ≤ 255 ∧ pair.length ≤ s.store.freeSlots) ∧
    (let records := pair.map Step.record ++ [List.replicate 12 0];
      Asks full 0x11 (finByte (63 : ListId) :: records.flatten) ∧ (∀ r ∈ records, r.length = 12) ∧
        (records[2]?.bind Step.ofRecord) = none ∧ (∀ j, j < 2 → (records[j]?.bind Step.ofRecord).isSome = true)) ∧
    (let records := (pair ++ [plain (.align 0)]).map Step.record;
      Asks full 0x11 (finByte (63 : ListId) :: records.flatten) ∧ (∀ r ∈ records, (Step.ofRecord r).isSome = true) ∧
        255 < (full.list 63).steps.length + records.length) ∧
    (let s := { full with store := { full.store with freeSlots := 1 } };
      Asks s 0x11 (finByte (63 : ListId) :: (pair.map Step.record).flatten) ∧
        (∀ r ∈ pair.map Step.record, (Step.ofRecord r).isSome = true) ∧
        (s.list 63).steps.length + pair.length ≤ 255 ∧ s.store.freeSlots < pair.length) ∧
    (Asks up 0x11 [] ∧ Asks up 0x11 (63 :: List.replicate 11 0) ∧ ∀ n, 1 ≤ n → n ≤ 16 → 0 ≠ 1 + 12 * n ∧ 12 ≠ 1 + 12 * n) ∧
    (Asks up 0x11 (finByte (63 : ListId) :: (plain (.align 0)).record) ∧ (plain (.align 0)).record.length = 12 * 1 ∧
      (up.list 63).state = .free) ∧
    (let s := up.setList 63 (cue pair);
      Asks s 0x11 (finByte (63 : ListId) :: (plain (.align 0)).record) ∧ (s.list 63).state = .sealed) :=
  ⟨⟨asks _ _, by decide +kernel⟩, ⟨asks _ _, by decide +kernel⟩, ⟨asks _ _, by decide +kernel⟩, ⟨asks _ _, by decide +kernel⟩,
    ⟨asks _ _, asks _ _, by omega⟩, ⟨asks _ _, by decide +kernel⟩, asks _ _, by decide +kernel⟩

theorem witness_ListSealDerivesFootprintAndDuration :
    (let s := up.setList 0 (opened pair);
      Asks s 0x13 [0] ∧ s.store.busy = false ∧ (s.list 0).state = .opened ∧ (s.list 0).steps ≠ []) ∧
    (let s := up.setList 0 (cue pair);
      Asks s 0x13 [0] ∧ (s.list 0).state = .sealed ∧ (s.list 0).derived = some (1, 12)) ∧
    (Asks up 0x13 [0] ∧ (up.list 0).state = .free) ∧
    (let s := up.setList 0 (opened []);
      Asks s 0x13 [0] ∧ (s.list 0).state = .opened ∧ (s.list 0).steps = []) :=
  ⟨⟨asks _ _, by decide +kernel⟩, ⟨asks _ _, by decide +kernel⟩, ⟨asks _ _, by decide +kernel⟩, asks _ _, by decide +kernel⟩

theorem witness_StoreReportsTellTheStore :
    (Asks up 0x16 [63] ∧ Asks up 0x18 [] ∧ up.slotsAccounted) ∧
    (let s := up.setList 0 (opened pair);
      Asks s 0x17 [0, 0, 1] ∧ Asks s 0x17 [0, 1, 16] ∧ (s.list 0).state ≠ .free ∧ 1 < (s.list 0).steps.length) :=
  ⟨⟨asks _ _, asks _ _, by decide +kernel, by decide +kernel, by decide +kernel, fun k img h => by cases k <;> cases h⟩,
    asks _ _, asks _ _, by decide +kernel⟩

theorem witness_StoreBusyRefusesStoreChanges :
    let s := { up with store := { up.store with busy := true } };
    s.store.busy = true ∧ Asks s 0x10 [0xFF] ∧ Asks s 0x10 (finByte (63 : ListId) :: List.replicate 12 0x7E) ∧
      Asks s 0x11 (63 :: (plain (.align 0)).record) ∧ lengthAllowed 0x11 (12 + 1) = true ∧ Asks s 0x12 [0, 0] ∧
      Asks s 0x13 [0] ∧ Asks s 0x14 [0] ∧ Asks s 0x15 [63] ∧ Asks s 0x5B [6, 1] ∧
      Asks s 0x5B ([finByte (5 : PlayerId), finByte (5 : PlayerId), finByte (63 : ListId)] ++ lineBytes 0x800001 ++
        [(StartPoint.input 7).code, 7, 0, 0xFF]) ∧ Asks s 0x5C [0] ∧ Asks s 0x5C [6] ∧ Asks s 0x5C [0xFF] :=
  ⟨rfl, asks _ _, asks _ _, asks _ _, by decide, asks _ _, asks _ _, asks _ _, asks _ _, asks _ _, asks _ _, asks _ _, asks _ _,
    asks _ _⟩

theorem witness_PlayerBindAttachesListAndClaims :
    let s := up.setList 0 (cue pair);
    (Asks s 0x20 (finByte (5 : PlayerId) :: finByte (0 : ListId) :: lineBytes 0x800001) ∧ (s.player 5).state = .idle ∧
      (s.list 0).state = .sealed ∧ (s.list 0).derived = some (1, 12) ∧ (1 : LineSet) &&& ~~~0x800001 = 0 ∧
      ∀ k : LineId, (0x800001 : LineSet).getLsbD k.val = true → s.owner k = none) ∧
    (let s := s.claimLines 2 0x800000;
      Asks s 0x20 (finByte (5 : PlayerId) :: finByte (0 : ListId) :: lineBytes 0x800001) ∧
        (0x800001 : LineSet).getLsbD 23 = true ∧ s.owner 23 = some 2 ∧
        ∀ j : LineId, j < 23 → (0x800001 : LineSet).getLsbD j.val = true → s.owner j = none) :=
  ⟨⟨asks _ _, by decide +kernel⟩, asks _ _, by decide +kernel⟩

theorem witness_PlayerUnbindReturnsToIdleAndReleases :
    (Asks (stage pair (inState .bound)) 0x21 [0] ∧ Asks (stage pair (inState .faulted)) 0x21 [0] ∧
      Asks (stage pair (inState .idle)) 0x21 [0] ∧ Asks (stage pair (inState .armed)) 0x21 [0] ∧
      Asks (stage pair (inState .running)) 0x21 [0] ∧ Asks (stage pair (inState .held)) 0x21 [0] ∧
      ((stage pair (inState .bound)).player 0).state = .bound ∧
      ((stage pair (inState .faulted)).player 0).state = .faulted ∧
      ((stage pair (inState .idle)).player 0).state = .idle ∧ ((stage pair (inState .armed)).player 0).state = .armed ∧
      ((stage pair (inState .running)).player 0).state = .running ∧
      ((stage pair (inState .held)).player 0).state = .held) ∧
    let s := stage pair (inState .bound);
    Asks s 0x21 [0] ∧ s.claimsAgree ∧ (s.player 0).state = .bound ∧ s.owner 0 = some 0 ∧ s.owner 1 ≠ some 0 :=
  ⟨⟨asks _ _, asks _ _, asks _ _, asks _ _, asks _ _, asks _ _, by decide +kernel⟩,
    asks _ _, ⟨by decide +kernel, by decide +kernel⟩, by decide +kernel⟩

theorem witness_PlayerStartBeginsArmsOrQueues :
    ((let s := stage pair (inState .bound);
      Asks s 0x22 [0, 4, 7, 255, 0xFF] ∧ (StartPoint.input 7).code = 4 ∧ StartPoint.input 7 ≠ .now ∧
        s.safe.state = .clear ∧ s.nothingOwed ∧ (s.player 0).state = .bound) ∧
    (let s := stage pair (inState .armed);
      Asks s 0x22 [0, 1, 0, 0, 0] ∧ s.safe.state = .clear ∧ s.nothingOwed ∧ (s.player 0).state = .armed) ∧
    (let s := { up with safe := { up.safe with state := .latched } };
      Asks s 0x22 [0, 0, 0, 0, 0] ∧ s.safe.state ≠ .clear) ∧
    (let s := stage pair (runs .stepping 5);
      Asks s 0x22 [0, 0, 0, 0, 0] ∧ (s.player 0).state = .running ∧ (s.player 0).relaunch = false) ∧
    (let s := stage pair { runs .stepping 5 with relaunch := true };
      Asks s 0x22 [0, 3, 0, 0, 0] ∧ (s.player 0).state = .running ∧ (s.player 0).relaunch = true) ∧
    (Asks up 0x22 [5, 2, 0, 0, 0] ∧ (up.player 5).state = .idle) ∧
    (let s := stage pair (inState .held);
      Asks s 0x22 [0, 0, 0, 0, 0] ∧ (s.player 0).state = .held) ∧
    (let s := stage pair (inState .faulted);
      Asks s 0x22 [0, 0, 0, 0, 0] ∧ (s.player 0).state = .faulted)) ∧
    (let s := stage pair (inState .bound);
      Asks s 0x22 [0, 0, 0, 255, 0xFF] ∧ s.safe.state = .clear ∧ s.nothingOwed ∧ (s.player 0).state = .bound ∧
        (s.player 0).boundList = some 0 ∧ (s.list 0).steps[0]? = some (plain (.set 1 1 5)) ∧
        (s.player 0).passBegun = false) ∧
    (let s := stage pair { inState .armed with passBegun := true };
      Asks s 0x22 [0, 0, 0, 0, 0] ∧ s.safe.state = .clear ∧ (s.player 0).owed = none ∧ (s.player 0).state = .armed ∧
        (s.player 0).passBegun = true) :=
  ⟨⟨⟨asks _ _, rfl, by decide, rfl, owes (by decide +kernel), by decide +kernel⟩,
    ⟨asks _ _, rfl, owes (by decide +kernel), by decide +kernel⟩, ⟨asks _ _, by decide⟩,
    ⟨asks _ _, by decide +kernel⟩, ⟨asks _ _, by decide +kernel⟩, ⟨asks _ _, by decide +kernel⟩,
    ⟨asks _ _, by decide +kernel⟩, asks _ _, by decide +kernel⟩,
    ⟨asks _ _, rfl, owes (by decide +kernel), by decide +kernel⟩, asks _ _, rfl, by decide +kernel⟩

/-- The requests of a player find it in every state. -/
theorem witness_CancelClearHoldAndSetStopMoveTheRecordAlone :
    (∀ state : PlayerState, (∀ kind ∈ ([0x23, 0x25, 0x28] : List Byte), Asks (stage pair (inState state)) kind [0]) ∧
      Asks (stage pair (inState state)) 0x27 [0, 0xFF] ∧ ((stage pair (inState state)).player 0).state = state ∧
      ((stage pair (inState state)).player 0).owed = none ∧
      ((stage pair (inState state)).player 0).holdCause ≠ some .safe) ∧
    (let s := stage pair { inState .held with holdCause := some .safe };
      Asks s 0x25 [0] ∧ (s.player 0).state = .held ∧ (s.player 0).holdCause = some .safe ∧ (s.player 0).owed = none) :=
  ⟨fun state => ⟨fun _ _ => asks _ _, asks _ _, by cases state <;> decide +kernel⟩, asks _ _, by decide +kernel⟩

theorem witness_PlayerStopEndsTheActivity :
    (∀ state : PlayerState, Asks (stage pair (inState state)) 0x24 [0] ∧ ((stage pair (inState state)).player 0).state = state ∧
      ((stage pair (inState state)).player 0).owed = none ∧ ((stage pair (inState state)).player 0).replacement = none) ∧
    (let s := stage pair { runs .stepping 5 with replacement := some (0, .passEnd) };
      Asks s 0x24 [0] ∧ (s.player 0).state = .running ∧ (s.player 0).owed = none ∧
        (s.player 0).replacement = some (0, .passEnd)) :=
  ⟨fun state => ⟨asks _ _, by cases state <;> decide +kernel⟩, asks _ _, by decide +kernel⟩

/-- P0 HELD by SAFE in the activity. -/
def freezes (activity : Activity) : Player := { runs activity 0 with state := .held, holdCause := some .safe }

/-- A plain SET behind the step given. -/
def thenSet (st : Step) : List Step := [st, plain (.set 1 1 5)]

theorem awaits {s : State} {p : PlayerId} {st : Step} {n : InputId} (timeout : BitVec 16)
    (h : decide ((s.player p).activity = .edgeWait ∧ s.currentStep p = some st ∧ st.action = .waitEdge n timeout) = true) :
    s.inWait p st n := by
  have h := of_decide_eq_true h
  exact ⟨h.1, h.2.1, timeout, h.2.2⟩

/-- Input 7 with its latch pending, and doubled or not. -/
def latches (doubled : Bool) (s : State) : State := s.setInput 7 { Input.blank with sampled := true, pending := true, doubled := doubled }

theorem witness_PlayerResumeGoesOnWithAFrozenStep :
    (∀ activity ∈ [Activity.stepping, .pulseWidth, .fitWait],
      let s := stage pair (freezes activity);
      Asks s 0x26 [0] ∧ s.safe.state = .clear ∧ (s.player 0).owed = none ∧ (s.player 0).state = .held ∧
        (s.player 0).activity = activity) ∧
    (let s := stage [plain (.waitEdge 7 0)] (freezes .edgeWait);
      Asks s 0x26 [0] ∧ s.currentStep 0 = some (plain (.waitEdge 7 0)) ∧ (s.input 7).pending = false) ∧
    (let s := framing (stage [plain (.align 0)] (freezes .alignWait));
      Asks s 0x26 [0] ∧ s.currentStep 0 = some (plain (.align 0)) ∧
        ¬(s.tb.state = .running ∧ s.tb.position = (0 : BitVec 16).toNat)) ∧
    (let s := framing (stage (thenSet (plain (.align 999))) (freezes .alignWait));
      Asks s 0x26 [0] ∧ s.currentStep 0 = some (plain (.align 999)) ∧ s.tb.state = .running ∧
        s.tb.position = (999 : BitVec 16).toNat ∧ s.goesOn 0 1 1 5) ∧
    (let s := latches false (stage (thenSet (plain (.waitEdge 7 0))) (freezes .edgeWait));
      Asks s 0x26 [0] ∧ s.currentStep 0 = some (plain (.waitEdge 7 0)) ∧ (s.input 7).pending = true ∧ s.goesOn 0 1 1 5) ∧
    (∀ index ∈ [0, 1],
      let s := stage [plain (.set 1 1 5), plain (.set 1 1 5)] { inState .held with index := index };
      Asks s 0x26 [0] ∧ (s.player 0).activity = .none ∧ (s.player 0).index = index ∧ s.plainAt 0 index 1 1 5) ∧
    (let wait : Step := { plain (.waitEdge 7 0) with strict := true };
      let s := latches true (stage [wait] (freezes .edgeWait));
      Asks s 0x26 [0] ∧ s.currentStep 0 = some wait ∧ (s.input 7).pending = true ∧ (s.input 7).doubled = true ∧
        s.params.faultToSafe = false) ∧
    (∀ state : PlayerState, Asks (stage pair (inState state)) 0x26 [0] ∧
      ((stage pair (inState state)).player 0).state = state ∧ (stage pair (inState state)).safe.state = .clear) ∧
    (let s := { up with safe := { up.safe with state := .active } };
      Asks s 0x26 [0] ∧ s.safe.state ≠ .clear) := by
  refine ⟨fun a h => ⟨asks _ _, rfl, ?_⟩, ⟨asks _ _, by decide +kernel⟩, ⟨asks _ _, by decide +kernel⟩,
    ⟨asks _ _, by decide +kernel, rfl, by decide, leads 0 (by decide +kernel)⟩,
    ⟨asks _ _, by decide +kernel, by decide +kernel, leads 0 (by decide +kernel)⟩, fun i h => ⟨asks _ _, ?_⟩,
    ⟨asks _ _, by decide +kernel⟩, fun state => ⟨asks _ _, by cases state <;> decide +kernel⟩, asks _ _, by decide⟩
  all_goals simp only [List.mem_cons, List.not_mem_nil, or_false] at h
  · rcases h with rfl | rfl | rfl <;> decide +kernel
  · rcases h with rfl | rfl <;> exact ⟨by decide +kernel, by decide +kernel, plains 0 (by decide +kernel)⟩

theorem witness_ReplaceAndWithdrawMoveTheReplacement :
    (∀ state : PlayerState,
      let s := stage pair (inState state);
      Asks s 0x2A [0, 0, 1] ∧ Asks s 0x2B [0] ∧ (s.list 0).state = .sealed ∧ (s.list 0).derived = some (1, 12) ∧
        (1 : LineSet) &&& ~~~(s.player 0).claimed = 0 ∧ (s.player 0).owed = none ∧ (s.player 0).state = state ∧
        (s.player 0).replacement = none) ∧
    (let s := stage pair { runs .stepping 5 with replacement := some (0, .superframe) };
      Asks s 0x2A [0, 0, 0] ∧ Asks s 0x2B [0] ∧ (s.player 0).owed = none ∧ (s.player 0).state = .running ∧
        (s.player 0).replacement = some (0, .superframe)) :=
  ⟨fun state => ⟨asks _ _, asks _ _, by cases state <;> decide +kernel⟩, asks _ _, asks _ _, by decide +kernel⟩

theorem witness_SuperframeStartCommitsTheReplacement :
    let waits := fun r : Player => framing (stage pair { r with replacement := some (0, .superframe) });
    (∀ (o : Order), o ∈ [{}, { startFirst := [0] }] → ∀ state ∈ [PlayerState.running, .held, .bound, .armed],
      ∀ sp ∈ [StartPoint.sync, .frame],
        let s := waits { inState state with startPoint := some sp };
        s.tickedBy (.internalTick o) o ∧ s.quiet ∧ 0 ∉ o.lateEvent ∧ s.superDue ∧
          (s.player 0).replacement = some (0, .superframe) ∧ (s.player 0).state = state ∧
          (s.player 0).startPoint = some sp ∧ s.plainAt 0 0 1 1 5) ∧
    (plain (.set 1 1 5)).plainSet 1 1 5 ∧
    (let s := stage [plain (.pulse 1 1 3 4)] { freezes .pulseWidth with replacement := some (0, .superframe) };
      (s.player 0).replacement = some (0, .superframe) ∧ (s.player 0).state ≠ .running ∧
        (s.player 0).activity = .pulseWidth ∧ s.currentStep 0 = some (plain (.pulse 1 1 3 4))) ∧
    ((waits (inState .bound)).player 0).activity ≠ .pulseWidth := by
  refine ⟨fun o ho state hs sp hp => ?_, ⟨rfl, by decide, rfl, rfl⟩, by decide +kernel, by decide +kernel⟩
  simp only [List.mem_cons, List.not_mem_nil, or_false] at ho hs hp
  refine ⟨ticks o rfl, ?_, ?_, supers (Nat.le_refl 1000) (Nat.mod_one _), ?_⟩
  · rcases hs with rfl | rfl | rfl | rfl <;> rcases hp with rfl | rfl <;> exact quiets (by decide +kernel)
  · rcases ho with rfl | rfl <;> exact (List.not_mem_nil ·)
  · rcases hs with rfl | rfl | rfl | rfl <;> rcases hp with rfl | rfl <;>
      exact ⟨by decide +kernel, by decide +kernel, by decide +kernel, plains 0 (by decide +kernel)⟩

/-- A superframe start owed to a player. -/
def lateStart : Owed where
  event      := { TbEvent.plain 1000 with tick := true, frame := true, super := true }
  lost       := false
  startFirst := false

theorem witness_LateEventReachesThePlayerAfterItsRequest :
    (let o : Order := { lateEvent := [0] };
      let s := framing (stage pair (runs .stepping 5));
      s.tickedBy (.internalTick o) o ∧ s.quiet ∧ 0 ∈ o.lateEvent ∧ (s.player 0).state = .running ∧ s.superDue) ∧
    (let s := stage pair { runs .stepping 5 with replacement := some (0, .superframe), owed := some lateStart };
      Asks s 0x2B [0] ∧ Asks s 0x24 [0] ∧ Asks s 0x25 [0] ∧ s.safe.state = .clear ∧ lateStart.lost = false ∧
        lateStart.event.tick = true ∧ lateStart.event.super = true ∧ (s.player 0).state = .running ∧
        (s.player 0).owed = some lateStart ∧ (s.player 0).replacement = some (0, .superframe) ∧
        (s.player 0).deferred = false ∧ (s.player 0).activity = .stepping ∧ 1 < (s.player 0).remaining ∧
        (s.list 0).steps[0]? = some (plain (.set 1 1 5)) ∧ (plain (.set 1 1 5)).plainSet 1 1 5) :=
  ⟨⟨ticks _ rfl, quiets (by decide +kernel), List.mem_singleton.mpr rfl, by decide +kernel, supers (Nat.le_refl 1000) (Nat.mod_one _)⟩, asks _ _, asks _ _,
    asks _ _, rfl, rfl, rfl, rfl, by decide +kernel, by decide +kernel, by decide +kernel, by decide +kernel,
    by decide +kernel, by decide +kernel, by decide +kernel, rfl, by decide, rfl, rfl⟩

/-- P0 RUNNING at step 0 of the steps with its tick due. -/
def ending (steps : List Step) (activity : Activity) : State := stage steps { runs activity 1 with due := true }

theorem witness_phaseOver :
    (ending pair .stepping).phaseOver (.setDwellEnd 0 {}) 0 {} (plain (.set 1 1 5)) ∧
    (ending [plain (.pulse 1 1 3 4)] .stepping).phaseOver (.pulseDwellEnd 0 {}) 0 {} (plain (.pulse 1 1 3 4)) ∧
    (ending [plain (.waitEdge 0 3)] .edgeWait).phaseOver (.waitEdgeTimeout 0 {}) 0 {} (plain (.waitEdge 0 3)) :=
  ⟨⟨rfl, by decide +kernel, by decide +kernel, by decide +kernel, .inl ⟨rfl, rfl, by decide +kernel⟩⟩,
    ⟨rfl, by decide +kernel, by decide +kernel, by decide +kernel, .inr (.inl ⟨rfl, rfl, by decide +kernel⟩)⟩,
    ⟨rfl, by decide +kernel, by decide +kernel, by decide +kernel, .inr (.inr ⟨rfl, rfl, by decide +kernel, rfl⟩)⟩⟩

/-- The dwell of P0's SET at step 0 is over. -/
theorem dwellOver {s : State} {st : Step} (hp : s.phase = .live) (h : decide ((s.player 0).state = .running ∧
    (s.player 0).due = true ∧ s.currentStep 0 = some st ∧ isSet st.action = true ∧ (s.player 0).activity = .stepping) = true) :
    s.phaseOver (.setDwellEnd 0 {}) 0 {} st := by
  have h := of_decide_eq_true h
  exact ⟨hp, h.1, h.2.1, h.2.2.1, .inl ⟨rfl, h.2.2.2⟩⟩

theorem witness_StepEndMovesToTheNextStep :
    (let s := ending pair .stepping;
      s.phaseOver (.setDwellEnd 0 {}) 0 {} (plain (.set 1 1 5)) ∧ s.safe.state = .clear ∧
        (s.player 0).stopIndex ≠ some (s.player 0).index ∧ (s.player 0).holdPending = false ∧
        (s.player 0).boundList = some 0 ∧ (s.list 0).steps[(s.player 0).index + 1]? = some (plain (.set 1 0 7))) ∧
    (∀ fresh strict doubled : Bool,
      let wait : Step := { plain (.waitEdge 7 3) with fresh := fresh, strict := strict };
      let s := latches doubled (ending [plain (.set 1 1 5), wait, plain (.set 1 0 7)] .stepping);
      s.phaseOver (.setDwellEnd 0 {}) 0 {} (plain (.set 1 1 5)) ∧ s.safe.state = .clear ∧ s.params.faultToSafe = false ∧
        (s.player 0).stopIndex ≠ some (s.player 0).index ∧ (s.player 0).holdPending = false ∧
        (s.player 0).boundList = some 0 ∧ (s.list 0).steps[(s.player 0).index + 1]? = some wait ∧
        (s.input 7).pending = true ∧ (s.input 7).doubled = doubled ∧ (s.player 0).stopIndex ≠ some 1 ∧ s.plainAt 0 2 1 0 7) ∧
    ((ending [plain (.set 1 1 5), plain (.waitEdge 7 3)] .stepping).phaseOver (.setDwellEnd 0 {}) 0 {} (plain (.set 1 1 5)) ∧
      ((ending [plain (.set 1 1 5), plain (.waitEdge 7 3)] .stepping).input 7).pending = false) := by
  refine ⟨⟨witness_phaseOver.1, rfl, by decide +kernel⟩, fun fresh strict doubled => ?_,
    dwellOver rfl (by decide +kernel), by decide +kernel⟩
  cases fresh <;> cases strict <;> cases doubled <;>
    exact ⟨dwellOver rfl (by decide +kernel), rfl, rfl, by decide +kernel, by decide +kernel, by decide +kernel,
      by decide +kernel, by decide +kernel, by decide +kernel, by decide +kernel, plains 0 (by decide +kernel)⟩

theorem witness_StepEndEndsTheRunOrHolds :
    let one := plain (.set 1 1 5);
    let ends := fun (steps : List Step) (r : Player) => stage steps { r with
      state := .running, activity := .stepping, remaining := 1, due := true };
    (let s := ends pair { Player.blank with stopIndex := some 0 };
      s.phaseOver (.setDwellEnd 0 {}) 0 {} one ∧ (s.player 0).boundList = some 0 ∧
        (s.player 0).replacement = none ∧ (s.player 0).relaunch = false ∧ (s.player 0).stopIndex = some (s.player 0).index) ∧
    (let s := ends [one] Player.blank;
      s.phaseOver (.setDwellEnd 0 {}) 0 {} one ∧ (s.player 0).stopIndex ≠ some (s.player 0).index ∧
        (s.list 0).steps.length = (s.player 0).index + 1 ∧ (s.player 0).passLimit ≠ 0 ∧
        (s.player 0).passLimit ≤ ((s.player 0).passCount + 1) % 256) ∧
    (let halt : Step := { one with halt := true };
      let s := ends (halt :: pair) Player.blank;
      s.phaseOver (.setDwellEnd 0 {}) 0 {} halt ∧ (s.player 0).stopIndex ≠ some (s.player 0).index ∧
        (s.player 0).index + 1 < (s.list 0).steps.length ∧ halt.halt = true) ∧
    (let s := ends pair { Player.blank with holdPending := true };
      s.phaseOver (.setDwellEnd 0 {}) 0 {} one ∧ (s.player 0).index + 1 < (s.list 0).steps.length ∧
        (s.player 0).holdPending = true) ∧
    (∀ hold : Bool,
      let s := ends [one] { Player.blank with replacement := some (0, .passEnd), holdPending := hold };
      s.phaseOver (.setDwellEnd 0 {}) 0 {} one ∧ (s.list 0).steps.length = (s.player 0).index + 1 ∧
        (s.player 0).replacement = some (0, .passEnd) ∧ (s.player 0).holdPending = hold ∧
        (s.list 0).steps[0]? = some one ∧ one.plainSet 1 1 5) ∧
    (let s := ends [one] { Player.blank with relaunch := true };
      s.phaseOver (.setDwellEnd 0 {}) 0 {} one ∧ (s.player 0).replacement = none ∧ (s.player 0).relaunch = true) ∧
    (let s := ends [one] { Player.blank with passCount := 255, passLimit := 1 };
      s.phaseOver (.setDwellEnd 0 {}) 0 {} one ∧ (s.player 0).relaunch = false ∧
        ((s.player 0).passCount + 1) % 256 < (s.player 0).passLimit) :=
  ⟨⟨dwellOver rfl (by decide +kernel), by decide +kernel⟩, ⟨dwellOver rfl (by decide +kernel), by decide +kernel⟩,
    ⟨dwellOver rfl (by decide +kernel), by decide +kernel⟩, ⟨dwellOver rfl (by decide +kernel), by decide +kernel⟩,
    fun hold => ⟨dwellOver rfl (by cases hold <;> decide +kernel), by cases hold <;> decide +kernel,
      by cases hold <;> decide +kernel, by cases hold <;> decide +kernel, by cases hold <;> decide +kernel, rfl, by decide, rfl,
      rfl⟩,
    ⟨dwellOver rfl (by decide +kernel), by decide +kernel⟩, dwellOver rfl (by decide +kernel), by decide +kernel⟩

/-- A WAIT_EDGE with TIMEOUT_FAULT. -/
def faulting : Step := { plain (.waitEdge 0 3) with timeoutFault := true }

/-- P0 and P1 at the end of such a wait's timeout, with FAULT_TO_SAFE or without it. -/
def timeouts (toSafe : Bool) : State :=
  let s := ending [faulting] .edgeWait
  { s.setPlayer 1 { s.player 0 with claimed := 0 } with params := { s.params with faultToSafe := toSafe } }

theorem witness_TrailingEdgeWritesAndTimeoutFaults :
    (let s := ending [plain (.pulse 1 1 3 4)] .pulseWidth;
      s.phase = .live ∧ (s.player 0).state = .running ∧ (s.player 0).due = true ∧ (s.player 0).activity = .pulseWidth ∧
        s.currentStep 0 = some (plain (.pulse 1 1 3 4)) ∧ s.safe.state = .clear) ∧
    (∀ toSafe, ∀ p ∈ ([0, 1] : List PlayerId),
      (timeouts toSafe).phase = .live ∧ ((timeouts toSafe).player p).state = .running ∧
        ((timeouts toSafe).player p).due = true ∧ ((timeouts toSafe).player p).activity = .edgeWait ∧
        (timeouts toSafe).currentStep p = some faulting ∧ isWait faulting.action = true ∧ faulting.timeoutFault = true ∧
        (timeouts toSafe).safe.state = .clear ∧ (timeouts toSafe).params.faultToSafe = toSafe) ∧
    ((1 : PlayerId) ≠ 0 ∧ ({ late := [1] } : Order).late = [1]) ∧
    ({ up with safe := { up.safe with state := .latched } } : State).safe.state ≠ .clear := by
  refine ⟨by decide +kernel, fun toSafe p hp => ?_, ⟨by decide, rfl⟩, by decide⟩
  simp only [List.mem_cons, List.not_mem_nil, or_false] at hp
  rcases hp with rfl | rfl <;> cases toSafe <;> decide +kernel

theorem witness_FitStepBeginsWaitsOrFaults :
    (∀ n ∈ ([1000, 1001] : List (BitVec 16)), ∀ action ∈ [StepAction.set 1 1 n, .pulse 1 1 n 0], ∀ running : Bool,
      let next : Step := { plain action with fit := true };
      let s0 := ending [plain (.set 1 1 5), next] .stepping;
      let s := if running then ticking s0 else s0;
      s.phaseOver (.setDwellEnd 0 {}) 0 {} (plain (.set 1 1 5)) ∧ s.safe.state = .clear ∧
        (s.player 0).stopIndex ≠ some (s.player 0).index ∧ (s.player 0).holdPending = false ∧
        (s.player 0).boundList = some 0 ∧ (s.list 0).steps[(s.player 0).index + 1]? = some next ∧ n ≠ 0 ∧
        (s.params.frameLen < n.toNat + 0 + s.params.fitMargin ↔ n = 1001) ∧
        (s.tb.state = .running ∧ 1000 ≤ s.params.frameLen - s.tb.position ↔ running = true) ∧
        s.params.faultToSafe = false) ∧
    (∀ n ∈ ([1000, 1001] : List (BitVec 16)), ∀ edge : Bool,
      let st : Step := { plain (.set 1 1 n) with fit := true };
      let s0 := stage [st] (runs .fitWait 0);
      let s := if edge then framing s0 else ticking s0;
      s.tickedBy (.internalTick {}) {} ∧ s.quiet ∧ (s.player 0).commitsSuper = false ∧ (s.player 0).state = .running ∧
        (s.player 0).deferred = false ∧ (s.player 0).activity = .fitWait ∧ s.currentStep 0 = some st ∧
        (s.frameDue ↔ edge = true) ∧ (s.nextFrameLen < n.toNat + 0 + s.params.fitMargin ↔ n = 1001)) := by
  constructor
  · intro n hn action ha running
    simp only [List.mem_cons, List.not_mem_nil, or_false] at hn ha
    rcases hn with rfl | rfl <;> rcases ha with rfl | rfl <;> cases running <;>
      exact ⟨dwellOver rfl (by decide +kernel), by decide +kernel⟩
  · intro n hn edge
    simp only [List.mem_cons, List.not_mem_nil, or_false] at hn
    rcases hn with rfl | rfl <;> cases edge <;>
      exact ⟨ticks _ (by decide +kernel), quiets (by decide +kernel), by unfold State.frameDue; decide +kernel⟩

theorem witness_AlignStepEndsAtItsOffset :
    (∀ offset ∈ ([0, 1] : List (BitVec 16)),
      let s := ticking (ending [plain (.set 1 1 5), plain (.align offset), plain (.set 1 0 7)] .stepping);
      s.phaseOver (.setDwellEnd 0 {}) 0 {} (plain (.set 1 1 5)) ∧ s.safe.state = .clear ∧
        (s.list 0).steps[(s.player 0).index + 1]? = some (plain (.align offset)) ∧
        (s.tb.state = .running ∧ s.tb.position = offset.toNat ↔ offset = 0) ∧ s.plainAt 0 ((s.player 0).index + 2) 1 0 7) ∧
    (∀ offset ∈ ([0, 1, 999, 1000] : List (BitVec 16)), ∀ edge : Bool,
      let s0 := stage (thenSet (plain (.align offset))) (runs .alignWait 0);
      let s := if edge then framing s0 else ticking s0;
      s.tickedBy (.internalTick {}) {} ∧ s.quiet ∧ s.goesOn 0 1 1 5 ∧ (s.player 0).state = .running ∧
        (s.player 0).deferred = false ∧ (s.player 0).activity = .alignWait ∧ s.currentStep 0 = some (plain (.align offset)) ∧
        (((if s.params.frameLen ≤ s.tb.position + 1 then 0 else s.tb.position + 1) = offset.toNat ∨
            (s.params.frameLen ≤ s.tb.position + 1 ∧ s.params.frameLen ≤ offset.toNat)) ↔
          if edge then offset = 0 ∨ offset = 1000 else offset = 1)) ∧
    (∀ offset ∈ ([0, 1] : List (BitVec 16)),
      let s0 := stage (thenSet (plain (.align offset))) (runs .alignWait 0);
      let s := { s0 with tb := { s0.tb with state := .paused }, params := { s0.params with syncMode := .gated } };
      s.phase = .live ∧ true ≠ s.tb.syncIn ∧ s.syncActive true = true ∧ s.tb.state = .paused ∧ s.params.syncMode = .gated ∧
        s.quiet ∧ s.goesOn 0 1 1 5 ∧ (s.tb.position = offset.toNat ↔ offset = 0)) := by
  refine ⟨fun offset ho => ?_, fun offset ho edge => ?_, fun offset ho => ?_⟩
  all_goals simp only [List.mem_cons, List.not_mem_nil, or_false] at ho
  · rcases ho with rfl | rfl <;>
      exact ⟨dwellOver rfl (by decide +kernel), rfl, by decide +kernel, by decide +kernel, plains 0 (by decide +kernel)⟩
  · rcases ho with rfl | rfl | rfl | rfl <;> cases edge <;>
      exact ⟨ticks _ (by decide +kernel), quiets (by decide +kernel), leads 0 (by decide +kernel), by decide +kernel⟩
  · rcases ho with rfl | rfl <;>
      exact ⟨rfl, by decide, rfl, rfl, rfl, quiets (by decide +kernel), leads 0 (by decide +kernel), by decide +kernel⟩

/-- P0 armed on the start point. -/
def armedOn (sp : StartPoint) : State := stage pair { inState .armed with startPoint := some sp }

theorem witness_ArmedPlayerBeginsAtItsStartPoint :
    (∀ sp ∈ [StartPoint.frame, .superframe, .sync], ∀ edge : Bool,
      let s := if edge then framing (armedOn sp) else ticking (armedOn sp);
      s.tickedBy (.internalTick {}) {} ∧ s.quiet ∧ (s.player 0).commitsSuper = false ∧ (s.player 0).state = .armed ∧
        (s.player 0).startPoint = some sp ∧ s.plainAt 0 0 1 1 5 ∧ (s.params.frameLen ≤ s.tb.position + 1 ↔ edge = true)) ∧
    (let s0 := framing (armedOn .frame);
      let s := { s0 with params := { s0.params with syncMode := .aligned } };
      s.quiet ∧ s.phase = .live ∧ true ≠ s.tb.syncIn ∧ s.syncActive true = true ∧ s.tb.state = .running ∧
        s.params.syncMode = .aligned ∧ s.tb.position ≠ 0 ∧ (s.player 0).startPoint = some .frame ∧ s.plainAt 0 0 1 1 5) ∧
    (let s0 := armedOn .superframe;
      let s := { s0 with tb := { s0.tb with state := .awaitSync }, params := { s0.params with syncMode := .triggered } };
      s.quiet ∧ s.tb.state = .awaitSync ∧ s.params.syncMode = .triggered ∧ (s.player 0).startPoint = some .superframe) ∧
    (let s0 := armedOn (.input 7);
      let s := { s0 with params := { s0.params with inEdge := s0.params.inEdge.set 7 .rise } };
      s.quiet ∧ (s.player 0).startPoint = some (.input 7) ∧ (s.inEdge 7).selects (!(s.input 7).filtered) = true) := by
  refine ⟨fun sp hs edge => ?_, ⟨quiets (by decide +kernel), rfl, by decide, rfl, rfl, rfl, by decide, by decide +kernel,
    plains 0 (by decide +kernel)⟩, ⟨quiets (by decide +kernel), rfl, rfl, by decide +kernel⟩, quiets (by decide +kernel),
    by decide +kernel⟩
  simp only [List.mem_cons, List.not_mem_nil, or_false] at hs
  rcases hs with rfl | rfl | rfl <;> cases edge <;>
    exact ⟨ticks _ (by decide +kernel), quiets (by decide +kernel), by decide +kernel, by decide +kernel, by decide +kernel,
      plains 0 (by decide +kernel), by decide +kernel⟩

/-- The Timebase in a state and a mode. -/
def based (state : TbState) (mode : SyncMode) : State :=
  { up with tb := { up.tb with state := state }, params := { up.params with syncMode := mode } }

theorem witness_TbStartStartsInItsMode_and_TbStopStopsAndKeepsTheNumber :
    (∀ mode, Asks (based .stopped mode) 0x30 [] ∧ Asks (based .stopped mode) 0x31 [] ∧
      (based .stopped mode).tb.state = .stopped ∧ (based .stopped mode).params.syncMode = mode ∧
      (based .stopped mode).nothingDue ∧ (based .stopped mode).nothingOwed ∧ (based .stopped mode).safe.state = .clear) ∧
    ∀ state ∈ [TbState.awaitSync, .running, .paused],
      Asks (based state .free) 0x30 [] ∧ Asks (based state .free) 0x31 [] ∧ (based state .free).tb.state ≠ .stopped := by
  refine ⟨fun mode => ⟨asks _ _, asks _ _, rfl, rfl, dues (by cases mode <;> decide +kernel),
    owes (by cases mode <;> decide +kernel), rfl⟩, fun state h => ⟨asks _ _, asks _ _, ?_⟩⟩
  simp only [List.mem_cons, List.not_mem_nil, or_false] at h
  rcases h with rfl | rfl | rfl <;> decide

theorem witness_TickAdvancesPositionOrStartsAFrame :
    ((ticking up).phase = .live ∧ (ticking up).tickedBy (.internalTick {}) {} ∧
      (ticking up).tb.position + 1 < (ticking up).params.frameLen) ∧
    ((framing up).tickedBy (.internalTick {}) {} ∧ (framing up).params.frameLen ≤ (framing up).tb.position + 1 ∧
      ((framing up).tb.index + 1) % (framing up).params.superLen = 0 ∧ (framing up).timerExpires = false) ∧
    (let s := { framing up with params := { up.params with superLen := 2, tickSource := .tickIn } };
      s.tickedBy (.tickInEdge {}) {} ∧ s.params.frameLen ≤ s.tb.position + 1 ∧ (s.tb.index + 1) % s.params.superLen ≠ 0) ∧
    (up.phase = .live ∧ up.tb.state ≠ .running) ∧
    (let s := { up with tb := { up.tb with state := .running, divider := 998 } };
      s.tb.divider + 1 < s.params.tickDiv ∧ s.params.tickSource ≠ .tickIn) :=
  ⟨⟨rfl, ticks _ rfl, by decide⟩, ⟨ticks _ rfl, by decide⟩, ⟨⟨rfl, rfl, .inr ⟨rfl, rfl⟩⟩, by decide⟩, by decide, by decide⟩

theorem witness_TickCountsThePhaseOfARunningPlayer :
    (∀ n ∈ [1, 2], ∀ (o : Order), o ∈ [{}, { ends := [0] }] →
      let s := framing (stage [plain (.set 1 1 5), plain (.set 1 1 5)] (runs .stepping n));
      s.tickedBy (.internalTick o) o ∧ s.quiet ∧ 0 ∉ o.lateEvent ∧ (s.player 0).commitsSuper = false ∧
        (s.player 0).state = .running ∧ (s.player 0).deferred = false ∧ (s.player 0).activity = .stepping ∧
        (s.player 0).remaining = n ∧ s.currentStep 0 = some (plain (.set 1 1 5)) ∧ s.goesOn 0 1 1 5) ∧
    (let s := ticking (stage (thenSet (plain (.waitEdge 7 3))) (runs .edgeWait 1));
      s.quiet ∧ (s.player 0).activity = .edgeWait ∧ (s.player 0).remaining = 1 ∧ s.goesOn 0 1 1 5) ∧
    (let s := ticking (stage [plain (.pulse 1 1 3 4)] (runs .pulseWidth 1));
      s.quiet ∧ (s.player 0).activity = .pulseWidth ∧ s.currentStep 0 = some (plain (.pulse 1 1 3 4))) ∧
    (let s := ticking (stage [plain (.waitEdge 7 0)] (runs .edgeWait 0));
      s.quiet ∧ (s.player 0).activity = .edgeWait ∧ (s.player 0).remaining = 0) ∧
    (let s := ticking (stage pair { runs .stepping 0 with deferred := true, passBegun := true });
      s.quiet ∧ (s.player 0).state = .running ∧ (s.player 0).deferred = true ∧ (s.player 0).index = 0 ∧ s.plainAt 0 0 1 1 5) ∧
    (up.player 5).state = .idle := by
  refine ⟨fun n hn o ho => ?_, ⟨quiets (by decide +kernel), by decide +kernel, by decide +kernel, leads 0 (by decide +kernel)⟩,
    ⟨quiets (by decide +kernel), by decide +kernel⟩, ⟨quiets (by decide +kernel), by decide +kernel⟩,
    ⟨quiets (by decide +kernel), by decide +kernel, by decide +kernel, by decide +kernel, plains 0 (by decide +kernel)⟩,
    by decide +kernel⟩
  simp only [List.mem_cons, List.not_mem_nil, or_false] at hn ho
  refine ⟨ticks o rfl, ?_, ?_, ?_⟩
  · rcases hn with rfl | rfl <;> exact quiets (by decide +kernel)
  · rcases ho with rfl | rfl <;> exact (List.not_mem_nil ·)
  · rcases hn with rfl | rfl <;>
      exact ⟨by decide +kernel, by decide +kernel, by decide +kernel, by decide +kernel, by decide +kernel, by decide +kernel,
        leads 0 (by decide +kernel)⟩

theorem witness_SyncInEdgeActsAsStateAndModeGive :
    (up.phase = .live ∧ false = up.tb.syncIn) ∧ ({ up with phase := .held } : State).phase ≠ .live ∧
    (∀ state mode, (based state mode).phase = .live ∧ true ≠ (based state mode).tb.syncIn ∧
      (based state mode).syncActive true = true ∧ (based state mode).tb.state = state ∧
      (based state mode).params.syncMode = mode) ∧
    (let s := { based .running .gated with tb := { (based .running .gated).tb with syncIn := true } };
      false ≠ s.tb.syncIn ∧ s.syncActive false = false ∧ s.tb.state = .running ∧ s.params.syncMode = .gated) ∧
    (let s := { based .running .aligned with tb := { (based .running .aligned).tb with position := 999 } };
      true ≠ s.tb.syncIn ∧ s.syncActive true = true ∧ s.tb.position ≠ 0) ∧
    (let s := { based .running .aligned with tb := { (based .running .aligned).tb with index := 1, pendFrameLen := some 16 } };
      true ≠ s.tb.syncIn ∧ s.syncActive true = true ∧ s.tb.position = 0 ∧ s.tb.index ≠ 0 ∧ s.commitChanges = true ∧ s.quiet) :=
  ⟨by decide, by decide, fun _ _ => ⟨rfl, (by decide : true ≠ false), rfl, rfl, rfl⟩, by decide, by decide,
    by decide, by decide, by decide, by decide, by decide, quiets (by decide +kernel)⟩

/-- STARTED, then COMMIT, then the SUPERFRAME notice of a triggered start (R43; log 20). -/
theorem test_triggered_start_reports_its_commit :
    let s := based .awaitSync .triggered;
    ((after (.syncInEdge true {}) { s with
        tb := { s.tb with pendFrameLen := some 16 }
        params := { s.params with noticeMask := 0x7FFF }
        link := { s.link with tx := some { source := .notice, frame := req 0 [] } } }).notices.queue.map Notice.body) =
      s.notices.queue.map Notice.body ++ [.timebase .started .running .triggered 16 s.params.superLen none,
        .timebase .commit .running .triggered 16 s.params.superLen none, .superframe] := by decide +kernel

/-- The part with SYNC_OUT following the source. -/
def sourced (src : SyncOutSrc) (s : State) : State := { s with params := { s.params with syncOutSrc := src } }

theorem witness_SyncOutFollowsItsSource :
    (∀ src, (sourced src (framing up)).tickedBy (.internalTick {}) {} ∧ (sourced src (ticking up)).tickedBy (.internalTick {}) {} ∧
      (sourced src up).params.syncOutSrc = src) ∧
    (∀ src, Asks (sourced src up) 0x30 [] ∧ (sourced src up).tb.state = .stopped ∧
      (sourced src up).params.syncMode ≠ .triggered ∧ (sourced src up).tb.syncOut = false) ∧
    (Asks (based .running .free) 0x31 [] ∧ (based .running .free).tb.state ≠ .stopped ∧
      ∀ p, (based .running .free).params.syncOutSrc ≠ .note p) ∧
    (let s0 := based .running .aligned;
      let s := { s0 with tb := { s0.tb with index := 1 } };
      s.phase = .live ∧ true ≠ s.tb.syncIn ∧ s.syncActive true = true ∧ s.tb.position = 0 ∧ s.tb.index ≠ 0) ∧
    (let s0 := based .running .aligned;
      let s := { s0 with tb := { s0.tb with position := 999 } };
      s.phase = .live ∧ true ≠ s.tb.syncIn ∧ s.syncActive true = true ∧ s.tb.position ≠ 0) ∧
    (let s0 := based .running .gated;
      let s := { s0 with tb := { s0.tb with syncIn := true } };
      false ≠ s.tb.syncIn ∧ s.syncActive false = false ∧ s.tb.state = .running ∧ s.params.syncMode = .gated) ∧
    (let next : Step := { plain (.set 1 0 7) with note := true };
      let s := sourced (.note 0) (ending [plain (.set 1 1 5), next] .stepping);
      s.phaseOver (.setDwellEnd 0 {}) 0 {} (plain (.set 1 1 5)) ∧ s.safe.state = .clear ∧
        (s.player 0).stopIndex ≠ some (s.player 0).index ∧ (s.player 0).holdPending = false ∧
        (s.player 0).boundList = some 0 ∧ (s.list 0).steps[(s.player 0).index + 1]? = some next ∧
        s.params.syncOutSrc = .note 0) :=
  ⟨fun _ => ⟨ticks _ rfl, ticks _ rfl, rfl⟩, fun _ => ⟨asks _ _, rfl, (by decide : SyncMode.free ≠ .triggered), rfl⟩,
    ⟨asks _ _, by decide, by decide⟩, by decide, by decide, by decide, dwellOver rfl (by decide +kernel), by decide +kernel⟩

theorem witness_LinesAreDrivenPresentedAndReported :
    (Asks up 0x38 (lineBytes 1 ++ lineBytes 2) ∧ (2 : LineSet) &&& ~~~1 ≠ 0) ∧
    (let s := up.claimLines 5 0x800000;
      Asks s 0x38 (lineBytes 0x800001 ++ lineBytes 1) ∧ (1 : LineSet) &&& ~~~0x800001 = 0 ∧
        (0x800001 : LineSet).getLsbD 23 = true ∧ s.owner 23 = some 5 ∧
        ∀ j : LineId, j < 23 → (0x800001 : LineSet).getLsbD j.val = true → s.owner j = none) ∧
    (Asks up 0x38 (lineBytes 0xFFFFFF ++ lineBytes 0x800001) ∧ (0x800001 : LineSet) &&& ~~~0xFFFFFF = 0 ∧
      ∀ k : LineId, (0xFFFFFF : LineSet).getLsbD k.val = true → up.owner k = none) ∧
    (Asks up 0x39 [] ∧ up.phase = .live ∧ up.safe.state = .clear) ∧
    (let s := { up with safe := { up.safe with state := .latched } };
      s.phase = .live ∧ s.safe.state ≠ .clear) ∧
    (({ up with phase := .held } : State).phase = .held ∧ up.link.tx = none) ∧
    (let f := req 0x18 [];
      let s := { up with link := { up.link with tx := some { source := .reply, frame := f } } };
      s.phase = .live ∧ s.link.tx = some { source := .reply, frame := f } ∧ (frameBytes f)[0]? = some 0xA5 ∧
        10 * (frameBytes f).length ≤ 60 ∧ (frameBytes f)[5]?.isSome = true) :=
  ⟨⟨asks _ _, by decide⟩, ⟨asks _ _, by decide +kernel⟩, ⟨asks _ _, by decide +kernel⟩, ⟨asks _ _, rfl, rfl⟩, by decide, by decide,
    by decide +kernel⟩

/-- An input with its latch pending. -/
def latched (n : InputId) : State := up.setInput n { Input.blank with sampled := true, pending := true }

theorem witness_InputReadReportsAndConsumes :
    Asks up 0x3A [8, 0] ∧ Asks up 0x3A [7, 2] ∧ (7 : Byte) = finByte (7 : InputId) ∧
      (Asks (latched 7) 0x3A [7, 1] ∧ ((latched 7).input 7).pending = true) ∧ Asks up 0x3A [7, 0] ∧
      (Asks up 0x3A [7, 1] ∧ (up.input 7).pending = false) :=
  ⟨asks _ _, asks _ _, by decide, ⟨asks _ _, by decide +kernel⟩, asks _ _, asks _ _, by decide +kernel⟩

theorem witness_SamplesFilterAndLatchEdges :
    (up.phase = .live ∧ (up.input 7).sampled = false) ∧
    (((latched 7).input 7).sampled = true ∧ false = ((latched 7).input 7).filtered ∧
      true ≠ ((latched 7).input 7).filtered ∧ ((latched 7).input 7).candidate + 1 < (latched 7).inFilter 7 + 1) ∧
    (let s := (latched 7).setInput 7 { (latched 7).input 7 with candidate := 3 };
      (s.input 7).sampled = true ∧ s.inFilter 7 + 1 ≤ (s.input 7).candidate + 1) ∧
    (up.safeSound ∧ up.nothingOwed ∧ up.inEdge 7 = .off) ∧
    (let s := { up with params := { up.params with inEdge := up.params.inEdge.set 7 .rise } };
      s.safeSound ∧ s.nothingOwed ∧ s.inEdge 7 = .rise ∧ (s.input 7).filtered = false ∧ ∀ p, s.consumes 7 p = false) ∧
    (let s0 := stage [plain (.waitEdge 7 0)] (runs .edgeWait 0);
      let s := { s0 with params := { s0.params with inEdge := s0.params.inEdge.set 7 .both } };
      s.safeSound ∧ s.nothingOwed ∧ s.inEdge 7 = .both ∧ s.consumes 7 0 = true) ∧
    (∀ doubled : Bool,
      let wait : Step := { plain (.waitEdge 7 0) with strict := doubled };
      let s0 := stage (thenSet wait) (runs .edgeWait 0);
      let s := { (if doubled then latches true s0 else s0) with
        params := { s0.params with inEdge := s0.params.inEdge.set 7 .both } };
      s.phase = .live ∧ s.quiet ∧ (s.player 0).state = .running ∧ s.inWait 0 wait 7 ∧
        (s.inEdge 7).selects (!(s.input 7).filtered) = true ∧ ((s.input 7).pending || (s.input 7).doubled) = doubled ∧
        s.goesOn 0 1 1 5 ∧ ∀ p', p' ≠ 0 → s.consumes 7 p' = false) := by
  refine ⟨by decide +kernel, by decide +kernel, by decide +kernel, ⟨?_, owes (by decide +kernel), by decide +kernel⟩,
    ⟨?_, owes (by decide +kernel), by decide +kernel⟩, ⟨?_, owes (by decide +kernel), by decide +kernel⟩, fun doubled => ?_⟩
  · unfold State.safeSound; decide +kernel
  · unfold State.safeSound; decide +kernel
  · unfold State.safeSound; decide +kernel
  · cases doubled <;>
      exact ⟨rfl, quiets (by decide +kernel), by decide +kernel, awaits 0 (by decide +kernel), by decide +kernel,
        by decide +kernel, leads 0 (by decide +kernel), by decide +kernel⟩

/-- The part in a safe state with the causes. -/
def guarded (state : SafeState) (causes : Causes) : State :=
  { up with safe := { up.safe with state := state, causes := causes, holdActive := decide (state = .active) } }

theorem witness_SafeEnterFreezesAndReleaseClears :
    (Asks up 0x40 [] ∧ up.safe.state = .clear ∧ Asks up 0x41 []) ∧
    (let s := guarded .latched { Causes.empty with request := true };
      Asks s 0x40 [] ∧ s.safe.state ≠ .clear ∧ s.safe.causes.request = true ∧
        Asks s 0x41 [] ∧ s.safe.state = .latched ∧ s.params.autoResume = false) ∧
    (let s := guarded .active { Causes.empty with holdLine := true };
      Asks s 0x40 [] ∧ s.safe.state ≠ .clear ∧ s.safe.causes.request = false ∧ Asks s 0x41 [] ∧ s.safe.state = .active) ∧
    (∀ index ∈ [0, 1], ∀ activity ∈ [Activity.stepping, .none],
      let s0 := stage [plain (.set 1 1 5), plain (.set 1 1 5)] { freezes activity with index := index };
      let s := { s0 with safe := { s0.safe with state := .latched }, params := { s0.params with autoResume := true } };
      Asks s 0x41 [] ∧ s.safe.state = .latched ∧ s.params.autoResume = true ∧ s.params.faultToSafe = false ∧
        (s.player 0).heldSafe = true ∧ (s.player 1).heldSafe = false ∧ (s.player 0).activity = activity ∧
        (s.player 0).index = index ∧ s.plainAt 0 index 1 1 5) := by
  refine ⟨⟨asks _ _, rfl, asks _ _⟩, ⟨asks _ _, by decide, rfl, asks _ _, rfl, rfl⟩, ⟨asks _ _, by decide, rfl, asks _ _, rfl⟩,
    fun i hi a ha => ?_⟩
  simp only [List.mem_cons, List.not_mem_nil, or_false] at hi ha
  rcases hi with rfl | rfl <;> rcases ha with rfl | rfl <;>
    exact ⟨asks _ _, rfl, rfl, rfl, by decide +kernel, by decide +kernel, by decide +kernel, by decide +kernel,
      plains 0 (by decide +kernel)⟩

/-- P0 frozen in a STRICT WAIT_EDGE whose latch is pending, doubled or not, with a SUPERFRAME replacement, before the superframe start
that releases a safe state held by HOLD_IN alone and resumes it. -/
def frozenWait (doubled : Bool) : State :=
  let s := framing (latches doubled (stage [plain (.set 1 1 5), { plain (.waitEdge 7 0) with strict := true }, plain (.set 1 0 7)]
    { freezes .edgeWait with index := 1, replacement := some (0, .superframe) }))
  { s with
    safe := { s.safe with state := .latched, causes := { Causes.empty with holdLine := true } }
    params := { s.params with autoRelease := true, autoResume := true } }

/-- Whichever of release and commit acts first, the player is RUNNING at step 0 of the new list and the latch of its frozen wait stays,
though the wait be STRICT and the latch doubled (R97, R101; log 41). -/
theorem test_release_and_commit_have_one_outcome :
    ∀ o ∈ [({ first := [.safeUnit] } : Order), {}],
      let t := after (.internalTick o) (frozenWait true);
      (t.player 0).state = .running ∧ (t.player 0).index = 0 ∧ (t.player 0).replacement = none ∧
        t.input 7 = (frozenWait true).input 7 := by decide +kernel

theorem witness_SuperframeStartReleasesTheSafeState :
    (∀ resume : Bool, ∀ replacement ∈ [none, some ((0 : ListId), CommitPoint.superframe)],
      let s0 := framing (stage pair { freezes .stepping with replacement := replacement });
      let s := { s0 with
        safe := { s0.safe with state := .latched, causes := { Causes.empty with holdLine := true } }
        params := { s0.params with autoRelease := true, autoResume := resume } };
      s.tickedBy (.internalTick {}) {} ∧ s.params.frameLen ≤ s.tb.position + 1 ∧
        (s.tb.index + 1) % s.params.superLen = 0 ∧ s.safe.state ≠ .clear ∧
        (∀ p, (s.player p).state ≠ .running ∧ (s.player p).state ≠ .armed) ∧ s.params.faultToSafe = false ∧ s.nothingDue ∧
        s.nothingOwed ∧ (s.player 0).heldSafe = true ∧ (s.player 1).heldSafe = false ∧
        (s.player 0).replacement = replacement ∧ (s.player 0).activity = .stepping ∧
        (s.list 0).steps[0]? = some (plain (.set 1 1 5)) ∧ (plain (.set 1 1 5)).plainSet 1 1 5) ∧
    (let s := framing (guarded .latched { Causes.empty with request := true });
      s.tickedBy (.internalTick {}) {} ∧ s.safe.causes ≠ { Causes.empty with holdLine := true }) ∧
    (∀ doubled : Bool,
      let s := frozenWait doubled;
      s.tickedBy (.internalTick {}) {} ∧ s.safe.state ≠ .clear ∧
        (∀ p, (s.player p).state ≠ .running ∧ (s.player p).state ≠ .armed) ∧ s.params.faultToSafe = false ∧ s.nothingDue ∧
        s.nothingOwed ∧ s.params.autoResume = true ∧ (s.player 0).heldSafe = true ∧
        (s.player 0).replacement = some (0, .superframe) ∧ s.inWait 0 { plain (.waitEdge 7 0) with strict := true } 7 ∧
        (s.input 7).pending = true ∧ (s.input 7).doubled = doubled ∧ (∀ p', p' ≠ 0 → (s.player p').heldSafe = false) ∧
        (s.list 0).steps[0]? = some (plain (.set 1 1 5))) := by
  refine ⟨fun resume replacement hr => ?_, ⟨ticks _ rfl, by decide⟩, fun doubled => ?_⟩
  rotate_left
  · cases doubled <;>
      exact ⟨ticks _ rfl, by decide, by decide +kernel, rfl, dues (by decide +kernel), owes (by decide +kernel), rfl,
        by decide +kernel, by decide +kernel, awaits 0 (by decide +kernel), by decide +kernel, by decide +kernel,
        by decide +kernel, by decide +kernel⟩
  simp only [List.mem_cons, List.not_mem_nil, or_false] at hr
  rcases hr with rfl | rfl <;> cases resume <;>
    exact ⟨ticks _ rfl, by decide, by decide, by decide, by decide +kernel, rfl, dues (by decide +kernel),
      owes (by decide +kernel), by decide +kernel, by decide +kernel, by decide +kernel, by decide +kernel, by decide +kernel,
      rfl, by decide, rfl, rfl⟩

/-- A player that the order makes late, released and committed at the superframe start, is owed it no more (R96). -/
theorem test_release_commits_a_late_player :
    let s0 := framing (stage pair { freezes .stepping with replacement := some (0, .superframe) })
    let t := after (.internalTick { lateEvent := [0] }) { s0 with
      safe := { s0.safe with state := .latched, causes := { Causes.empty with holdLine := true } }
      params := { s0.params with autoRelease := true, autoResume := true } }
    (t.player 0).state = .running ∧ (t.player 0).replacement = none ∧ (t.player 0).owed = none := by decide +kernel

theorem witness_StatusRequestsReportTheirRecords :
    Asks up 0x42 [] ∧ Asks up 0x5A [] ∧ Asks up 0x5D [] ∧ Asks up 0x29 [6] ∧ Asks up 0x29 [5] ∧ Asks up 0x32 [] ∧
      (5 : Byte) = finByte (5 : PlayerId) :=
  ⟨asks _ _, asks _ _, asks _ _, asks _ _, asks _ _, asks _ _, by decide⟩

theorem witness_HoldInEntersAndLatchesTheSafeState :
    (up.phase = .live ∧ up.boot = .ready ∧ up.safeSound ∧
      decide (false = up.params.holdLevel) = true ∧ up.safe.holdActive = false ∧
      decide (true = up.params.holdLevel) = up.safe.holdActive) ∧
    (let s := guarded .active { Causes.empty with holdLine := true };
      s.safeSound ∧ decide (true = s.params.holdLevel) = false ∧ s.safe.holdActive = true ∧
        Asks s 0x49 [0x20, 0, 0, 0] ∧ decide (s.safe.holdIn = decide ((0 : Byte) = 1)) = false) ∧
    (∀ load results, ∀ stage ∈ [BootStage.judged load, .autostart load results],
      let s : State := { up with boot := .booting stage };
      s.phase = .live ∧ s.safeSound ∧ s.safe.holdActive = false) ∧
    (State.reset.phase = .live ∧ State.reset.boot = .booting .values) ∧ ({ up with phase := .off } : State).phase ≠ .live ∧
    (Asks up 0x49 [0x20, 0, 0, 1] ∧ decide (up.safe.holdIn = decide ((1 : Byte) = 1)) = true) ∧
    (Asks up 0x49 [0x20, 0, 0, 0] ∧ decide (up.safe.holdIn = decide ((0 : Byte) = 1)) = up.safe.holdActive) := by
  refine ⟨⟨rfl, rfl, ?_, by decide, rfl, by decide⟩,
    ⟨?_, by decide, rfl, asks _ _, by decide⟩, fun _ _ _ _ => ⟨rfl, ?_, rfl⟩, ⟨rfl, rfl⟩, by decide, ⟨asks _ _, by decide⟩,
    asks _ _, by decide⟩
  · unfold State.safeSound; decide +kernel
  · unfold State.safeSound; decide +kernel
  · exact (show up.safeSound by unfold State.safeSound; decide +kernel)

theorem witness_ParametersAreReportedCheckedAndSetAtOnce :
    (Asks up 0x48 [0x09, 0] ∧ paramNamed 0x09 0 = false ∧ Asks up 0x48 [0x11, 8] ∧ paramNamed 0x11 8 = false) ∧
    (Asks up 0x48 [0x03, 0] ∧ Asks up 0x48 [0x04, 0] ∧ Asks up 0x48 [0x11, 7] ∧ Asks up 0x48 [0x18, 23] ∧
      Asks up 0x48 [0x28, 0] ∧ Asks up 0x48 [0x30, 0]) ∧
    (∀ e ∈ up.link.replies, ∀ r, e.effect ≠ .setRate r) ∧
    (let e : ReplyEntry := { frame := req 0 [], effect := .setRate .baud2000000 };
      let s := { up with link := { up.link with replies := [e] } };
      Asks s 0x48 [0x30, 0] ∧ s.link.replies = [] ++ e :: [] ∧ e.effect = .setRate .baud2000000) ∧
    (takesOf .paramSet = some setsOther ∧ setsOther (req 0x49 [0x31, 0, 0, 0]) = true ∧ Asks up 0x49 [0x31, 0, 0, 0] ∧
      paramNamed 0x31 0 = false) ∧
    (takesOf .paramSetNoticeMask = some (setsParam [0x28]) ∧ setsParam [0x28] (req 0x49 [0x28, 0, 0x80, 0]) = true ∧
      Asks up 0x49 [0x28, 0, 0x80, 0] ∧ paramNamed 0x28 0 = true ∧ paramInRange 0x28 (word16 0x80 0).toNat = false) ∧
    (∀ id, Asks up 0x48 [id, 0] ∧ Asks up 0x48 [id, 23]) ∧
    Asks up 0x49 [0x08, 0, 0, 255] ∧ Asks up 0x49 [0x21, 0, 0, 1] ∧ Asks up 0x49 [0x22, 0, 0, 0] ∧
      Asks up 0x49 [0x23, 0, 0, 1] ∧ Asks up 0x49 [0x11, finByte (7 : InputId), 0, 15] ∧
      Asks up 0x49 [0x18, finByte (23 : LineId), 0, 1] ∧ Asks up 0x49 [0x19, finByte (0 : LineId), 0, 0] ∧
      Asks up 0x49 [0x28, 0, 127, 255] ∧ Asks up 0x49 [0x10, finByte (7 : InputId), 0, byteOf InEdge.off.code] :=
  ⟨⟨asks _ _, by decide, asks _ _, by decide⟩, ⟨asks _ _, asks _ _, asks _ _, asks _ _, asks _ _, asks _ _⟩, nofun,
    ⟨asks _ _, rfl, rfl⟩, ⟨rfl, by decide, asks _ _, by decide⟩, ⟨rfl, by decide, asks _ _, by decide, by decide⟩,
    fun _ => ⟨asks _ _, asks _ _⟩, asks _ _, asks _ _, asks _ _, asks _ _, asks _ _, asks _ _, asks _ _, asks _ _, asks _ _⟩

/-- A full Notice Queue. -/
def crowded (n : Nat) : State :=
  { up with notices := { up.notices with
      queue := List.replicate n { body := .superframe, stamp := up.stamp, repeats := 255 } } }

theorem witness_NoticesAreQueuedMergedOrLost :
    (¬(NoticeBody.number (.inputEdge 7 true true) = 0 ∨
      ({ up.params with noticeMask := 0 } : Params).noticeMask.getLsbD 9 = true)) ∧
    (up.params.noticeMask.getLsbD 12 = false ∧ up.params.noticeMask.getLsbD 10 = true) ∧
    ((crowded 31).notices.queue.length < 32 ∧ ¬(crowded 31).notices.queue.length < 31) ∧
    ((crowded 32).notices.queue = List.replicate 31 { body := .superframe, stamp := up.stamp, repeats := 255 } ++
        { body := .superframe, stamp := up.stamp, repeats := 255 } :: [] ∧
      NoticeBody.number .superframe = 12 ∧ NoticeBody.subject .superframe = .nothing) ∧
    (∀ m ∈ (crowded 32).notices.queue, m.body.number ≠ NoticeBody.number (.safe .clear Causes.empty 0)) ∧
    (Asks up 0x50 [] ∧ Asks up 0x51 []) :=
  ⟨by decide, by decide, by decide +kernel, by decide +kernel, by decide +kernel, asks _ _, asks _ _⟩

theorem witness_TimebaseParametersAndLinkRateAreSet :
    (∀ state, Asks (based state .free) 0x49 [0x03, 0, 0, 16] ∧ Asks (based state .free) 0x49 [0x04, 0, 1, 0] ∧
      Asks (based state .free) 0x49 [0x02, 0, 0, 1] ∧ Asks (based state .free) 0x49 [0x01, 0, 0, byteOf TickSource.tickIn.code] ∧
      Asks (based state .free) 0x49 [0x05, 0, 0, byteOf SyncMode.aligned.code] ∧
      Asks (based state .free) 0x49 [0x06, 0, 0, byteOf SyncEdge.fall.code] ∧ (based state .free).tb.state = state) ∧
    ((word16 0 16).toNat = 16 ∧ (word16 1 0).toNat = 256 ∧ (word16 0 1).toNat = 1) ∧
    (Asks up 0x49 [0x07, 0, 0, byteOf (SyncOutSrc.note 5).code] ∧ SyncOutSrc.note 5 ≠ up.params.syncOutSrc ∧
      Asks up 0x49 [0x07, 0, 0, byteOf SyncOutSrc.off.code] ∧ SyncOutSrc.off = up.params.syncOutSrc ∧
      Asks up 0x49 [0x30, 0, 0, byteOf LinkRate.baud2000000.code]) ∧
    (({ up with tb := { up.tb with syncHold := true } } : State).tb.syncHold = true ∧ up.tb.syncHold = false) :=
  ⟨fun _ => ⟨asks _ _, asks _ _, asks _ _, asks _ _, asks _ _, asks _ _, rfl⟩, by decide,
    ⟨asks _ _, by decide, asks _ _, rfl, asks _ _⟩, by decide⟩

theorem witness_ReceivedFramesAreJudged :
    let f : Frame := { tag := 0x31, kind := 0x32, payload := [], check := 0x8249 };
    (up.phase = .live ∧ up.link.rx = .hunt ∧ f.payload.length ≤ 248 ∧ (req 0x18 []).check ≠ frameCheck 1 0x18 []) ∧
    (f.check = frameCheck f.tag f.kind f.payload) ∧
    (let s := { up with link := { up.link with inbox := [f] } };
      ∃ g ∈ s.link.inbox, g.tag = f.tag ∧ g.check = f.check) ∧
    (let e : CacheEntry := { tag := f.tag, check := f.check, reply := f };
      let s := { up with link := { up.link with cache := [e], rx := .length } };
      s.link.cache = [] ++ e :: [] ∧ s.link.rx = .length ∧ ∀ g ∈ s.link.inbox, ¬(g.tag = f.tag ∧ g.check = f.check)) ∧
    (let s := { up with link := { up.link with inbox := List.replicate 8 (req 0x18 []) } };
      8 ≤ s.link.inbox.length ∧ (∀ g ∈ s.link.inbox, ¬(g.tag = f.tag ∧ g.check = f.check)) ∧
        ∀ e ∈ s.link.cache, ¬(e.tag = f.tag ∧ e.check = f.check)) ∧
    (up.link.inbox.length < 8 ∧ 0 < 12 - (up.link.replies.length + up.link.inbox.length)) ∧
    (let s := { up with link := { up.link with rx := .length } };
      s.link.rx = .length ∧ s.link.rx ≠ .hunt ∧ (1 : Byte).toNat < 2 ∧ 250 < (251 : Byte).toNat) ∧
    (∀ n ∈ [4998, 4999],
      let s := { up with link := { up.link with rx := .length, timer := some n } };
      s.link.rx ≠ .hunt ∧ s.link.timer = some n ∧ (n + 1 < 5000 ↔ n = 4998)) :=
  ⟨⟨rfl, rfl, by decide, by decide +kernel⟩, test_check_value.symm, ⟨_, .head _, rfl, rfl⟩, ⟨rfl, rfl, nofun⟩,
    ⟨by decide, by decide +kernel, nofun⟩, by decide, by decide, by decide⟩

theorem witness_SaveWritesItsTargetAndEraseTreatsBothBanks :
    ((Asks up 0x58 [] ∧ up.image.op = .none ∧ up.newestSeq ≠ 0xFFFFFFFF) ∧
    (let s := { up with image := { up.image with op := .eraseA } };
      Asks s 0x58 [] ∧ s.image.op ≠ .none ∧ ∀ target seq params autostart, s.image.op ≠ .save target seq params autostart) ∧
    (let s := up.setBank .b { Bank.blank with state := .complete, seq := 0xFFFFFFFF };
      Asks s 0x58 [] ∧ s.image.op = .none ∧ s.newestSeq = 0xFFFFFFFF) ∧
    (let s := up.beginSave .a 1;
      s.phase = .live ∧ s.image.op = .save .a 1 up.params up.image.autostart)) ∧
    (Asks up 0x59 [] ∧ up.image.op = .none ∧ up.image.op ≠ .eraseA ∧ ∀ aOk, up.image.op ≠ .eraseB aOk) ∧
    (let s := up.beginErase;
      s.phase = .live ∧ s.image.op = .eraseA ∧ Asks s 0x59 [] ∧ s.image.op ≠ .none) ∧
    (let s := up.beginErase.treatedA true;
      s.phase = .live ∧ s.image.op = .eraseB true) :=
  ⟨⟨⟨asks _ _, rfl, by decide +kernel⟩, ⟨asks _ _, by decide, by intro _ _ _ _ h; cases h⟩,
    ⟨asks _ _, rfl, by decide +kernel⟩, rfl, by decide +kernel⟩,
    ⟨asks _ _, rfl, nofun, nofun⟩, ⟨rfl, rfl, asks _ _, nofun⟩, rfl, rfl⟩

/-- A frame being sent from a source, with the entries given filled. -/
def sends (source : TxSource) (replies : List ReplyEntry) : State :=
  { up with link := { up.link with tx := some { source := source, frame := req 0 [] }, replies := replies } }

theorem witness_FrameSentFreesAndTheNextBegins :
    (up.phase = .live ∧ up.link.tx = none) ∧
    ((sends .notice []).link.tx = some { source := .notice, frame := req 0 [] } ∧ TxSource.notice ≠ .reply) ∧
    (∀ effect : ReplyEffect, (sends .reply [{ frame := req 0 [], effect := effect }]).link.replies =
      [{ frame := req 0 [], effect := effect }]) ∧
    (let s := { up with link := { up.link with reject := some (req 0 []) } };
      s.link.replies = [] ∧ s.link.reject = some (req 0 [])) ∧
    ((crowded 1).link.replies = [] ∧ (crowded 1).link.reject = none ∧ (crowded 1).notices.muted = false ∧
      (crowded 1).notices.queue = { body := .superframe, stamp := up.stamp, repeats := 255 } :: []) ∧
    up.notices.queue = [] :=
  ⟨by decide, ⟨rfl, by decide⟩, fun _ => rfl, ⟨rfl, rfl⟩, ⟨rfl, rfl, rfl, rfl⟩, rfl⟩

theorem witness_AutostartTableIsSetAndCleared :
    up.store.busy = false ∧
      Asks up 0x5B (finByte (5 : PlayerId) :: ([finByte (5 : PlayerId), finByte (63 : ListId)] ++ lineBytes 0x800001 ++
        [(StartPoint.input 7).code, 7, 0, 0xFF])) ∧
      Asks up 0x5B [6, 0] ∧ Asks up 0x5B [6, 1] ∧ Asks up 0x5C [finByte (5 : PlayerId)] ∧ Asks up 0x5C [6] ∧
      Asks up 0x5C [0xFF] :=
  ⟨rfl, asks _ _, asks _ _, asks _ _, asks _ _, asks _ _, asks _ _⟩

/-- An image with one list. -/
def img : Image := { lists := [{ id := 63, label := [], steps := pair }], params := Params.default, autostart := Autostart.empty }

/-- The part after step 1 of its start-up with an image in each bank, the newer in B. -/
def imaged (newer : Image) : State := (State.reset.setBank .b (Bank.holding newer 2)).setBank .a (Bank.holding img 1)

theorem blanks : ∀ p, State.reset.player p = Player.blank := by decide +kernel

theorem cleans (newer : Image) : (imaged newer).bootClean := ⟨rfl, blanks, rfl, ⟨rfl, rfl, rfl, rfl⟩, rfl⟩

theorem witness_StartUpLoadsTheNewestLoadableImage :
    (up.phase = .live ∧ up.boot = .ready) ∧
    (∀ load, ({ up with boot := .booting (.loaded load) } : State).phase = .live) ∧
    (List.replicate 6 AutoResult.empty).length = 6 ∧
    (State.reset.phase = .live ∧ State.reset.boot = .booting .values ∧ State.reset.bootClean ∧
      State.reset.lines = Lines.blank ∧ State.reset.image.autostart = Autostart.empty ∧
      (State.reset.bank .a).state ≠ .complete ∧ (State.reset.bank .b).state ≠ .complete) ∧
    (let s := imaged img;
      s.phase = .live ∧ s.boot = .booting .values ∧ s.bootClean ∧ s.lines = Lines.blank ∧
        s.image.autostart = Autostart.empty ∧ (s.bank .b).state = .complete ∧ (s.bank .b).agrees = true ∧
        (s.bank .a).seq < (s.bank .b).seq ∧ (s.bank .b).image = some img ∧ img.fits ∧ img.autostart = Autostart.empty) :=
  ⟨by decide, fun _ => rfl, rfl,
    ⟨rfl, rfl, ⟨rfl, by decide +kernel, rfl, ⟨rfl, rfl, rfl, rfl⟩, rfl⟩, rfl, rfl, by decide, by decide⟩,
    rfl, rfl, cleans _, rfl, rfl, rfl, rfl, by decide, rfl, by unfold Image.fits; decide +kernel, rfl⟩

/-- An image whose entries meet each result that a clear start gives. -/
def staged : Image where
  lists     := [{ id := 63, label := [], steps := pair }]
  params    := Params.default
  autostart := {
    timebase := true
    entries  := #v[none, some { list := 62, lines := 1, start := .frame, passLimit := 1, stopIndex := none },
      some { list := 63, lines := 2, start := .frame, passLimit := 1, stopIndex := none },
      some { list := 63, lines := 1, start := .frame, passLimit := 255, stopIndex := some 0 },
      some { list := 63, lines := 3, start := .now, passLimit := 1, stopIndex := none }, none] }

/-- The part as the image has been loaded and HOLD_IN judged, with the entries before P3 taken. -/
def entered : State :=
  { (imaged staged).loadBanks.1 with
    boot := .booting (.autostart (imaged staged).loadBanks.2 [.empty, .noList, .footprint]) }

theorem witness_AutostartRunBindsAndStartsItsEntries :
    (let s := imaged staged;
      s.phase = .live ∧ s.boot = .booting .values ∧ s.bootClean ∧ s.lines = Lines.blank ∧ (s.bank .b).state = .complete ∧
        (s.bank .b).agrees = true ∧ (s.bank .a).seq < (s.bank .b).seq ∧ (s.bank .b).image = some staged ∧ staged.fits ∧
        staged.params.faultToSafe = false ∧ ¬s.safe.holdIn = staged.params.holdLevel ∧
        { s with safe := { s.safe with holdIn := false } }.safe.holdIn = staged.params.holdLevel) ∧
    (staged.autostart.entries[0] = none ∧ 62 ∉ staged.lists.map SavedList.id ∧ footprintOf pair &&& ~~~2 ≠ 0 ∧
      footprintOf pair &&& ~~~1 = 0 ∧ (1 : LineSet) &&& 3 ≠ 0) ∧
    (∀ load on, ({ imaged staged with
        boot := .booting (.judged load)
        image := { (imaged staged).image with autostart := { staged.autostart with timebase := on } } } : State).bootClean) ∧
    (entered.phase = .live ∧ (3 : PlayerId).val = [AutoResult.empty, .noList, .footprint].length ∧
      entered.bootClean ∧ entered.playsInClaims) ∧
    (entered.image.autostart.entries[3] =
        some { list := 63, lines := 1, start := .frame, passLimit := 255, stopIndex := some 0 } ∧
      (entered.list 63).state = .sealed ∧ footprintOf (entered.list 63).steps &&& ~~~1 = 0 ∧
      entered.owner 0 = none ∧ (entered.list 62).state ≠ .sealed ∧ entered.safe.state = .clear) := by
  refine ⟨⟨rfl, rfl, cleans _, rfl, rfl, rfl, by decide, rfl, by unfold Image.fits; decide +kernel, rfl, by decide, by decide⟩,
    by decide +kernel, fun _ _ => ⟨rfl, blanks, rfl⟩, ?_⟩
  refine ⟨⟨rfl, rfl, ⟨rfl, by decide, fun p _ => blanks p⟩, by decide +kernel, ?_⟩, by decide +kernel⟩
  decide +kernel

theorem witness_DeviceStatusReportsThePart :
    (Asks up 0x60 [] ∧ ({ ask up 0x60 [] with boot := .booting .values } : State).front (req 0x60 []) []) ∧
    (takesOf .storeInfo = some (ofKind 0x18) ∧ ofKind 0x18 (req 0x18 []) = true ∧
      ({ ask up 0x18 [] with boot := .booting .values } : State).boot ≠ .ready ∧ (req 0x18 []).kind ≠ 0x60) :=
  ⟨⟨asks _ _, rfl, rfl, rfl⟩, rfl, by decide, by decide, by decide⟩

theorem witness_ResetsAndPowerSetEveryBlock :
    (Asks up 0x61 [0] ∧ Asks up 0x61 [2] ∧ 1 < (2 : Byte).toNat) ∧
    Asks up 0x61 [1] ∧
      (takesOf .storeInfo = some (ofKind 0x18) ∧ ({ up with reloadPending := true } : State).reloadPending = true) ∧
      (up.phase ≠ .off ∧ up.phase ≠ .held) ∧ ({ up with phase := .off } : State).phase = .off ∧
      ({ up with phase := .held } : State).phase = .held :=
  ⟨⟨asks _ _, asks _ _, by decide⟩,
    asks _ _, ⟨rfl, rfl⟩, by decide, rfl, rfl⟩

theorem witness_KeptConditions :
    let s := stage pair (runs .stepping 5);
    step s = .next s.microsecond ∧ s.bounded ∧ s.nothingWaits ∧ s.latchesSound ∧ s.bootClean ∧ s.claimsAgree ∧
      s.usesAgree ∧ s.safeSound ∧ s.timeSound ∧ s.playsInClaims ∧ up.slotsAccounted ∧ up.usesAgree ∧
      step up = .next up.microsecond := by
  refine ⟨rfl, by unfold State.bounded; decide +kernel, fun _ _ => ⟨rfl, rfl, .inr rfl⟩, by unfold State.latchesSound; decide +kernel,
    trivial, ⟨by decide +kernel, by decide +kernel⟩, by unfold State.usesAgree; decide +kernel,
    by unfold State.safeSound; decide +kernel, ?_, ⟨by decide +kernel, ?_⟩, witness_StoreReportsTellTheStore.1.2.2,
    by unfold State.usesAgree; decide +kernel, rfl⟩
  · refine ⟨by unfold Params.timed; decide +kernel, by decide +kernel, by decide +kernel, by decide +kernel, nofun,
      fun _ => ⟨rfl, rfl, rfl⟩, nofun, nofun, trivial, fun k img h => by cases k <;> cases h⟩
  · decide +kernel

theorem witness_RequestsAndLinkEventsTouchOnlyTheirBlocks :
    exec .storeInfo (ask up 0x18 []) = .next (after .storeInfo (ask up 0x18 [])) ∧ up.nothingOwed ∧
      exec .sofReceived up = .next (after .sofReceived up) ∧
      exec .frameSent (sends .notice []) = .next (after .frameSent (sends .notice [])) ∧
      (∀ w e es, (sends .notice []).link.tx = some w → w.source = .reply → (sends .notice []).link.replies = e :: es →
        e.effect ≠ .reload) := ⟨rfl, owes (by decide +kernel), rfl, rfl, nofun⟩

theorem witness_PlayAndTimeTouchNoListNoBankNoOwner :
    let s := ending pair .stepping;
    exec (.setDwellEnd 0 {}) s = .next (after (.setDwellEnd 0 {}) s) ∧ s.playsInClaims ∧ ({} : Order).late = [] ∧
      (s.player 0).claimed.getLsbD 23 = false ∧ ∀ p', (s.player p').claimed.getLsbD 23 = false :=
  ⟨rfl, ⟨by decide +kernel, by decide +kernel⟩, rfl, by decide +kernel⟩

end Sys2Proof.Tests
end

/-! PROOFS. The users of a list (R9): how use counts and the records of the players move together. -/

namespace Sys2Proof.Machine

/-! ### Counting the users of a list -/

/-- How often a player's record uses a list: by its binding and by its pending replacement (R9). -/
def Player.uses (r : Player) (l : ListId) : Nat :=
  (if r.boundList = some l then 1 else 0) + (if r.pendingList = some l then 1 else 0)

@[simp] theorem Player.uses_blank (l : ListId) : Player.blank.uses l = 0 := rfl

theorem State.users_eq_sum (s : State) (l : ListId) : s.users l = ∑ p, (s.player p).uses l := by
  simp only [State.users, ← List.countP_eq_length_filter, allPlayers, List.countP_cons, List.countP_nil,
    decide_eq_true_eq, Fin.sum_univ_six, Player.uses]
  omega

/-- A player's uses are among the users. -/
theorem State.uses_le_users (s : State) (p : PlayerId) (l : ListId) : (s.player p).uses l ≤ s.users l := by
  rw [s.users_eq_sum]
  exact Finset.single_le_sum (f := fun p => (s.player p).uses l) (fun _ _ => Nat.zero_le _) (Finset.mem_univ p)

/-- Writing one player's record exchanges its uses. -/
theorem State.users_setPlayer (s : State) (p : PlayerId) (r : Player) (l : ListId) :
    (s.setPlayer p r).users l + (s.player p).uses l = s.users l + r.uses l := by
  have hrest : ∑ p' ∈ Finset.univ.erase p, ((s.setPlayer p r).player p').uses l =
      ∑ p' ∈ Finset.univ.erase p, (s.player p').uses l :=
    Finset.sum_congr rfl fun p' h => by rw [s.setPlayer_player_ne r (Finset.ne_of_mem_erase h)]
  have hnew := Finset.add_sum_erase Finset.univ (fun p' => ((s.setPlayer p r).player p').uses l) (Finset.mem_univ p)
  have hold := Finset.add_sum_erase Finset.univ (fun p' => (s.player p').uses l) (Finset.mem_univ p)
  simp only [State.setPlayer_player_same] at hnew
  rw [State.users_eq_sum, State.users_eq_sum]
  omega

theorem State.users_congr {s t : State} (h : ∀ p l, (t.player p).uses l = (s.player p).uses l) (l : ListId) :
    t.users l = s.users l := by
  rw [State.users_eq_sum, State.users_eq_sum]
  exact Finset.sum_congr rfl fun p _ => h p l

/-! ### Use counts after a count has moved -/

theorem State.useUp_list (s : State) (l l' : ListId) : (s.useUp l).list l' =
    { s.list l' with useCount := (s.list l').useCount + if some l = some l' then 1 else 0 } := by
  by_cases h : l' = l
  · subst h; simp [State.useUp]
  · simp [State.useUp, s.setList_list_ne _ h, Ne.symm h]

theorem State.useDownOpt_list (s : State) (o : Option ListId) (l' : ListId) : (s.useDownOpt o).list l' =
    { s.list l' with useCount := (s.list l').useCount - if o = some l' then 1 else 0 } := by
  cases o with
  | none => simp [State.useDownOpt]
  | some l =>
    by_cases h : l' = l
    · subst h; simp [State.useDownOpt, State.useDown]
    · simp [State.useDownOpt, State.useDown, s.setList_list_ne _ h, Ne.symm h]

theorem State.useDown_list (s : State) (l l' : ListId) : (s.useDown l).list l' =
    { s.list l' with useCount := (s.list l').useCount - if some l = some l' then 1 else 0 } :=
  s.useDownOpt_list (some l) l'

@[simp] theorem State.useDownOpt_players (s : State) (o : Option ListId) : (s.useDownOpt o).players = s.players := by
  cases o <;> rfl

@[simp] theorem State.useDownOpt_player (s : State) (o : Option ListId) (p : PlayerId) :
    (s.useDownOpt o).player p = s.player p := by
  cases o <;> rfl

@[simp] theorem State.useDownOpt_image (s : State) (o : Option ListId) : (s.useDownOpt o).image = s.image := by
  cases o <;> rfl

@[simp] theorem State.useDownOpt_freeSlots (s : State) (o : Option ListId) :
    (s.useDownOpt o).store.freeSlots = s.store.freeSlots := by
  cases o <;> rfl

@[simp] theorem State.useUp_freeSlots (s : State) (l : ListId) : (s.useUp l).store.freeSlots = s.store.freeSlots := rfl

@[simp] theorem State.useDown_freeSlots (s : State) (l : ListId) : (s.useDown l).store.freeSlots = s.store.freeSlots := rfl

/-! ### When use counts go on agreeing -/

/-- The second record is bound to the same list and has the same pending replacement, and is IDLE only if the first is. -/
def Player.SameUse (r r' : Player) : Prop :=
  r'.boundList = r.boundList ∧ r'.replacement = r.replacement ∧ (r'.state = .idle → r.state = .idle)

theorem Player.SameUse.uses {r r' : Player} (h : r.SameUse r') (l : ListId) : r'.uses l = r.uses l := by
  obtain ⟨hb, hr, -⟩ := h
  unfold Player.uses Player.pendingList
  rw [hb, hr]

/-- Only the use counts and states of the lists and the uses of the players matter to their agreement. -/
theorem State.usesAgree_congr {s t : State} (h : s.usesAgree) (hc : ∀ l, (t.list l).useCount = (s.list l).useCount)
    (hs : ∀ l, (t.list l).state = (s.list l).state) (hp : ∀ p, (s.player p).SameUse (t.player p)) : t.usesAgree := by
  obtain ⟨hcount, hsealed, hidle⟩ := h
  refine ⟨fun l => ?_, fun l hl => ?_, fun p hi => ?_⟩
  · rw [hc, hcount, State.users_congr fun p l => (hp p).uses l]
  · rw [hs]; exact hsealed l (by rwa [hc] at hl)
  · obtain ⟨hb, hr, hst⟩ := hp p
    rw [hb, hr]; exact hidle p (hst hi)

/-- One player's uses are exchanged, and the use counts follow. -/
theorem State.usesAgree_exchange {s t : State} (p : PlayerId) (r : Player) (h : s.usesAgree)
    (hp : ∀ p', t.player p' = (s.setPlayer p r).player p')
    (hidle : r.state = .idle → r.boundList = none ∧ r.replacement = none)
    (hs : ∀ l, (t.list l).state = (s.list l).state)
    (hc : ∀ l, (s.player p).uses l ≤ (s.list l).useCount →
      (t.list l).useCount + (s.player p).uses l = (s.list l).useCount + r.uses l)
    (hnew : ∀ l, 0 < r.uses l → (s.list l).state = .sealed) : t.usesAgree := by
  obtain ⟨hcount, hsealed, hidles⟩ := h
  have hle : ∀ l, (s.player p).uses l ≤ (s.list l).useCount := fun l => by rw [hcount]; exact s.uses_le_users p l
  have hput := s.users_setPlayer p r
  refine ⟨fun l => ?_, fun l hl => ?_, fun p' hi => ?_⟩
  · have huse := hc l (hle l)
    have hsame : t.users l = (s.setPlayer p r).users l := State.users_congr (fun p' l => by rw [hp p']) l
    have := hput l
    have := hcount l
    omega
  · rw [hs]
    have huse := hc l (hle l)
    by_cases hr : 0 < r.uses l
    · exact hnew l hr
    · exact hsealed l (by omega)
  · rw [hp] at hi ⊢
    by_cases e : p' = p
    · subst e; simpa using hidle (by simpa using hi)
    · rw [s.setPlayer_player_ne r e] at hi ⊢; exact hidles p' hi

/-- A list that a player uses is SEALED (R9). -/
theorem State.usesAgree.sealed_of_uses {s : State} (h : s.usesAgree) {p : PlayerId} {l : ListId}
    (hl : 0 < (s.player p).uses l) : (s.list l).state = .sealed := by
  obtain ⟨hcount, hsealed, -⟩ := h
  exact hsealed l (by rw [hcount]; exact lt_of_lt_of_le hl (s.uses_le_users p l))

/-- A list that is not SEALED has no user. -/
theorem State.usesAgree.unused {s : State} (h : s.usesAgree) {l : ListId} (hl : (s.list l).state ≠ .sealed) :
    (s.list l).useCount = 0 := by
  obtain ⟨-, hsealed, -⟩ := h
  exact Nat.eq_zero_of_not_pos fun hu => hl (hsealed l hu)

/-- A player with a pending replacement is not IDLE. -/
theorem State.usesAgree.not_idle {s : State} (h : s.usesAgree) {p : PlayerId} {w : ListId × CommitPoint}
    (hw : (s.player p).replacement = some w) : (s.player p).state ≠ .idle := by
  obtain ⟨-, -, hidle⟩ := h
  intro hi
  rw [(hidle p hi).2] at hw
  cases hw

end Sys2Proof.Machine

/-! PROOFS. What an operation on one player does to the players and to the use counts: `Acts` says it once for every operation of a
step in flight, `Plays` for every event that reaches the players. -/

namespace Sys2Proof.Machine

/-! ### Operations that leave lists and players as they are -/

theorem State.safeNotice_frame (s : State) : s.safeNotice = { s with notices := s.safeNotice.notices } :=
  s.produce_frame _

theorem State.changeSafe_frame (s : State) (st : SafeState) (c : Causes) (ps : BitVec 6) :
    s.changeSafe st c ps = { s with safe := (s.changeSafe st c ps).safe, notices := (s.changeSafe st c ps).notices } := by
  unfold State.changeSafe; rw [State.safeNotice_frame]

theorem State.escalate_frame (s : State) (p : PlayerId) :
    s.escalate p = { s with safe := (s.escalate p).safe, notices := (s.escalate p).notices } := by
  unfold State.escalate
  simp only
  split
  · exact s.changeSafe_frame _ _ _
  · split
    · split
      · rfl
      · rw [State.safeNotice_frame]
    · exact s.changeSafe_frame _ _ _

theorem State.raiseIf_frame (s : State) (src : SyncOutSrc) : s.raiseIf src = { s with tb := (s.raiseIf src).tb } := by
  unfold State.raiseIf; split <;> rfl

theorem State.noteBegin_frame (s : State) (p : PlayerId) (st : Step) :
    s.noteBegin p st = { s with tb := (s.noteBegin p st).tb, notices := (s.noteBegin p st).notices } := by
  unfold State.noteBegin
  split
  · simp only
    rw [State.raiseIf_frame, State.produce_frame]
  · rfl

theorem State.trailingEdge_frame (s : State) (st : Step) :
    s.trailingEdge st = { s with lines := (s.trailingEdge st).lines } := by
  unfold State.trailingEdge; split <;> rfl

/-! ### One player acts -/

/-- An operation on the player `p`: use counts go on agreeing, and no other player's record moves. -/
structure Acts (p : PlayerId) (s t : State) : Prop where
  uses : s.usesAgree → t.usesAgree
  others : ∀ p', p' ≠ p → t.player p' = s.player p'

theorem Acts.refl (p : PlayerId) (s : State) : Acts p s s := ⟨id, fun _ _ => rfl⟩

theorem Acts.trans {p : PlayerId} {s t u : State} (h1 : Acts p s t) (h2 : Acts p t u) : Acts p s u :=
  ⟨fun h => h2.uses (h1.uses h), fun p' e => (h2.others p' e).trans (h1.others p' e)⟩

/-- `Acts.trans` with the later operation first, which fixes the state between. -/
theorem Acts.after {p : PlayerId} {s t u : State} (h2 : Acts p t u) (h1 : Acts p s t) : Acts p s u := h1.trans h2

/-- Neither a list nor a player moves. -/
theorem Acts.same {p : PlayerId} {s t : State} (hs : t.store = s.store) (hp : t.players = s.players) : Acts p s t := by
  have hl : ∀ l, t.list l = s.list l := fun l => by simp only [State.list, hs]
  have hr : ∀ p, t.player p = s.player p := fun p => by simp only [State.player, hp]
  exact ⟨fun h => State.usesAgree_congr h (fun l => by rw [hl]) (fun l => by rw [hl])
    fun p => by rw [hr]; exact ⟨rfl, rfl, id⟩, fun p' _ => hr p'⟩

/-- The player's record moves, but for the lists it uses. -/
theorem Acts.put {p : PlayerId} {s : State} {r : Player} (h : (s.player p).SameUse r) : Acts p s (s.setPlayer p r) := by
  refine ⟨fun hu => State.usesAgree_congr hu (fun _ => rfl) (fun _ => rfl) fun p' => ?_,
    fun p' e => s.setPlayer_player_ne r e⟩
  by_cases e : p' = p
  · subst e; simpa using h
  · rw [s.setPlayer_player_ne r e]; exact ⟨rfl, rfl, id⟩

theorem State.produce_acts (s : State) (p : PlayerId) (body : NoticeBody) : Acts p s (s.produce body) :=
  .same (s.produce_store body) (s.produce_players body)

theorem State.rest_acts (s : State) (p : PlayerId) (a : Activity) (n : Nat) : Acts p s (s.rest p a n) :=
  .put ⟨rfl, rfl, id⟩

theorem State.noteBegin_acts (s : State) (p : PlayerId) (st : Step) : Acts p s (s.noteBegin p st) := by
  rw [s.noteBegin_frame]; exact .same rfl rfl

theorem State.trailingEdge_acts (s : State) (p : PlayerId) (st : Step) : Acts p s (s.trailingEdge st) := by
  rw [s.trailingEdge_frame]; exact .same rfl rfl

theorem State.escalate_acts (s : State) (p : PlayerId) : Acts p s (s.escalate p) := by
  rw [s.escalate_frame]; exact .same rfl rfl

theorem State.clearLatch_acts (s : State) (p : PlayerId) (n : InputId) : Acts p s (s.clearLatch n) := .same rfl rfl

theorem State.writeLines_acts (s : State) (p : PlayerId) (lines levels : LineSet) : Acts p s (s.writeLines lines levels) :=
  .same rfl rfl

/-! ### Commits, faults and the end of steps -/

/-- The record of a player whose replacement has committed (R95, R96, R99). -/
def Player.committed (r : Player) (new : ListId) : Player :=
  { r with boundList := some new, replacement := none, index := 0, passCount := 0, relaunch := false }

theorem Player.committed_uses (r : Player) (new l : ListId) :
    (r.committed new).uses l = if some new = some l then 1 else 0 := rfl

theorem State.commitRecord_eq (s : State) (p : PlayerId) (new : ListId) (point : CommitPoint) :
    s.commitRecord p new point =
      ((s.setPlayer p ((s.player p).committed new)).useDownOpt (s.player p).boundList).produce
        (.replaced p (s.player p).boundList new point) := rfl

/-- A commit makes the reservation of the new list a binding and gives back the old one (R95, R99). -/
theorem State.commitRecord_acts {s : State} {p : PlayerId} {new : ListId} {point point' : CommitPoint}
    (h : (s.player p).replacement = some (new, point')) : Acts p s (s.commitRecord p new point) := by
  rw [State.commitRecord_eq]
  refine ⟨fun hu => ?_, fun p' e => by simp [s.setPlayer_player_ne _ e]⟩
  have huses : ∀ l, (s.player p).uses l =
      (if (s.player p).boundList = some l then 1 else 0) + if some new = some l then 1 else 0 := fun l => by
    simp only [Player.uses, Player.pendingList, h, Option.map_some]
  refine State.usesAgree_exchange p ((s.player p).committed new) hu (fun p' => by simp)
    (fun hi => absurd hi (hu.not_idle h)) (fun l => by simp [State.useDownOpt_list]) (fun l hle => ?_) fun l hl => ?_
  · rw [huses] at hle ⊢
    rw [Player.committed_uses]
    simp only [State.useDownOpt_list, State.produce_list, State.setPlayer_list]
    omega
  · rw [Player.committed_uses] at hl
    exact hu.sealed_of_uses (p := p) (by rw [huses]; exact Nat.add_pos_right _ hl)

theorem State.commitAtPassEnd_acts (s : State) (p : PlayerId) : Acts p s (s.commitAtPassEnd p) := by
  unfold State.commitAtPassEnd
  split
  case h_1 new h => exact State.commitRecord_acts h
  case h_2 => exact .refl p s

/-- A faulted player uses the list it is bound to, and no other (R89). -/
theorem Player.faultedBy_uses (r : Player) (c : FaultCause) (l : ListId) :
    (r.faultedBy c).uses l = if r.boundList = some l then 1 else 0 := rfl

/-- A fault gives back the reservation of a pending replacement (R89). -/
theorem State.faultPlayer_acts (s : State) (p : PlayerId) (c : FaultCause) : Acts p s (s.faultPlayer p c) := by
  have hend : ∀ u : State, Acts p u (if u.params.faultToSafe then u.escalate p else u) := fun u => by
    split
    · exact u.escalate_acts p
    · exact .refl p u
  refine Acts.trans ⟨fun hu => ?_, fun p' e => ?_⟩ (hend _)
  · refine State.usesAgree_exchange p ((s.player p).faultedBy c) hu (fun p' => by simp [Player.faultedBy]) nofun
      (fun l => by simp [State.useDownOpt_list]) (fun l hle => ?_) (fun l hl => ?_)
    · simp only [Player.uses] at hle
      rw [Player.faultedBy_uses]
      simp only [Player.uses, State.useDownOpt_list, State.produce_list, State.idleLines_list, State.setPlayer_list]
      omega
    · refine hu.sealed_of_uses (p := p) ?_
      rw [Player.faultedBy_uses] at hl
      exact Nat.add_pos_left hl _
  · simp [s.setPlayer_player_ne _ e]

theorem State.endRun_acts (s : State) (p : PlayerId) (c : RunEndCause) : Acts p s (s.endRun p c) :=
  .after (State.produce_acts _ p _) (.put ⟨rfl, rfl, nofun⟩)

theorem State.holdQuestion_acts (s : State) (p : PlayerId) (st : Step) : Acts p s (s.holdQuestion p st).1 := by
  unfold State.holdQuestion
  simp only
  split
  · exact .after (State.produce_acts _ p _) (.put ⟨rfl, rfl, nofun⟩)
  · exact .refl p s

theorem State.passEnd_acts (s : State) (p : PlayerId) (st : Step) : Acts p s (s.passEnd p st).1 := by
  have hcount : ∀ body n, Acts p s ((s.produce body).setPlayer p { s.player p with passCount := n }) := fun body n =>
    (s.produce_acts p body).trans (.put (by rw [s.produce_player]; exact ⟨rfl, rfl, id⟩))
  unfold State.passEnd
  simp only
  split
  case h_1 new h =>
    exact ((hcount _ _).trans (State.commitRecord_acts (point' := .passEnd) (by simp [h]))).trans
      (State.holdQuestion_acts _ p st)
  case h_2 =>
    split
    · exact (((hcount _ _).trans (.put (by simp [Player.SameUse]))).trans (State.produce_acts _ p _)).trans
        (State.holdQuestion_acts _ p st)
    · split
      · exact ((hcount _ _).trans (.put (by simp [Player.SameUse]))).trans (State.holdQuestion_acts _ p st)
      · exact (hcount _ _).trans (State.endRun_acts _ p _)

theorem State.resolve_acts (s : State) (p : PlayerId) (st : Step) : Acts p s (s.resolve p st).1 := by
  unfold State.resolve
  simp only
  split
  · exact (s.endRun_acts p _).trans (State.commitAtPassEnd_acts _ p)
  · split
    · exact s.passEnd_acts p st
    · exact .after (State.holdQuestion_acts _ p st) (.put ⟨rfl, rfl, id⟩)

/-! ### Admissions -/

theorem State.beginWait_acts (s : State) (p : PlayerId) (st : Step) (n : InputId) (timeout : BitVec 16) :
    Acts p s (s.beginWait p st n timeout).1 := by
  unfold State.beginWait
  simp only
  split
  · split
    · exact (s.clearLatch_acts p n).trans (State.rest_acts _ p _ _)
    · split
      · exact (s.clearLatch_acts p n).trans (State.faultPlayer_acts _ p _)
      · exact s.clearLatch_acts p n
  · exact s.rest_acts p _ _

theorem State.beginStep_acts (s : State) (p : PlayerId) (st : Step) : Acts p s (s.beginStep p st).1 := by
  refine (s.noteBegin_acts p st).trans ?_
  unfold State.beginStep
  simp only
  split
  · split
    · exact State.writeLines_acts _ p _ _
    · exact (State.writeLines_acts _ p _ _).trans (State.rest_acts _ p _ _)
  · exact (State.writeLines_acts _ p _ _).trans (State.rest_acts _ p _ _)
  · exact State.beginWait_acts _ p st _ _
  · split
    · exact .refl p _
    · exact State.rest_acts _ p _ _

theorem State.admitStep_acts (s : State) (p : PlayerId) : Acts p s (s.admitStep p).1 := by
  unfold State.admitStep
  split
  · exact .refl p s
  · split
    · split
      · exact s.faultPlayer_acts p _
      · exact s.beginStep_acts p _
      · exact s.rest_acts p _ _
    · exact s.beginStep_acts p _

theorem State.admitNext_acts (s : State) (p : PlayerId) : Acts p s (s.admitNext p).1 := by
  unfold State.admitNext
  simp only
  split
  · split
    · exact .put ⟨rfl, rfl, id⟩
    · exact .after (State.admitStep_acts _ p) (.put ⟨rfl, rfl, id⟩)
  · exact s.admitStep_acts p

theorem chain_acts : ∀ (fuel : Nat) (p : PlayerId) (s : State), Acts p s (chain fuel p s)
  | 0, p, s => .refl p s
  | fuel + 1, p, s => by
    have hadmit := s.admitNext_acts p
    unfold chain
    split
    case h_1 s1 h => rw [h] at hadmit; exact hadmit
    case h_2 s1 st h =>
      rw [h] at hadmit
      have hres := s1.resolve_acts p st
      split
      case h_1 s2 h2 => rw [h2] at hres; exact (hadmit.trans hres).trans (chain_acts fuel p s2)
      case h_2 s2 h2 => rw [h2] at hres; exact hadmit.trans hres

theorem State.admitChain_acts (s : State) (p : PlayerId) : Acts p s (s.admitChain p) := chain_acts _ p s

theorem State.endStep_acts (s : State) (p : PlayerId) (st : Step) : Acts p s (s.endStep p st) := by
  have hres := s.resolve_acts p st
  unfold State.endStep
  split
  case h_1 s1 h => rw [h] at hres; exact hres.trans (s1.admitChain_acts p)
  case h_2 s1 h => rw [h] at hres; exact hres

theorem State.follow_acts (a : State × Admission) (p : PlayerId) : Acts p a.1 (State.follow a p) := by
  unfold State.follow
  split
  · exact .refl p _
  · exact State.endStep_acts _ p _

theorem State.beginRun_acts (s : State) (p : PlayerId) (c : StartCause) : Acts p s (s.beginRun p c) :=
  .after (State.admitChain_acts _ p) (.after (State.produce_acts _ p _) (.put ⟨rfl, rfl, nofun⟩))

/-! ### Phases that end, commits at a superframe start, resumes -/

theorem State.expire_acts (s : State) (p : PlayerId) (st : Step) : Acts p s (s.expire p st) := by
  unfold State.expire
  split
  · exact s.faultPlayer_acts p _
  · exact s.endStep_acts p st

theorem State.phaseEnd_acts (s : State) (p : PlayerId) : Acts p s (s.phaseEnd p) := by
  unfold State.phaseEnd
  simp only
  split
  · refine (Acts.put (r := { s.player p with remaining := 0, due := false }) ⟨rfl, rfl, id⟩).trans ?_
    split
    · exact State.endStep_acts _ p _
    · split
      · exact .after (State.endStep_acts _ p _) (State.trailingEdge_acts _ p _)
      · exact .after (State.rest_acts _ p _ _) (State.trailingEdge_acts _ p _)
    · exact State.expire_acts _ p _
    · exact .refl p _
  · exact .refl p s

theorem State.abandonStep_acts (s : State) (p : PlayerId) : Acts p s (s.abandonStep p) := by
  unfold State.abandonStep
  simp only
  split
  · exact (s.trailingEdge_acts p _).trans (.put (by rw [s.trailingEdge_player]; exact ⟨rfl, rfl, id⟩))
  · exact .put ⟨rfl, rfl, id⟩

/-- An abandoned step leaves the pending replacement. -/
theorem State.abandonStep_replacement (s : State) (p : PlayerId) :
    ((s.abandonStep p).player p).replacement = (s.player p).replacement := by
  simp [State.abandonStep]

theorem State.commitSuper_acts (s : State) (p : PlayerId) : Acts p s (s.commitSuper p) := by
  unfold State.commitSuper
  split
  case h_1 new h =>
    have hcommit : Acts p s ((s.abandonStep p).commitRecord p new .superframe) :=
      (s.abandonStep_acts p).trans (State.commitRecord_acts ((s.abandonStep_replacement p).trans h))
    simp only
    split
    · exact hcommit.trans (State.admitChain_acts _ p)
    all_goals exact hcommit
  case h_2 => exact .refl p s

theorem State.resumeWait_acts (s : State) (p : PlayerId) (st : Step) (n : InputId) : Acts p s (s.resumeWait p st n) := by
  unfold State.resumeWait
  simp only
  split
  · split
    · exact (s.clearLatch_acts p n).trans (State.faultPlayer_acts _ p _)
    · exact (s.clearLatch_acts p n).trans (State.endStep_acts _ p _)
  · exact .refl p s

theorem State.resumePlayer_acts (s : State) (p : PlayerId) : Acts p s (s.resumePlayer p) := by
  unfold State.resumePlayer
  simp only
  refine (Acts.put (r := { s.player p with state := .running, holdCause := none }) ⟨rfl, rfl, nofun⟩).trans ?_
  split
  · exact State.admitChain_acts _ p
  · split
    · exact State.resumeWait_acts _ p _ _
    all_goals exact .refl p _
  · split
    · split
      · exact State.endStep_acts _ p _
      · exact .refl p _
    all_goals exact .refl p _
  · exact .refl p _

theorem State.autoResume_acts (s : State) (o : Order) (super : Bool) (p : PlayerId) : Acts p s (s.autoResume o super p) := by
  unfold State.autoResume
  simp only
  split
  · split
    · exact .after (State.commitSuper_acts _ p) (.put ⟨rfl, rfl, nofun⟩)
    · exact s.resumePlayer_acts p
  · exact .refl p s

/-! ### Events of the Timebase and of the inputs -/

theorem State.countTick_acts (s : State) (o : Order) (p : PlayerId) : Acts p s (s.countTick o p) := by
  unfold State.countTick
  simp only
  split
  · split
    · exact .after (State.phaseEnd_acts _ p) (.put ⟨rfl, rfl, id⟩)
    · exact .put ⟨rfl, rfl, id⟩
  · exact .put ⟨rfl, rfl, id⟩

theorem State.alignEvent_acts (s : State) (p : PlayerId) (ev : TbEvent) : Acts p s (s.alignEvent p ev) := by
  unfold State.alignEvent
  split
  · split
    · split
      · exact s.endStep_acts p _
      · exact .refl p s
    all_goals exact .refl p s
  · exact .refl p s

theorem State.fitEvent_acts (s : State) (p : PlayerId) (ev : TbEvent) : Acts p s (s.fitEvent p ev) := by
  unfold State.fitEvent
  split
  · split
    · exact s.faultPlayer_acts p _
    · exact (s.beginStep_acts p _).trans (State.follow_acts _ p)
    · exact .refl p s
  · exact .refl p s

theorem State.runningEvent_acts (s : State) (o : Order) (p : PlayerId) (ev : TbEvent) :
    Acts p s (s.runningEvent o p ev) := by
  unfold State.runningEvent
  simp only
  split
  · split
    · exact .after (State.admitChain_acts _ p) (.put ⟨rfl, rfl, id⟩)
    · exact .refl p s
  · split
    · split
      · exact s.countTick_acts o p
      · exact .refl p s
    · split
      · exact s.countTick_acts o p
      · exact .refl p s
    · split
      · exact s.countTick_acts o p
      · exact .refl p s
    · exact s.alignEvent_acts p ev
    · exact s.fitEvent_acts p ev
    · exact .refl p s

theorem State.superEvent_acts (s : State) (o : Order) (p : PlayerId) (ev : TbEvent) : Acts p s (s.superEvent o p ev) := by
  unfold State.superEvent
  split
  · split
    · exact (s.beginRun_acts p _).trans (State.commitSuper_acts _ p)
    · exact (s.commitSuper_acts p).trans (State.beginRun_acts _ p _)
  · exact s.commitSuper_acts p

theorem State.playerEvent_acts (s : State) (o : Order) (ev : TbEvent) (before : PlayerState) (p : PlayerId) :
    Acts p s (s.playerEvent o ev before p) := by
  unfold State.playerEvent
  simp only
  split
  · exact s.superEvent_acts o p ev
  · split
    · exact s.runningEvent_acts o p ev
    · split
      · exact s.beginRun_acts p _
      · exact .refl p s
    · exact .refl p s

theorem State.handTo_acts (s : State) (o : Order) (ev : TbEvent) (before : Player) (p : PlayerId) :
    Acts p s (s.handTo o ev before p) := by
  unfold State.handTo
  simp only
  split
  · split
    · exact .put ⟨rfl, rfl, id⟩
    · exact .refl p s
  · exact s.playerEvent_acts o ev _ p

theorem State.owedEvent_acts (s : State) (p : PlayerId) : Acts p s (s.owedEvent p) := by
  unfold State.owedEvent
  simp only
  split
  · exact .after (State.playerEvent_acts _ _ _ _ p) (.put ⟨rfl, rfl, id⟩)
  · exact .refl p s

theorem State.edgeReaches_acts (s : State) (n : InputId) (d : Bool) (p : PlayerId) : Acts p s (s.edgeReaches n d p) := by
  unfold State.edgeReaches
  simp only
  split
  · exact s.beginRun_acts p _
  · split
    · split
      · exact s.faultPlayer_acts p _
      · exact .after (State.endStep_acts _ p _) (.put ⟨rfl, rfl, id⟩)
    · exact .refl p s

theorem State.enterPlayer_acts (s : State) (p : PlayerId) : Acts p s (s.enterPlayer p) := by
  unfold State.enterPlayer
  simp only
  split
  · exact .put ⟨rfl, rfl, nofun⟩
  · exact .after (State.produce_acts _ p _) (.put ⟨rfl, rfl, nofun⟩)
  all_goals exact .refl p s

/-! ### Starting and stopping a player -/

theorem State.startPlayer_acts (s : State) (p : PlayerId) (sp : StartPoint) (limit : Nat) (stop : Option Nat) :
    Acts p s (s.startPlayer p sp limit stop) := by
  refine (Acts.put (r := { s.player p with passLimit := limit, stopIndex := stop }) ⟨rfl, rfl, id⟩).trans ?_
  unfold State.startPlayer State.setLimits
  simp only
  split
  · exact State.beginRun_acts _ p _
  all_goals exact .put ⟨rfl, rfl, nofun⟩

theorem State.stopPlayer_acts (s : State) (p : PlayerId) : Acts p s (s.stopPlayer p) :=
  .after (State.commitAtPassEnd_acts _ p) (.after (.put ⟨rfl, rfl, nofun⟩) (s.writeLines_acts p _ _))

end Sys2Proof.Machine

/-! PROOFS. Events that reach several players: use counts go on agreeing, and a player at its start-up values is left as it is. -/

namespace Sys2Proof.Machine

/-- An event: use counts go on agreeing, and a player at its start-up values (R90) stays there. -/
structure Plays (s t : State) : Prop where
  uses : s.usesAgree → t.usesAgree
  blank : ∀ p, s.player p = Player.blank → t.player p = Player.blank

theorem Plays.refl (s : State) : Plays s s := ⟨id, fun _ => id⟩

theorem Plays.trans {s t u : State} (h1 : Plays s t) (h2 : Plays t u) : Plays s u :=
  ⟨fun h => h2.uses (h1.uses h), fun p h => h2.blank p (h1.blank p h)⟩

/-- `Plays.trans` with the later event first, which fixes the state between. -/
theorem Plays.after {s t u : State} (h2 : Plays t u) (h1 : Plays s t) : Plays s u := h1.trans h2

/-- Neither a list nor a player moves. -/
theorem Plays.same {s t : State} (hs : t.store = s.store) (hp : t.players = s.players) : Plays s t :=
  ⟨(Acts.same (p := 0) hs hp).uses, fun p h => by rw [← h]; simp only [State.player, hp]⟩

/-- An operation on one player that leaves it as it is at its start-up values. -/
theorem Acts.plays {p : PlayerId} {s t : State} (h : Acts p s t) (hb : s.player p = Player.blank → t = s) : Plays s t := by
  refine ⟨h.uses, fun p' hp' => ?_⟩
  by_cases e : p' = p
  · subst e; rw [hb hp']; exact hp'
  · rw [h.others p' e]; exact hp'

theorem State.produce_plays (s : State) (body : NoticeBody) : Plays s (s.produce body) :=
  .same (s.produce_store body) (s.produce_players body)

/-! ### Players at their start-up values -/

theorem State.enterPlayer_plays (s : State) (p : PlayerId) : Plays s (s.enterPlayer p) :=
  (s.enterPlayer_acts p).plays fun h => by simp [State.enterPlayer, h, Player.blank]

theorem State.phaseEnd_plays (s : State) (p : PlayerId) : Plays s (s.phaseEnd p) :=
  (s.phaseEnd_acts p).plays fun h => State.phaseEnd_still (by rw [h]; rfl)

theorem State.owedEvent_plays (s : State) (p : PlayerId) : Plays s (s.owedEvent p) :=
  (s.owedEvent_acts p).plays fun h => State.owedEvent_still (by rw [h]; rfl)

theorem State.autoResume_plays (s : State) (o : Order) (super : Bool) (p : PlayerId) :
    Plays s (s.autoResume o super p) :=
  (s.autoResume_acts o super p).plays fun h => by simp [State.autoResume, h, Player.blank, Player.heldSafe]

theorem State.playerEvent_blank {s : State} {p : PlayerId} (h : s.player p = Player.blank) (o : Order) (ev : TbEvent)
    (before : PlayerState) : s.playerEvent o ev before p = s := by
  cases before <;> simp [State.playerEvent, h, Player.blank, Player.commitsSuper]

theorem State.handTo_plays (s : State) (o : Order) (ev : TbEvent) (before : Player) (p : PlayerId) :
    Plays s (s.handTo o ev before p) := by
  refine (s.handTo_acts o ev before p).plays fun h => ?_
  unfold State.handTo
  simp only
  split
  · simp [h, Player.takesPart, Player.blank, Player.commitsSuper]
  · exact State.playerEvent_blank h o ev _

/-- A player that consumes an input is not at its start-up values. -/
theorem State.consumes_blank {s : State} {p : PlayerId} (h : s.player p = Player.blank) (n : InputId) :
    s.consumes n p = false := by
  simp [State.consumes, h, Player.blank]

/-! ### The order of agents -/

theorem State.reachPlayers_plays (s : State) (players exempt : List PlayerId) : Plays s (s.reachPlayers players exempt) := by
  unfold State.reachPlayers
  split
  · exact .refl s
  · clear * -
    induction players generalizing s with
    | nil => exact .refl s
    | cons p ps ih =>
      refine .after (ih _) ?_
      beta_reduce
      split
      · exact .refl s
      · exact s.enterPlayer_plays p

theorem runActors_plays {o : Order} {act : Actor → State → State} (h : ∀ a s, Plays s (act a s)) :
    ∀ (actors : List Actor) (s : State), Plays s (runActors o act actors s)
  | [], s => .refl s
  | a :: rest, s => by
    unfold runActors
    exact ((h a s).trans (State.reachPlayers_plays _ _ _)).trans (runActors_plays h rest _)

theorem eachPlayer_plays {o : Order} {act : PlayerId → State → State} (h : ∀ p s, Plays s (act p s)) (s : State) :
    Plays s (eachPlayer o act s) := by
  refine runActors_plays (fun a s => ?_) _ s
  cases a with
  | player p => exact h p s
  | safeUnit => exact .refl s
  | superframeNotice => exact .refl s

theorem State.settle_plays (s : State) (o : Order) : Plays s (s.settle o) := s.reachPlayers_plays _ _

theorem State.owedNow_plays (s : State) (p : PlayerId) : Plays s (s.owedNow p) := by
  unfold State.owedNow
  split
  · exact (s.owedEvent_plays p).trans (State.reachPlayers_plays _ _ _)
  · exact .refl s

/-! ### The Safe Unit -/

theorem State.changeSafe_plays (s : State) (st : SafeState) (c : Causes) (ps : BitVec 6) :
    Plays s (s.changeSafe st c ps) := by
  rw [s.changeSafe_frame]; exact .same rfl rfl

theorem State.enterSafe_plays (s : State) (o : Order) (st : SafeState) (c : Causes) : Plays s (s.enterSafe o st c) :=
  (s.changeSafe_plays st c _).trans (State.reachPlayers_plays _ _ _)

theorem State.judgeHold_plays (s : State) (o : Order) (active : Bool) : Plays s (s.judgeHold o active) := by
  have hold : Plays s { s with safe := { s.safe with holdActive := active } } := .same rfl rfl
  unfold State.judgeHold
  simp only
  split
  · exact .refl s
  · split
    · split
      · exact hold.trans (State.enterSafe_plays _ o _ _)
      · exact hold.trans (State.changeSafe_plays _ _ _ _)
      · exact hold
    · split
      · exact hold.trans (State.changeSafe_plays _ _ _ _)
      · exact hold
      · exact hold

theorem State.releaseSafe_plays (s : State) (o : Order) (super : Bool) : Plays s (s.releaseSafe o super) := by
  refine .after ?_ (s.changeSafe_plays .clear Causes.empty 0)
  unfold State.releaseSafe
  simp only
  split
  · exact eachPlayer_plays (fun p s => s.autoResume_plays o super p) _
  · exact .refl _

theorem State.autoRelease_plays (s : State) (o : Order) : Plays s (s.autoRelease o) := by
  unfold State.autoRelease
  split
  · exact s.releaseSafe_plays o true
  · exact .refl s

theorem State.holdSample_plays (s : State) (level : Bool) (o : Order) : Plays s (s.holdSample level o) := by
  have hlevel : Plays s { s with safe := { s.safe with holdIn := level } } := .same rfl rfl
  unfold State.holdSample
  simp only
  split
  · exact (hlevel.trans (State.judgeHold_plays _ o _)).trans (State.settle_plays _ o)
  · exact hlevel

/-! ### The Timebase -/

theorem State.syncOutAtTick_frame (s : State) : s.syncOutAtTick = { s with tb := s.syncOutAtTick.tb } := by
  unfold State.syncOutAtTick; split <;> rfl

theorem State.setTbState_frame (s : State) (st : TbState) : s.setTbState st = { s with tb := (s.setTbState st).tb } := by
  unfold State.setTbState; simp only; split <;> split <;> rfl

theorem State.countFrame_frame (s : State) (i : Nat) :
    s.countFrame i = { s with tb := (s.countFrame i).tb, params := (s.countFrame i).params } := by
  unfold State.countFrame; simp only; split <;> rfl

theorem State.syncOutAtFrame_frame (s : State) (super : Bool) :
    s.syncOutAtFrame super = { s with tb := (s.syncOutAtFrame super).tb } := by
  unfold State.syncOutAtFrame
  split
  case h_2 => split <;> rfl
  all_goals rfl

theorem State.syncOutAtTick_plays (s : State) : Plays s s.syncOutAtTick := by
  rw [s.syncOutAtTick_frame]; exact .same rfl rfl

theorem State.countFrame_plays (s : State) (i : Nat) : Plays s (s.countFrame i) := by
  rw [s.countFrame_frame]; exact .same rfl rfl

theorem State.syncOutAtFrame_plays (s : State) (super : Bool) : Plays s (s.syncOutAtFrame super) := by
  rw [s.syncOutAtFrame_frame]; exact .same rfl rfl

theorem State.tbNotice_plays (s : State) (e : TbEventKind) (r : Option Stamp) : Plays s (s.tbNotice e r) :=
  s.produce_plays _

theorem State.setTbState_plays (s : State) (st : TbState) : Plays s (s.setTbState st) := by
  rw [s.setTbState_frame]; exact .same rfl rfl

theorem State.clearDivider_plays (s : State) : Plays s s.clearDivider := .same rfl rfl

theorem State.raiseIf_plays (s : State) (src : SyncOutSrc) : Plays s (s.raiseIf src) := by
  rw [s.raiseIf_frame]; exact .same rfl rfl

theorem State.commitNotice_plays (s before : State) : Plays s (s.commitNotice before) := by
  unfold State.commitNotice
  split
  · exact .refl s
  · exact s.tbNotice_plays _ _

theorem State.handOut_plays (s : State) (o : Order) (ev : TbEvent) : Plays s (s.handOut o ev) := by
  refine runActors_plays (fun a s' => ?_) _ s
  cases a with
  | player p => exact s'.handTo_plays o ev _ p
  | safeUnit =>
    simp only
    split
    · exact s'.autoRelease_plays o
    · exact .refl s'
  | superframeNotice =>
    simp only
    split
    · exact s'.produce_plays _
    · exact .refl s'

/-- A frame start, where what comes before its hand-out moves no list and no player. -/
theorem State.frameStart_plays (s : State) (o : Order) (index : Nat) {first : State → State} (tick sync : Bool)
    (h : ∀ s, Plays s (first s)) : Plays s (s.frameStart o index first tick sync) := by
  refine .after (State.handOut_plays _ _ _) (.after (State.commitNotice_plays _ _) (.after (h _) ?_))
  exact (s.countFrame_plays index).trans (State.syncOutAtFrame_plays _ _)

theorem State.catchUp_plays (s : State) (o : Order) : Plays s (s.catchUp o) :=
  eachPlayer_plays (fun p s => (s.phaseEnd_plays p).trans (State.owedEvent_plays _ p)) s

theorem State.clearPassBegun_player (s : State) (p : PlayerId) :
    s.clearPassBegun.player p = { s.player p with passBegun := false } := by
  simp [State.clearPassBegun, State.player]

theorem State.clearPassBegun_plays (s : State) : Plays s s.clearPassBegun := by
  refine ⟨fun hu => State.usesAgree_congr hu (fun _ => rfl) (fun _ => rfl) fun p => ?_, fun p h => ?_⟩
  · rw [s.clearPassBegun_player]; exact ⟨rfl, rfl, id⟩
  · rw [s.clearPassBegun_player, h]; rfl

theorem State.tick_plays (s : State) (o : Order) : Plays s (s.tick o) := by
  have hstart : Plays s ((s.catchUp o).syncOutAtTick).clearPassBegun :=
    ((s.catchUp_plays o).trans (State.syncOutAtTick_plays _)).trans (State.clearPassBegun_plays _)
  refine hstart.trans ?_
  unfold State.tick
  simp only
  split
  · exact .after (State.handOut_plays _ _ _) (.same rfl rfl)
  · exact State.frameStart_plays _ o _ true false Plays.refl

theorem State.beginTbRun_plays (s : State) (o : Order) (st : TbState) (sync : Bool) : Plays s (s.beginTbRun o st sync) :=
  .after (State.frameStart_plays _ o 0 false sync fun u => u.tbNotice_plays _ _)
    ((s.setTbState_plays st).trans (State.clearDivider_plays _))

theorem State.tbStartAction_plays (s : State) (o : Order) : Plays s (s.tbStartAction o) := by
  unfold State.tbStartAction
  split
  · exact s.beginTbRun_plays o _ _
  · exact s.beginTbRun_plays o _ _
  · exact s.setTbState_plays _
  · exact s.beginTbRun_plays o _ _

theorem State.mergeEdge_plays (s : State) (o : Order) : Plays s (s.mergeEdge o) := by
  refine s.clearDivider_plays.trans ?_
  unfold State.mergeEdge
  simp only
  split
  · exact State.handOut_plays _ _ _
  · refine .after (State.handOut_plays _ _ _) (.after (State.commitNotice_plays _ _) (.after (State.raiseIf_plays _ _) ?_))
    exact .same rfl rfl

theorem State.activeEdge_plays (s : State) (o : Order) : Plays s (s.activeEdge o) := by
  unfold State.activeEdge
  split
  · exact s.beginTbRun_plays o _ _
  · split
    · exact s.mergeEdge_plays o
    · exact s.clearDivider_plays.trans (State.frameStart_plays _ o 0 false true Plays.refl)
  · exact ((s.setTbState_plays _).trans (State.tbNotice_plays _ _ _)).trans (State.handOut_plays _ _ _)
  · exact s.handOut_plays _ _

theorem State.inactiveEdge_plays (s : State) : Plays s s.inactiveEdge := by
  unfold State.inactiveEdge
  split
  · exact (s.setTbState_plays _).trans (State.tbNotice_plays _ _ _)
  · exact .refl s

theorem State.tbStopAction_plays (s : State) : Plays s s.tbStopAction := by
  refine .after (State.tbNotice_plays _ _ _) ((s.setTbState_plays .stopped).trans ?_)
  split <;> exact .same rfl rfl

theorem State.syncChange_plays (s : State) (level : Bool) (o : Order) : Plays s (s.syncChange level o) := by
  unfold State.syncChange
  simp only
  split
  · exact .refl s
  · refine (s.catchUp_plays o).trans ?_
    split
    · exact .after (State.activeEdge_plays _ o) (.same rfl rfl)
    · exact .after (State.inactiveEdge_plays _) (.same rfl rfl)

/-! ### Microseconds, phase ends and inputs -/

theorem State.endSyncHold_plays (s : State) : Plays s s.endSyncHold := by rw [s.endSyncHold_frame]; exact .same rfl rfl

theorem State.divide_plays (s : State) (o : Order) : Plays s (s.divide o) := by
  unfold State.divide
  split
  · exact s.clearDivider_plays.trans (State.tick_plays _ o)
  · split
    · exact .same rfl rfl
    · exact .refl s

/-- A microsecond after its inter-byte timer. -/
theorem State.passMicrosecond_plays (s : State) (o : Order) : Plays s.timeByte (s.passMicrosecond o) :=
  ((State.endSyncHold_plays _).trans (State.catchUp_plays _ o)).trans (State.divide_plays _ o)

theorem State.acceptEdge_plays (s : State) (n : InputId) (o : Order) : Plays s (s.acceptEdge n o) := by
  have hlatch : ∀ r body, Plays s ((s.setInput n r).produce body) := fun r body =>
    .after (State.produce_plays _ body) (.same rfl rfl)
  unfold State.acceptEdge
  simp only
  split
  · refine .after (eachPlayer_plays (fun p s' => ?_) _) ((hlatch _ _).trans (.same rfl rfl))
    refine Acts.plays (p := p) ?_ fun h => by simp [State.consumes_blank h]
    split
    · exact (s'.edgeReaches_acts n _ p).trans (State.owedEvent_acts _ p)
    · exact .refl p s'
  · exact hlatch _ _

theorem State.acceptChange_plays (s : State) (n : InputId) (o : Order) : Plays s (s.acceptChange n o) := by
  have hlevel : ∀ r, Plays s (s.setInput n r) := fun r => .same rfl rfl
  unfold State.acceptChange
  simp only
  split
  · exact ((hlevel _).trans (State.acceptEdge_plays _ n o)).trans (State.settle_plays _ o)
  · exact hlevel _

theorem State.sample_plays (s : State) (n : InputId) (level : Bool) (o : Order) : Plays s (s.sample n level o) := by
  unfold State.sample
  simp only
  split
  · exact .same rfl rfl
  · split
    · exact .same rfl rfl
    · split
      · exact s.acceptChange_plays n o
      · exact .same rfl rfl

end Sys2Proof.Machine

/-! PROOFS. What every step does to the use counts and to the pool (R1, R2, R9, R173): `Keeps` says both at once, first of the shared
operations, then of each block's requests and of each row. -/

namespace Sys2Proof.Machine

/-! ### The pool after a change -/

theorem State.stepsHeld_eq_sum (s : State) : s.stepsHeld = ∑ l, (s.list l).steps.length := by
  rw [State.stepsHeld, allLists, List.map_ofFn, List.sum_ofFn]; rfl

/-- Writing one list exchanges its steps. -/
theorem State.stepsHeld_setList (s : State) (l : ListId) (r : ListRec) :
    (s.setList l r).stepsHeld + (s.list l).steps.length = s.stepsHeld + r.steps.length := by
  have hrest : ∑ l' ∈ Finset.univ.erase l, ((s.setList l r).list l').steps.length =
      ∑ l' ∈ Finset.univ.erase l, (s.list l').steps.length :=
    Finset.sum_congr rfl fun l' h => by rw [s.setList_list_ne r (Finset.ne_of_mem_erase h)]
  have hnew := Finset.add_sum_erase Finset.univ (fun l' => ((s.setList l r).list l').steps.length) (Finset.mem_univ l)
  have hold := Finset.add_sum_erase Finset.univ (fun l' => (s.list l').steps.length) (Finset.mem_univ l)
  simp only [State.setList_list_same] at hnew
  rw [State.stepsHeld_eq_sum, State.stepsHeld_eq_sum]
  omega

theorem State.stepsHeld_congr {s t : State} (h : ∀ l, (t.list l).steps = (s.list l).steps) :
    t.stepsHeld = s.stepsHeld := by
  simp only [State.stepsHeld, h]

/-- The banks hold no image that they did not hold. -/
def NoNewImage (s t : State) : Prop := ∀ k img, (t.bank k).image = some img → (s.bank k).image = some img

theorem NoNewImage.trans {s t u : State} (h1 : NoNewImage s t) (h2 : NoNewImage t u) : NoNewImage s u :=
  fun k img h => h1 k img (h2 k img h)

theorem NoNewImage.of_image {s t : State} (h : t.image = s.image) : NoNewImage s t := fun k img hk => by
  cases k <;> simpa only [State.bank, h] using hk

/-- A bank has no new image where the banks stay and the rest of the image unit moves. -/
theorem NoNewImage.of_banks {s t : State} (ha : t.image.bankA.image = s.image.bankA.image)
    (hb : t.image.bankB.image = s.image.bankB.image) : NoNewImage s t := fun k img hk => by
  cases k
  · simpa only [State.bank, ha] using hk
  · simpa only [State.bank, hb] using hk

/-- A list's record without its use count. -/
def ListRec.cue (r : ListRec) : ListRec := { r with useCount := 0 }

theorem ListRec.cue_of_unused {r : ListRec} (h : r.useCount = 0) : r.cue = r := by
  cases r; cases h; rfl

/-- Lists that differ in their use counts alone leave the pool accounted for: the FREE ones are unused. -/
theorem State.slotsAccounted_congr {s t : State} (h : s.slotsAccounted) (hu : t.usesAgree)
    (hl : ∀ l, (t.list l).cue = (s.list l).cue) (hf : t.store.freeSlots = s.store.freeSlots)
    (hi : ∀ k img, (t.bank k).image = some img → img.fits) : t.slotsAccounted := by
  obtain ⟨hpool, hlen, hfree, -⟩ := h
  have hsteps : ∀ l, (t.list l).steps = (s.list l).steps := fun l => by
    change (t.list l).cue.steps = (s.list l).cue.steps; rw [hl]
  have hstate : ∀ l, (t.list l).state = (s.list l).state := fun l => by
    change (t.list l).cue.state = (s.list l).cue.state; rw [hl]
  refine ⟨?_, fun l => ?_, fun l hs => ?_, hi⟩
  · rw [hf, State.stepsHeld_congr hsteps]; exact hpool
  · rw [hsteps]; exact hlen l
  · have hblank := hfree l (by rwa [← hstate])
    have hunused := hu.unused (l := l) (by rw [hs]; nofun)
    rw [← ListRec.cue_of_unused hunused, hl, hblank]
    rfl

/-! ### What keeps both conditions -/

/-- Use counts go on agreeing, and with them the pool stays accounted for. -/
structure Keeps (s t : State) : Prop where
  uses : s.usesAgree → t.usesAgree
  slots : s.usesAgree → s.slotsAccounted → t.slotsAccounted

theorem Keeps.refl (s : State) : Keeps s s := ⟨id, fun _ => id⟩

theorem Keeps.trans {s t u : State} (h1 : Keeps s t) (h2 : Keeps t u) : Keeps s u :=
  ⟨fun h => h2.uses (h1.uses h), fun hu h => h2.slots (h1.uses hu) (h1.slots hu h)⟩

/-- `Keeps.trans` with the later change first, which fixes the state between. -/
theorem Keeps.after {s t u : State} (h2 : Keeps t u) (h1 : Keeps s t) : Keeps s u := h1.trans h2

/-- Lists move in their use counts alone, these go on agreeing, and what the banks hold fits. -/
theorem Keeps.counts_images {s t : State} (hu : s.usesAgree → t.usesAgree) (hl : ∀ l, (t.list l).cue = (s.list l).cue)
    (hf : t.store.freeSlots = s.store.freeSlots)
    (hi : s.slotsAccounted → ∀ k img, (t.bank k).image = some img → img.fits) : Keeps s t :=
  ⟨hu, fun h hs => State.slotsAccounted_congr hs (hu h) hl hf (hi hs)⟩

/-- A bank without a new image holds what fits. -/
theorem NoNewImage.fits {s t : State} (hi : NoNewImage s t) (hs : s.slotsAccounted) (k : BankId) (img : Image)
    (hk : (t.bank k).image = some img) : img.fits := by
  obtain ⟨-, -, -, hfits⟩ := hs
  exact hfits k img (hi k img hk)

/-- Lists move in their use counts alone, and these go on agreeing. -/
theorem Keeps.counts {s t : State} (hu : s.usesAgree → t.usesAgree) (hl : ∀ l, (t.list l).cue = (s.list l).cue)
    (hf : t.store.freeSlots = s.store.freeSlots) (hi : t.image = s.image) : Keeps s t :=
  .counts_images hu hl hf (NoNewImage.of_image hi).fits

/-- Neither a list nor a player nor the pool moves, and what the banks hold fits. -/
theorem Keeps.images {s t : State} (hl : t.store.lists = s.store.lists) (hf : t.store.freeSlots = s.store.freeSlots)
    (hp : t.players = s.players) (hi : s.slotsAccounted → ∀ k img, (t.bank k).image = some img → img.fits) :
    Keeps s t := by
  have hlist : ∀ l, t.list l = s.list l := fun l => by simp only [State.list, hl]
  refine .counts_images (fun h => ?_) (fun l => by rw [hlist]) hf hi
  exact State.usesAgree_congr h (fun l => by rw [hlist]) (fun l => by rw [hlist])
    fun p => by simp only [State.player, hp]; exact ⟨rfl, rfl, id⟩

/-- Neither a list nor a player nor the pool moves, and no bank gets an image. -/
theorem Keeps.same {s t : State} (hl : t.store.lists = s.store.lists) (hf : t.store.freeSlots = s.store.freeSlots)
    (hp : t.players = s.players) (hi : NoNewImage s t) : Keeps s t :=
  .images hl hf hp hi.fits

/-- A block without lists, players and banks moves. -/
theorem Keeps.other {s t : State} (hs : t.store = s.store) (hp : t.players = s.players) (hi : t.image = s.image) :
    Keeps s t :=
  .same (by rw [hs]) (by rw [hs]) hp (.of_image hi)

/-- Playing moves lists in their use counts alone (Laws/Play). -/
theorem Keeps.play {s t : State} (h : s.usesAgree → t.usesAgree) (hf : t.fixed = s.fixed) : Keeps s t := by
  have hlists : t.store.lists.map ListRec.cue = s.store.lists.map ListRec.cue := congrArg Fixed.lists hf
  refine .counts h (fun l => ?_) (congrArg Fixed.freeSlots hf) (congrArg Fixed.image hf)
  have hl := congrArg (fun v : Vector ListRec 64 => v[l.val]) hlists
  simpa only [Vector.getElem_map, State.list] using hl

/-- One list is written, with its use count, and the slots of its steps are exchanged with the pool. -/
theorem Keeps.list {s t : State} (l : ListId) (r : ListRec) (hl : t.store.lists = (s.setList l r).store.lists)
    (hp : t.players = s.players) (hi : t.image = s.image)
    (hu : s.usesAgree → r.useCount = (s.list l).useCount ∧ (0 < r.useCount → r.state = .sealed))
    (hs : s.slotsAccounted → t.store.freeSlots + r.steps.length = s.store.freeSlots + (s.list l).steps.length ∧
      r.steps.length ≤ 255 ∧ (r.state = .free → r = ListRec.blank)) : Keeps s t := by
  have hlist : ∀ l', t.list l' = (s.setList l r).list l' := fun l' => by simp only [State.list, hl]
  have hother : ∀ l', l' ≠ l → t.list l' = s.list l' := fun l' e => (hlist l').trans (s.setList_list_ne r e)
  have hown : t.list l = r := by rw [hlist, s.setList_list_same]
  refine ⟨fun h => ?_, fun _ h => ?_⟩
  · obtain ⟨hr, hseal⟩ := hu h
    obtain ⟨hcount, hsealed, hidle⟩ := h
    have hplayer : ∀ p, t.player p = s.player p := fun p => by simp only [State.player, hp]
    refine ⟨fun l' => ?_, fun l' hpos => ?_, fun p => by rw [hplayer]; exact hidle p⟩
    · rw [State.users_congr (s := s) fun p l => by rw [hplayer], ← hcount]
      by_cases e : l' = l
      · rw [e, hown, hr]
      · rw [hother l' e]
    · by_cases e : l' = l
      · rw [e, hown] at hpos ⊢; exact hseal hpos
      · rw [hother l' e] at hpos ⊢; exact hsealed l' hpos
  · obtain ⟨hslots, hmax, hblank⟩ := hs h
    obtain ⟨hpool, hlen, hfree, hfits⟩ := h
    refine ⟨?_, fun l' => ?_, fun l' hst => ?_, fun k img hk => hfits k img (NoNewImage.of_image hi k img hk)⟩
    · have hheld : t.stepsHeld = (s.setList l r).stepsHeld := State.stepsHeld_congr fun l' => by rw [hlist l']
      have := s.stepsHeld_setList l r
      omega
    · by_cases e : l' = l
      · rw [e, hown]; exact hmax
      · rw [hother l' e]; exact hlen l'
    · by_cases e : l' = l
      · rw [e, hown] at hst ⊢; exact hblank hst
      · rw [hother l' e] at hst ⊢; exact hfree l' hst

/-- A start-up or a reset leaves every list unused and every player at its start-up values. -/
theorem State.usesAgree_of_blank {s : State} (hp : ∀ p, s.player p = Player.blank)
    (hl : ∀ l, (s.list l).useCount = 0) : s.usesAgree := by
  refine ⟨fun l => ?_, fun l h => ?_, fun p _ => by rw [hp]; exact ⟨rfl, rfl⟩⟩
  · rw [hl, s.users_eq_sum]; simp [hp]
  · rw [hl] at h; omega

/-! ### Takes and events of a live part -/

theorem State.transmit_keeps (s : State) : Keeps s s.transmit := .other (by simp) (by simp) (by simp)

theorem State.live_keeps {s : State} {event : State → State} (h : ∀ s, Keeps s (event s)) : Keeps s (s.live event) := by
  unfold State.live
  split
  · exact (h s).trans (State.transmit_keeps _)
  all_goals exact .refl s

/-- A take keeps what its block's own part keeps. -/
theorem State.take_keeps {s : State} {mine : Frame → Bool} {serve : Frame → State → State × Reply}
    (h : ∀ q s, Keeps s (serve q s).1) : Keeps s (s.take mine serve) := by
  unfold State.take
  split
  case h_1 q rest _ _ =>
    split
    · refine Keeps.trans (t := s.taking rest) (.other rfl rfl rfl) ?_
      refine Keeps.trans ?_ (State.transmit_keeps _)
      refine Keeps.trans (t := ((s.taking rest).answer q serve).1) ?_ (.other rfl rfl rfl)
      unfold State.answer
      split
      · exact .refl _
      · exact h q _
    · exact .refl s
  case h_2 => exact .refl s

end Sys2Proof.Machine

/-! PROOFS. Each block's requests, and the rows: use counts go on agreeing and the pool stays accounted for. -/

namespace Sys2Proof.Machine

/-! ### Requests of the Cue Store (R11 to R20) -/

theorem State.changeList_keeps {s : State} {b : Byte} {own : ListId → State × Reply} (h : ∀ l, Keeps s (own l).1) :
    Keeps s (s.changeList b own).1 := by
  unfold State.changeList
  split
  · exact .refl s
  · split
    · exact .refl s
    · exact h _

/-- A FREE record becomes an empty OPEN list: no slot moves (R12). -/
theorem State.openList_keeps {s : State} {l : ListId} (label : List Byte) (h : (s.list l).state = .free) :
    Keeps s (s.openList l label).1 := by
  refine .list l { ListRec.blank with state := .opened, label := label } rfl rfl rfl (fun hu => ⟨?_, nofun⟩)
    fun hs => ⟨?_, Nat.zero_le _, nofun⟩
  · exact (hu.unused (by rw [h]; nofun)).symm
  · obtain ⟨-, -, hfree, -⟩ := hs
    rw [hfree l h]; rfl

theorem State.lowestFree_free {s : State} {l : ListId} (h : s.lowestFree = some l) : (s.list l).state = .free := by
  simpa using List.find?_some h

theorem serveListCreate_keeps (q : Frame) (s : State) : Keeps s (serveListCreate q s).1 := by
  unfold serveListCreate
  split
  · split
    · exact .refl s
    · split
      · exact .refl s
      · split
        · exact .refl s
        · split
          · split
            case h_1 l h => exact State.openList_keeps _ (State.lowestFree_free h)
            case h_2 => exact .refl s
          · split
            · split
              case isTrue h => exact State.openList_keeps _ h
              case isFalse => exact .refl s
            · exact .refl s
  · exact .refl s

/-- Steps join an OPEN list within its 255 and within the pool (R13). -/
theorem State.appendSteps_keeps {s : State} {l : ListId} {steps : List Step} (ho : (s.list l).state = .opened)
    (hlen : (s.list l).steps.length + steps.length ≤ 255) (hfree : steps.length ≤ s.store.freeSlots) :
    Keeps s (s.appendSteps l steps) := by
  refine .list l { s.list l with steps := (s.list l).steps ++ steps } rfl rfl rfl (fun hu => ⟨rfl, fun hpos => ?_⟩)
    fun _ => ⟨?_, ?_, fun hst => ?_⟩
  · have := hu.unused (l := l) (by rw [ho]; nofun)
    simp only at hpos
    omega
  · simp only [State.appendSteps, State.setList_store, List.length_append]
    omega
  · simpa only [List.length_append] using hlen
  · rw [ho] at hst; cases hst

theorem serveListAppend_keeps (q : Frame) (s : State) : Keeps s (serveListAppend q s).1 := by
  unfold serveListAppend
  split
  · refine State.changeList_keeps fun l => ?_
    split
    · exact .refl s
    case isFalse ho =>
      split
      · exact .refl s
      · split
        · exact .refl s
        case isFalse hlen =>
          split
          · exact .refl s
          case isFalse hfree =>
            exact State.appendSteps_keeps (not_not.mp ho) (Nat.le_of_not_lt hlen) (Nat.le_of_not_lt hfree)
  · exact .refl s

/-- The slots of the dropped steps return to the pool (R14). -/
theorem State.truncateList_keeps {s : State} {l : ListId} {n : Nat} (ho : (s.list l).state = .opened)
    (hn : n ≤ (s.list l).steps.length) : Keeps s (s.truncateList l n) := by
  refine .list l { s.list l with steps := (s.list l).steps.take n } rfl rfl rfl (fun hu => ⟨rfl, fun hpos => ?_⟩)
    fun hs => ⟨?_, ?_, fun hst => ?_⟩
  · have := hu.unused (l := l) (by rw [ho]; nofun)
    simp only at hpos
    omega
  · simp only [State.truncateList, State.setList_store, List.length_take]
    omega
  · obtain ⟨-, hlen, -⟩ := hs
    have := hlen l
    simp only [List.length_take]
    omega
  · rw [ho] at hst; cases hst

theorem serveListTruncate_keeps (q : Frame) (s : State) : Keeps s (serveListTruncate q s).1 := by
  unfold serveListTruncate
  split
  · refine State.changeList_keeps fun l => ?_
    simp only
    split
    · exact .refl s
    case isFalse ho =>
      split
      · exact .refl s
      case isFalse hn =>
        split
        · exact .refl s
        · exact State.truncateList_keeps (not_not.mp ho) (Nat.le_of_not_lt hn)
  · exact .refl s

/-- A list's state and what is derived move, and its steps stay (R15, R16). -/
theorem State.restate_keeps {s : State} {l : ListId} (st : ListState) (d : Option (LineSet × Nat)) (hst : st ≠ .free)
    (h : s.usesAgree → 0 < (s.list l).useCount → st = .sealed) :
    Keeps s (s.setList l { s.list l with state := st, derived := d }) := by
  refine .list l _ rfl rfl rfl (fun hu => ⟨rfl, h hu⟩) fun hs => ⟨rfl, ?_, fun hf => absurd hf hst⟩
  obtain ⟨-, hlen, -⟩ := hs
  exact hlen l

theorem serveListSeal_keeps (q : Frame) (s : State) : Keeps s (serveListSeal q s).1 := by
  unfold serveListSeal
  split
  · refine State.changeList_keeps fun l => ?_
    simp only
    split
    · exact .refl s
    · exact .refl s
    · split
      · exact .refl s
      · exact State.restate_keeps .sealed _ nofun fun _ _ => rfl
  · exact .refl s

theorem serveListUnseal_keeps (q : Frame) (s : State) : Keeps s (serveListUnseal q s).1 := by
  unfold serveListUnseal
  split
  · refine State.changeList_keeps fun l => ?_
    simp only
    split
    · exact .refl s
    · exact .refl s
    · split
      · exact .refl s
      case isFalse h => exact State.restate_keeps .opened _ nofun fun _ hpos => absurd hpos h
  · exact .refl s

/-- An unused list's record becomes FREE, and its slots return to the pool (R17). -/
theorem State.deleteList_keeps {s : State} {l : ListId} (h : (s.list l).useCount = 0) : Keeps s (s.deleteList l) :=
  .list l ListRec.blank rfl rfl rfl (fun _ => ⟨h.symm, nofun⟩) fun _ => ⟨rfl, Nat.zero_le _, fun _ => rfl⟩

theorem serveListDelete_keeps (q : Frame) (s : State) : Keeps s (serveListDelete q s).1 := by
  unfold serveListDelete
  split
  · refine State.changeList_keeps fun l => ?_
    simp only
    split
    · exact .refl s
    · split
      · exact .refl s
      case isFalse h => exact State.deleteList_keeps (Nat.eq_zero_of_not_pos h)
  · exact .refl s

theorem serveListInfo_keeps (q : Frame) (s : State) : Keeps s (serveListInfo q s).1 := by
  unfold serveListInfo
  split
  · split <;> exact .refl s
  · exact .refl s

theorem serveListRead_keeps (q : Frame) (s : State) : Keeps s (serveListRead q s).1 := by
  unfold serveListRead
  split
  · split
    · exact .refl s
    · split
      · exact .refl s
      · simp only
        split
        · exact .refl s
        · split <;> exact .refl s
  · exact .refl s

/-! ### Requests of the players (R70 to R94) -/

theorem onPlayer_keeps {q : Frame} {s : State} {own : PlayerId → State × Reply} (h : ∀ p, Keeps s (own p).1) :
    Keeps s (onPlayer q s own).1 := by
  unfold onPlayer
  split
  · split
    · exact h _
    · exact .refl s
  · exact .refl s

theorem thenOwed_keeps {s : State} (p : PlayerId) {a : State × Reply} (h : Keeps s a.1) : Keeps s (thenOwed p a).1 :=
  h.trans (.play (State.owedNow_plays _ p).uses (State.owedNow_fixed _ p))

/-- The player's record moves, but for the lists it uses. -/
theorem State.put_keeps {s : State} {p : PlayerId} {r : Player} (h : (s.player p).SameUse r) :
    Keeps s (s.setPlayer p r) :=
  .counts (Acts.put h).uses (fun _ => rfl) rfl rfl

theorem State.settle_keeps (s : State) (o : Order) : Keeps s (s.settle o) :=
  .play (s.settle_plays o).uses (s.settle_fixed o)

/-- The record of a player bound to a list with its lines (R70). -/
def Player.boundTo (r : Player) (l : ListId) (lines : LineSet) : Player :=
  { Player.blank with
    state := .bound, boundList := some l, claimed := lines, passLimit := r.passLimit, stopIndex := r.stopIndex,
    passBegun := r.passBegun }

theorem Player.boundTo_uses (r : Player) (l k : ListId) (lines : LineSet) :
    (r.boundTo l lines).uses k = if some l = some k then 1 else 0 := rfl

theorem State.bindPlayer_eq (s : State) (p : PlayerId) (l : ListId) (lines : LineSet) :
    s.bindPlayer p l lines = ((s.setPlayer p ((s.player p).boundTo l lines)).claimLines p lines).useUp l := rfl

/-- A list that counts only where it is `l` counts for a SEALED one. -/
theorem sealed_of_one {s : State} {l k : ListId} (hl : (s.list l).state = .sealed)
    (hk : 0 < if some l = some k then 1 else 0) : (s.list k).state = .sealed := by
  split at hk
  case isTrue e => cases e; exact hl
  case isFalse => cases hk

/-- An IDLE player is bound to a SEALED list (R70). -/
theorem State.bindPlayer_acts {s : State} {p : PlayerId} {l : ListId} (lines : LineSet)
    (hi : (s.player p).state = .idle) (hl : (s.list l).state = .sealed) : Acts p s (s.bindPlayer p l lines) := by
  rw [State.bindPlayer_eq]
  refine ⟨fun hu => ?_, fun p' e => by simp [s.setPlayer_player_ne _ e]⟩
  have hnone : ∀ k, (s.player p).uses k = 0 := fun k => by
    obtain ⟨-, -, hidle⟩ := hu
    obtain ⟨hb, hr⟩ := hidle p hi
    simp [Player.uses, Player.pendingList, hb, hr]
  refine State.usesAgree_exchange p ((s.player p).boundTo l lines) hu (fun p' => by simp) nofun
    (fun k => by simp [State.useUp_list]) (fun k _ => ?_) fun k hk => sealed_of_one hl hk
  rw [hnone, Player.boundTo_uses]
  simp [State.useUp_list]

theorem State.bindPlayer_keeps {s : State} {p : PlayerId} {l : ListId} (lines : LineSet)
    (hi : (s.player p).state = .idle) (hl : (s.list l).state = .sealed) : Keeps s (s.bindPlayer p l lines) := by
  refine .counts (State.bindPlayer_acts lines hi hl).uses (fun k => ?_) ?_ ?_
  · simp [State.bindPlayer, State.useUp_list, ListRec.cue]
  · simp [State.bindPlayer]
  · simp [State.bindPlayer]

theorem servePlayerBind_keeps (q : Frame) (s : State) : Keeps s (servePlayerBind q s).1 := by
  unfold servePlayerBind
  split
  · split
    · simp only
      split
      · exact .refl s
      case isFalse hi =>
        split
        case h_1 hl _ =>
          split
          · exact .refl s
          · split
            · exact .refl s
            · exact State.bindPlayer_keeps _ (not_not.mp hi) hl
        case h_2 => exact .refl s
    · exact .refl s
  · exact .refl s

/-- Unbinding gives back the binding and the reservation of a pending replacement (R71). -/
theorem State.unbindPlayer_keeps (s : State) (p : PlayerId) : Keeps s (s.unbindPlayer p) := by
  refine .counts (fun hu => ?_) (fun l => ?_) ?_ ?_
  · refine State.usesAgree_exchange p { Player.blank with passLimit := (s.player p).passLimit, stopIndex := (s.player p).stopIndex } hu
      (fun p' => ?_) (fun _ => ⟨rfl, rfl⟩) (fun l => by simp [State.unbindPlayer, State.useDownOpt_list])
      (fun l hle => ?_) (fun l hl => absurd hl (Nat.lt_irrefl 0))
    · simp [State.unbindPlayer, State.setPlayer_player]
    · simp only [Player.uses] at hle
      simp only [State.unbindPlayer, State.setPlayer_list, State.useDownOpt_list, State.releaseLines_list,
        State.idleLines_list]
      change _ + Player.uses _ l = _ + 0
      simp only [Player.uses]
      omega
  · simp [State.unbindPlayer, State.useDownOpt_list, ListRec.cue]
  · simp [State.unbindPlayer]
  · simp [State.unbindPlayer]

theorem servePlayerUnbind_keeps (q : Frame) (s : State) : Keeps s (servePlayerUnbind q s).1 := by
  refine onPlayer_keeps fun p => ?_
  split
  · exact s.unbindPlayer_keeps p
  · exact s.unbindPlayer_keeps p
  all_goals exact .refl s

theorem State.startPlayer_keeps (s : State) (p : PlayerId) (sp : StartPoint) (limit : Nat) (stop : Option Nat) :
    Keeps s (s.startPlayer p sp limit stop) :=
  .play (s.startPlayer_acts p sp limit stop).uses (s.startPlayer_fixed p sp limit stop)

theorem servePlayerStart_keeps (o : Order) (q : Frame) (s : State) : Keeps s (servePlayerStart o q s).1 := by
  have hstart : ∀ p sp limit stop, Keeps s ((s.startPlayer p sp limit stop).settle o) := fun p sp limit stop =>
    (s.startPlayer_keeps p sp limit stop).trans (State.settle_keeps _ o)
  unfold servePlayerStart
  split
  · split
    · exact .refl s
    · split
      · exact .refl s
      · split
        · exact .refl s
        · split
          · exact .refl s
          · exact .refl s
          · exact .refl s
          · exact thenOwed_keeps _ (hstart _ _ _ _)
          · exact thenOwed_keeps _ (hstart _ _ _ _)
          · split
            · exact .refl s
            · exact thenOwed_keeps _ (State.put_keeps ⟨rfl, rfl, id⟩)
  · exact .refl s

theorem servePlayerCancel_keeps (q : Frame) (s : State) : Keeps s (servePlayerCancel q s).1 := by
  refine onPlayer_keeps fun p => ?_
  split
  · exact thenOwed_keeps p (State.put_keeps ⟨rfl, rfl, nofun⟩)
  all_goals exact .refl s

/-- A stop moves the player's record and lines, and commits a PASS_END replacement (R78). -/
theorem State.stopPlayer_keeps (s : State) (p : PlayerId) : Keeps s (s.stopPlayer p) := by
  refine .play (s.stopPlayer_acts p).uses ?_
  unfold State.stopPlayer
  simp only
  rw [State.commitAtPassEnd_fixed, State.setPlayer_fixed _ _ _ (by rw [State.idleLines_player]), State.idleLines_fixed]

theorem servePlayerStop_keeps (q : Frame) (s : State) : Keeps s (servePlayerStop q s).1 := by
  refine onPlayer_keeps fun p => ?_
  simp only
  split
  · exact thenOwed_keeps p (s.stopPlayer_keeps p)
  · exact thenOwed_keeps p (s.stopPlayer_keeps p)
  · exact thenOwed_keeps p (s.stopPlayer_keeps p)
  all_goals exact .refl s

theorem servePlayerHold_keeps (q : Frame) (s : State) : Keeps s (servePlayerHold q s).1 := by
  refine onPlayer_keeps fun p => ?_
  simp only
  split
  · exact thenOwed_keeps p (State.put_keeps ⟨rfl, rfl, id⟩)
  · split
    · exact thenOwed_keeps p (State.put_keeps ⟨rfl, rfl, id⟩)
    · exact .refl s
  all_goals exact .refl s

theorem servePlayerResume_keeps (o : Order) (q : Frame) (s : State) : Keeps s (servePlayerResume o q s).1 := by
  refine onPlayer_keeps fun p => ?_
  split
  · exact .refl s
  · split
    · refine thenOwed_keeps p (Keeps.trans ?_ (State.settle_keeps _ o))
      exact .play (s.resumePlayer_acts p).uses (s.resumePlayer_fixed p)
    all_goals exact .refl s

theorem servePlayerSetStop_keeps (q : Frame) (s : State) : Keeps s (servePlayerSetStop q s).1 := by
  unfold servePlayerSetStop
  split
  · split
    · exact .refl s
    · simp only
      split
      · exact .refl s
      · exact thenOwed_keeps _ (State.put_keeps ⟨rfl, rfl, id⟩)
  · exact .refl s

theorem servePlayerClear_keeps (q : Frame) (s : State) : Keeps s (servePlayerClear q s).1 := by
  refine onPlayer_keeps fun p => ?_
  simp only
  split
  · exact State.put_keeps ⟨rfl, rfl, nofun⟩
  all_goals exact .refl s

/-- The record of a player to which a replacement has been applied at once (R92). -/
def Player.replacedBy (r : Player) (l : ListId) : Player :=
  { r with boundList := some l, index := 0, passCount := 0, replacement := none }

theorem Player.replacedBy_uses (r : Player) (l k : ListId) :
    (r.replacedBy l).uses k = if some l = some k then 1 else 0 := rfl

theorem State.applyReplacement_eq (s : State) (p : PlayerId) (l : ListId) : s.applyReplacement p l =
    (((s.setPlayer p ((s.player p).replacedBy l)).useUp l).useDownOpt (s.player p).boundList).useDownOpt
      (s.player p).pendingList := rfl

/-- A replacement applied at once: the new list's count rises, those of the bound and of the pending one fall (R92). -/
theorem State.applyReplacement_keeps {s : State} {p : PlayerId} {l : ListId} (hl : (s.list l).state = .sealed)
    (hi : (s.player p).state ≠ .idle) : Keeps s (s.applyReplacement p l) := by
  rw [State.applyReplacement_eq]
  refine .counts (fun hu => ?_) (fun k => by simp [State.useDownOpt_list, State.useUp_list, ListRec.cue]) (by simp)
    (by simp)
  refine State.usesAgree_exchange p ((s.player p).replacedBy l) hu (fun p' => by simp) (fun h => absurd h hi)
    (fun k => by simp [State.useDownOpt_list, State.useUp_list]) (fun k hle => ?_) fun k hk => sealed_of_one hl hk
  rw [Player.replacedBy_uses]
  simp only [Player.uses] at hle
  simp only [State.useDownOpt_list, State.useUp_list, State.setPlayer_list, Player.uses]
  omega

/-- The record of a player with the replacement pending, or with none (R93, R94). -/
def Player.awaiting (r : Player) (w : Option (ListId × CommitPoint)) : Player := { r with replacement := w }

theorem Player.awaiting_uses (r : Player) (w : Option (ListId × CommitPoint)) (k : ListId) : (r.awaiting w).uses k =
    (if r.boundList = some k then 1 else 0) + if w.map Prod.fst = some k then 1 else 0 := rfl

theorem State.pendReplacement_eq (s : State) (p : PlayerId) (l : ListId) (point : CommitPoint) :
    s.pendReplacement p l point =
      ((s.setPlayer p ((s.player p).awaiting (some (l, point)))).useUp l).useDownOpt (s.player p).pendingList := rfl

/-- A pending replacement's count rises, and that of the one it supersedes falls (R93). -/
theorem State.pendReplacement_keeps {s : State} {p : PlayerId} {l : ListId} (point : CommitPoint)
    (hl : (s.list l).state = .sealed) (hi : (s.player p).state ≠ .idle) : Keeps s (s.pendReplacement p l point) := by
  rw [State.pendReplacement_eq]
  refine .counts (fun hu => ?_) (fun k => by simp [State.useDownOpt_list, State.useUp_list, ListRec.cue]) (by simp)
    (by simp)
  refine State.usesAgree_exchange p ((s.player p).awaiting (some (l, point))) hu (fun p' => by simp)
    (fun h => absurd h hi) (fun k => by simp [State.useDownOpt_list, State.useUp_list]) (fun k hle => ?_) fun k hk => ?_
  · rw [Player.awaiting_uses]
    simp only [Player.uses] at hle
    simp only [State.useDownOpt_list, State.useUp_list, State.setPlayer_list, Player.uses, Option.map_some]
    omega
  · by_cases e : some l = some k
    · cases e; exact hl
    · rw [Player.awaiting_uses, Option.map_some, if_neg e] at hk
      exact hu.sealed_of_uses (p := p) (lt_of_lt_of_le hk (Nat.add_le_add_left (Nat.zero_le _) _))

theorem servePlayerReplace_keeps (q : Frame) (s : State) : Keeps s (servePlayerReplace q s).1 := by
  unfold servePlayerReplace
  split
  · split
    · split
      · exact .refl s
      · simp only
        split
        · exact .refl s
        case isFalse hi =>
          have hidle := fun h => hi (.inl h)
          split
          case h_1 hl _ =>
            split
            · exact .refl s
            · split
              · exact thenOwed_keeps _ (State.applyReplacement_keeps hl hidle)
              · split
                · exact thenOwed_keeps _ (State.pendReplacement_keeps _ hl hidle)
                · exact thenOwed_keeps _ (State.pendReplacement_keeps _ hl hidle)
          case h_2 => exact .refl s
    · exact .refl s
  · exact .refl s

/-- A withdrawn replacement gives back its reservation (R94). -/
theorem State.withdraw_keeps {s : State} {p : PlayerId} {l : ListId} {point : CommitPoint}
    (h : (s.player p).replacement = some (l, point)) :
    Keeps s ((s.setPlayer p ((s.player p).awaiting none)).useDown l) := by
  refine .counts (fun hu => ?_) (fun k => by simp [State.useDown_list, ListRec.cue]) rfl rfl
  refine State.usesAgree_exchange p ((s.player p).awaiting none) hu (fun p' => by simp)
    (fun hi => absurd hi (hu.not_idle h)) (fun k => by simp [State.useDown_list]) (fun k hle => ?_) fun k hk => ?_
  · have huses : (s.player p).uses k =
        (if (s.player p).boundList = some k then 1 else 0) + if some l = some k then 1 else 0 := by
      simp only [Player.uses, Player.pendingList, h, Option.map_some]
    rw [huses] at hle ⊢
    rw [Player.awaiting_uses]
    simp only [State.useDown_list, State.setPlayer_list, Option.map_none, reduceCtorEq, if_false]
    omega
  · simp only [Player.awaiting_uses, Option.map_none, reduceCtorEq, if_false, Nat.add_zero] at hk
    exact hu.sealed_of_uses (p := p) (Nat.add_pos_left hk _)

theorem servePlayerWithdraw_keeps (q : Frame) (s : State) : Keeps s (servePlayerWithdraw q s).1 := by
  refine onPlayer_keeps fun p => ?_
  simp only
  split
  case h_1 l point h => exact thenOwed_keeps p (State.withdraw_keeps h)
  case h_2 => exact .refl s

/-! ### Requests of the Timebase, of lines and inputs, of the Safe Unit -/

theorem State.catchUp_keeps (s : State) (o : Order) : Keeps s (s.catchUp o) :=
  .play (s.catchUp_plays o).uses (s.catchUp_fixed o)

theorem State.tbStartAction_keeps (s : State) (o : Order) : Keeps s (s.tbStartAction o) :=
  .play (s.tbStartAction_plays o).uses (s.tbStartAction_fixed o)

theorem serveTbStart_keeps (o : Order) (q : Frame) (s : State) : Keeps s (serveTbStart o q s).1 := by
  have hstart : Keeps s ((s.catchUp o).tbStartAction o) := (s.catchUp_keeps o).trans (State.tbStartAction_keeps _ o)
  unfold serveTbStart
  split
  · simp only
    split <;> exact hstart
  all_goals exact .refl s

theorem serveTbStop_keeps (o : Order) (q : Frame) (s : State) : Keeps s (serveTbStop o q s).1 := by
  unfold serveTbStop
  split
  · exact .refl s
  all_goals
    exact (s.catchUp_keeps o).trans (.play (State.tbStopAction_plays _).uses (State.tbStopAction_fixed _))

theorem serveLineDrive_keeps (q : Frame) (s : State) : Keeps s (serveLineDrive q s).1 := by
  unfold serveLineDrive
  split
  · simp only
    split
    · exact .refl s
    · split
      · exact .refl s
      · exact .other rfl rfl rfl
  · exact .refl s

theorem serveInputRead_keeps (q : Frame) (s : State) : Keeps s (serveInputRead q s).1 := by
  unfold serveInputRead
  split
  · split
    · exact .refl s
    · split
      · exact .refl s
      · simp only
        split
        · exact .other rfl rfl rfl
        · exact .refl s
  · exact .refl s

theorem State.changeSafe_keeps (s : State) (st : SafeState) (c : Causes) (ps : BitVec 6) :
    Keeps s (s.changeSafe st c ps) :=
  .play (s.changeSafe_plays st c ps).uses (s.changeSafe_fixed st c ps)

theorem serveSafeEnter_keeps (o : Order) (q : Frame) (s : State) : Keeps s (serveSafeEnter o q s).1 := by
  unfold serveSafeEnter
  simp only
  split
  · exact Keeps.trans (.play (s.enterSafe_plays o _ _).uses (s.enterSafe_fixed o _ _)) (State.settle_keeps _ o)
  · split
    · exact .refl s
    · exact s.changeSafe_keeps _ _ _

theorem serveSafeRelease_keeps (o : Order) (q : Frame) (s : State) : Keeps s (serveSafeRelease o q s).1 := by
  unfold serveSafeRelease
  split
  · exact Keeps.trans (.play (s.releaseSafe_plays o false).uses (s.releaseSafe_fixed o false)) (State.settle_keeps _ o)
  all_goals exact .refl s

/-! ### Requests of parameters (R161, R162) -/

theorem serveParamGet_keeps (q : Frame) (s : State) : Keeps s (serveParamGet q s).1 := by
  unfold serveParamGet
  split
  · split <;> exact .refl s
  · exact .refl s

theorem serveParamSet_keeps {own : Byte → Byte → Nat → State → State × Reply}
    (h : ∀ id index v s, Keeps s (own id index v s).1) (q : Frame) (s : State) : Keeps s (serveParamSet own q s).1 := by
  unfold serveParamSet
  split
  · simp only
    split
    · exact .refl s
    · split
      · exact .refl s
      · exact h _ _ _ s
  · exact .refl s

theorem ownParam_keeps (id index : Byte) (v : Nat) (s : State) : Keeps s (ownParam id index v s).1 :=
  .other rfl rfl rfl

theorem ownStaged_keeps (id index : Byte) (v : Nat) (s : State) : Keeps s (ownStaged id index v s).1 := by
  unfold ownStaged State.paramReply
  split
  · simp only
    split <;> exact .other rfl rfl rfl
  · simp only
    split <;> exact .other rfl rfl rfl

theorem ownStoppedClass_keeps (id index : Byte) (v : Nat) (s : State) : Keeps s (ownStoppedClass id index v s).1 := by
  unfold ownStoppedClass
  split
  · exact .other rfl rfl rfl
  · exact .refl s

theorem ownSyncOutSrc_keeps (id index : Byte) (v : Nat) (s : State) : Keeps s (ownSyncOutSrc id index v s).1 := by
  unfold ownSyncOutSrc State.paramReply
  simp only
  split <;> exact .other rfl rfl rfl

theorem State.judgeHold_keeps (s : State) (o : Order) (active : Bool) : Keeps s (s.judgeHold o active) :=
  .play (s.judgeHold_plays o active).uses (s.judgeHold_fixed o active)

theorem ownHoldLevel_keeps (o : Order) (id index : Byte) (v : Nat) (s : State) :
    Keeps s (ownHoldLevel o id index v s).1 :=
  Keeps.trans (t := { s with params := { s.params with holdLevel := decide (v = 1) } }) (.other rfl rfl rfl)
    ((State.judgeHold_keeps _ o _).trans (State.settle_keeps _ o))

theorem ownInEdge_keeps (id index : Byte) (v : Nat) (s : State) : Keeps s (ownInEdge id index v s).1 := by
  unfold ownInEdge State.paramReply
  split
  · simp only
    split <;> exact .other rfl rfl rfl
  · exact .refl s

theorem ownInFilter_keeps (id index : Byte) (v : Nat) (s : State) : Keeps s (ownInFilter id index v s).1 := by
  unfold ownInFilter
  split
  · exact .other rfl rfl rfl
  · exact .refl s

/-! ### Requests of notices and of the autostart table -/

theorem serveMute_keeps (on : Bool) (q : Frame) (s : State) : Keeps s (serveMute on q s).1 := by
  unfold serveMute
  split
  · exact .refl s
  · exact .other rfl rfl rfl

/-- The autostart table or the operation in flight moves. -/
theorem Keeps.table {s t : State} (hs : t.store = s.store) (hp : t.players = s.players)
    (ha : t.image.bankA.image = s.image.bankA.image) (hb : t.image.bankB.image = s.image.bankB.image) : Keeps s t :=
  .same (by rw [hs]) (by rw [hs]) hp (.of_banks ha hb)

theorem serveAutoEntry_keeps (p : PlayerId) (fields : List Byte) (s : State) : Keeps s (serveAutoEntry p fields s).1 := by
  unfold serveAutoEntry
  split
  · split
    · exact .refl s
    · split
      · exact .refl s
      · exact .table rfl rfl rfl rfl
  · exact .refl s

theorem serveAutoFlag_keeps (fields : List Byte) (s : State) : Keeps s (serveAutoFlag fields s).1 := by
  unfold serveAutoFlag
  split
  · split
    · exact .refl s
    · split
      · exact .refl s
      · exact .table rfl rfl rfl rfl
  · exact .refl s

theorem serveAutostartSet_keeps (q : Frame) (s : State) : Keeps s (serveAutostartSet q s).1 := by
  unfold serveAutostartSet
  split
  · split
    · exact serveAutoEntry_keeps _ _ s
    · split
      · exact serveAutoFlag_keeps _ s
      · exact .refl s
  · exact .refl s

theorem serveAutostartClear_keeps (q : Frame) (s : State) : Keeps s (serveAutostartClear q s).1 := by
  unfold serveAutostartClear
  split
  · split
    · exact .refl s
    · split
      · exact .refl s
      · split
        · exact .table rfl rfl rfl rfl
        · split <;> exact .table rfl rfl rfl rfl
  · exact .refl s

end Sys2Proof.Machine

/-! PROOFS. Image operations, start-up, resets and link events, and then every row: use counts go on agreeing and the pool stays
accounted for (O54, O56). -/

namespace Sys2Proof.Machine

/-! ### Image operations (R174 to R177) -/

@[simp] theorem State.setBank_store (s : State) (k : BankId) (b : Bank) : (s.setBank k b).store = s.store := by
  cases k <;> rfl

@[simp] theorem State.setBank_players (s : State) (k : BankId) (b : Bank) : (s.setBank k b).players = s.players := by
  cases k <;> rfl

/-- The banks after one has been written. -/
theorem State.setBank_bank (s : State) (k k' : BankId) (b : Bank) :
    (s.setBank k b).bank k' = if k' = k then b else s.bank k' := by
  cases k <;> cases k' <;> rfl

/-- The bank of a header that is not COMPLETE (log 15). -/
def Bank.headed (st : BankState) (n : Nat) : Bank where
  state    := st
  seq      := 0
  checksum := Config.openChecksum n
  image    := none
  agrees   := false
  mark     := false

theorem State.setHeader_bank (s : State) (k k' : BankId) (st : BankState) :
    (s.setHeader k st).bank k' = (s.setBank k (.headed st s.fresh)).bank k' := by
  cases k' <;> rfl

/-- A header that is not COMPLETE goes with no image. -/
theorem State.setHeader_noNewImage (s : State) (k : BankId) (st : BankState) : NoNewImage s (s.setHeader k st) := by
  intro k' img h
  rw [s.setHeader_bank, s.setBank_bank] at h
  split at h
  · cases h
  · exact h

theorem State.judgeBanks_noNewImage (s : State) : NoNewImage s s.judgeBanks := .of_banks rfl rfl

theorem State.endOp_noNewImage (s : State) : NoNewImage s s.endOp := .of_banks rfl rfl

theorem State.setHeader_keeps (s : State) (k : BankId) (st : BankState) : Keeps s (s.setHeader k st) :=
  .same (by simp [State.setHeader]) (by simp [State.setHeader]) (by simp [State.setHeader]) (s.setHeader_noNewImage k st)

/-- Judging the banks and ending the operation moves no list, no slot, no player and no image. -/
theorem State.judged_endOp_keeps (s : State) : Keeps s s.judgeBanks.endOp :=
  .same rfl rfl rfl (s.judgeBanks_noNewImage.trans s.judgeBanks.endOp_noNewImage)

theorem State.produce_keeps (s : State) (body : NoticeBody) : Keeps s (s.produce body) :=
  .other (by simp) (by simp) (by simp)

theorem serveImageSave_keeps (q : Frame) (s : State) : Keeps s (serveImageSave q s).1 := by
  unfold serveImageSave
  split
  · exact .refl s
  · split
    · exact .refl s
    · exact (s.setHeader_keeps _ .writing).trans (.same rfl rfl rfl (.of_banks rfl rfl))

theorem serveImageErase_keeps (q : Frame) (s : State) : Keeps s (serveImageErase q s).1 := by
  unfold serveImageErase
  split
  · exact .refl s
  · exact (s.setHeader_keeps .a .writing).trans (.same rfl rfl rfl (.of_banks rfl rfl))

theorem allLists_nodup : allLists.Nodup := by
  rw [allLists, List.nodup_ofFn]; exact Function.injective_id

/-- The part of a list that an image holds of its record, if it is SEALED (R173). -/
theorem State.sealedLists_eq (s : State) : s.sealedLists = (allLists.filter fun l => decide ((s.list l).state = .sealed)).map
    fun l => { id := l, label := (s.list l).label, steps := (s.list l).steps } := by
  rw [State.sealedLists, ← List.filterMap_eq_map, ← List.filterMap_eq_filter, List.filterMap_filterMap]
  congr 1
  funext l
  by_cases h : (s.list l).state = .sealed <;> simp [Option.guard, h]

/-- A snapshot of a store whose pool is accounted for fits a store (R173). -/
theorem State.sealedLists_fits {s : State} (h : s.slotsAccounted) (params : Params) (autostart : Autostart) :
    Image.fits { lists := s.sealedLists, params := params, autostart := autostart } := by
  obtain ⟨hpool, hlen, -, -⟩ := h
  have hsub : (allLists.filter fun l => decide ((s.list l).state = .sealed)).Sublist allLists := List.filter_sublist
  refine ⟨?_, ?_, ?_⟩
  · simp only [State.sealedLists_eq, List.map_map, Function.comp_def, List.map_id']
    exact allLists_nodup.sublist hsub
  · simp only [State.sealedLists_eq, List.mem_map]
    rintro _ ⟨l, -, rfl⟩
    exact hlen l
  · simp only [State.sealedLists_eq, List.map_map, Function.comp_def]
    have hle := (hsub.map fun l => (s.list l).steps.length).sum_le_sum (fun _ _ => Nat.zero_le _)
    have hheld : (allLists.map fun l => (s.list l).steps.length).sum = s.stepsHeld := rfl
    omega

theorem State.completeSave_keeps (s : State) (ok : Bool) : Keeps s (s.completeSave ok) := by
  unfold State.completeSave
  split
  case h_1 target seq params autostart _ =>
    split
    · refine Keeps.trans ?_ ((State.judged_endOp_keeps _).trans (State.produce_keeps _ _))
      refine .images (by simp) (by simp) (by simp) fun hs k img hk => ?_
      rw [s.setBank_bank] at hk
      split at hk
      · obtain rfl : Image.mk s.sealedLists params autostart = img := Option.some.inj hk
        exact State.sealedLists_fits hs params autostart
      · obtain ⟨-, -, -, hfits⟩ := hs; exact hfits k img hk
    · exact ((s.setHeader_keeps target .damaged).trans (State.judged_endOp_keeps _)).trans (State.produce_keeps _ _)
  all_goals exact .refl s

theorem State.treatedA_keeps (s : State) (ok : Bool) : Keeps s (s.treatedA ok) := by
  unfold State.treatedA
  split
  · have hheaders : Keeps s ((s.setHeader .a (erasedState ok)).setHeader .b .writing) :=
      (s.setHeader_keeps .a _).trans (State.setHeader_keeps _ .b _)
    exact hheaders.trans (.table rfl rfl rfl rfl)
  all_goals exact .refl s

theorem State.completeErase_keeps (s : State) (ok : Bool) : Keeps s (s.completeErase ok) := by
  unfold State.completeErase
  split
  · exact ((s.setHeader_keeps .b _).trans (State.judged_endOp_keeps _)).trans (State.produce_keeps _ _)
  all_goals exact .refl s

/-! ### Resets (R164, R165, R179) -/

/-- A blank store has its whole pool free. -/
theorem State.slotsAccounted_of_blank {s : State} (hs : s.store = Store.blank)
    (hi : ∀ k img, (s.bank k).image = some img → img.fits) : s.slotsAccounted := by
  have hl : ∀ l, s.list l = ListRec.blank := fun l => by simp [State.list, hs, Store.blank]
  refine ⟨?_, fun l => by rw [hl]; exact Nat.zero_le _, fun l _ => hl l, hi⟩
  rw [State.stepsHeld_eq_sum, hs]
  simp [hl, ListRec.blank, Store.blank, Config.stepSlots]

/-- Every block but the banks takes its start-up values. -/
theorem Keeps.fresh {s t : State} (hs : t.store = Store.blank) (hp : ∀ p, t.player p = Player.blank)
    (hi : NoNewImage s t) : Keeps s t :=
  ⟨fun _ => State.usesAgree_of_blank hp fun l => by simp [State.list, hs, Store.blank, ListRec.blank],
    fun _ h => State.slotsAccounted_of_blank hs (hi.fits h)⟩

theorem State.replicate_player (p : PlayerId) : (Vector.replicate 6 Player.blank)[p.val] = Player.blank := by simp

theorem State.startUpValues_keeps (s : State) : Keeps s s.startUpValues :=
  .fresh rfl State.replicate_player (.of_banks rfl rfl)

theorem State.judgeHoldAtBoot_keeps (s : State) : Keeps s s.judgeHoldAtBoot := .other rfl rfl rfl

theorem Store.warm_list (r : Store) (l : ListId) : r.warm.lists[l.val] = r.lists[l.val].cue := by
  simp [Store.warm, ListRec.cue]

theorem Store.warm_freeSlots (r : Store) : r.warm.freeSlots = r.freeSlots := by unfold Store.warm; rfl

/-- A WARM reset leaves the lists, and no use of them (R164). -/
theorem State.warmReset_keeps (s : State) : Keeps s s.warmReset := by
  have hstore : s.warmReset.store = s.store.warm := rfl
  have hplayers : s.warmReset.players = Vector.replicate 6 Player.blank := rfl
  have himages : NoNewImage s s.warmReset := .of_banks rfl rfl
  have hlist : ∀ l, s.warmReset.list l = (s.list l).cue := fun l => by
    simp only [State.list, hstore, Store.warm_list]
  refine .counts_images (fun _ => State.usesAgree_of_blank (fun p => ?_) fun l => ?_) (fun l => ?_)
    (by rw [hstore, Store.warm_freeSlots]) himages.fits
  · simp only [State.player, hplayers, State.replicate_player]
  · rw [hlist]; rfl
  · rw [hlist]; rfl

theorem serveResetWarm_keeps (q : Frame) (s : State) : Keeps s (serveResetWarm q s).1 := by
  unfold serveResetWarm
  split
  · exact s.warmReset_keeps
  · exact .refl s

/-! ### Link events (R143 to R149, R165) -/

theorem State.linkError_keeps (s : State) (cause : LinkCause) : Keeps s (s.linkError cause) :=
  .other (by simp [State.linkError]) (by simp [State.linkError]) (by simp [State.linkError])

theorem State.setRx_keeps (s : State) (rx : Receiver) (timer : Option Nat) : Keeps s (s.setRx rx timer) :=
  .other rfl rfl rfl

theorem State.enterInbox_keeps (s : State) (f : Frame) : Keeps s (s.enterInbox f) := by
  unfold State.enterInbox
  split
  · exact .refl s
  · split
    · split
      · exact .other rfl rfl rfl
      · exact .refl s
    · split <;> exact .other rfl rfl rfl

theorem State.judgeFrame_keeps (s : State) (got : List Byte) (check : BitVec 16) : Keeps s (s.judgeFrame got check) := by
  unfold State.judgeFrame
  split
  · split
    · exact (s.setRx_keeps _ _).trans (State.enterInbox_keeps _ _)
    · exact s.linkError_keeps _
  · exact s.linkError_keeps _

theorem State.rxByte_keeps (s : State) (b : Byte) : Keeps s (s.rxByte b) := by
  unfold State.rxByte
  split
  · split
    · exact s.setRx_keeps _ _
    · exact .refl s
  · split
    · exact s.setRx_keeps _ _
    · exact s.linkError_keeps _
  · split <;> exact s.setRx_keeps _ _
  · exact s.setRx_keeps _ _
  · exact s.judgeFrame_keeps _ _

theorem State.rxBytes_keeps (s : State) (bs : List Byte) : Keeps s (s.rxBytes bs) := by
  rw [State.rxBytes_eq]
  induction bs generalizing s with
  | nil => exact .refl s
  | cons b bs ih => exact (s.rxByte_keeps b).trans (ih _)

theorem State.byteError_keeps (s : State) : Keeps s s.byteError := by
  unfold State.byteError
  split
  · exact s.linkError_keeps _
  · exact .refl s

theorem State.replyEnd_keeps (s : State) (e : ReplyEffect) : Keeps s (s.replyEnd e) := by
  cases e with
  | plain => exact .refl s
  | setRate r => exact .other rfl rfl rfl
  | reload => exact s.startUpValues_keeps.trans (.other rfl rfl rfl)

theorem State.frameEnd_keeps (s : State) : Keeps s s.frameEnd := by
  unfold State.frameEnd
  split
  · exact .refl s
  · simp only
    split
    · exact .after (State.replyEnd_keeps _ _) (.other rfl rfl rfl)
    · exact .other rfl rfl rfl

/-! ### Time, phase ends, inputs and HOLD_IN -/

theorem State.passMicrosecond_keeps (s : State) (o : Order) : Keeps s (s.passMicrosecond o) := by
  have hbyte : Keeps s s.timeByte := by rw [s.timeByte_frame]; exact .other rfl rfl rfl
  exact hbyte.trans (.play (s.passMicrosecond_plays o).uses (s.passMicrosecond_fixed o))

theorem State.phaseRow_keeps (s : State) (p : PlayerId) (o : Order) (a : Activity) (ofRow : StepAction → Bool) :
    Keeps s (s.phaseRow p o a ofRow) := by
  refine State.live_keeps fun s => ?_
  split
  · refine .play (Plays.uses (runActors_plays (fun a s' => ?_) _ s)) (runActors_fixed (fun a s' => ?_) _ s)
    · cases a with
      | player p' =>
        simp only
        split
        · exact s'.phaseEnd_plays p'
        · exact .refl s'
      | safeUnit => exact .refl s'
      | superframeNotice => exact .refl s'
    · cases a with
      | player p' =>
        simp only
        split
        · exact s'.phaseEnd_fixed p'
        · rfl
      | safeUnit => rfl
      | superframeNotice => rfl
  · exact .refl s

/-! ### Start-up (R179, R180) -/

/-- The record of a list that has come in with an image (R21). -/
def SavedList.record (sl : SavedList) : ListRec where
  state    := .sealed
  label    := sl.label
  steps    := sl.steps
  derived  := some (footprintOf sl.steps, durationOf sl.steps)
  useCount := 0

theorem State.restoreList_list (s : State) (sl : SavedList) (l : ListId) :
    (s.restoreList sl).list l = if l = sl.id then sl.record else s.list l :=
  s.setList_list sl.id l _

/-- A list of an image takes the place of a blank record, and its slots leave the pool (R21). -/
theorem State.restoreList_keeps {s : State} {sl : SavedList} (hb : s.list sl.id = ListRec.blank)
    (hlen : sl.steps.length ≤ 255) (hfree : sl.steps.length ≤ s.store.freeSlots) : Keeps s (s.restoreList sl) := by
  refine .list sl.id sl.record rfl rfl rfl (fun _ => ⟨by rw [hb]; rfl, fun _ => rfl⟩) fun _ => ⟨?_, hlen, nofun⟩
  have hslots : (s.restoreList sl).store.freeSlots = s.store.freeSlots - sl.steps.length := rfl
  rw [hb, hslots]
  simp only [SavedList.record, ListRec.blank, List.length_nil]
  omega

/-- The lists of an image that fits come into blank records. -/
theorem State.restoreLists_keeps : ∀ (lists : List SavedList) (s : State), (lists.map SavedList.id).Nodup →
    (∀ sl ∈ lists, sl.steps.length ≤ 255) → (∀ sl ∈ lists, s.list sl.id = ListRec.blank) →
    (lists.map fun sl => sl.steps.length).sum ≤ s.store.freeSlots → Keeps s (lists.foldl State.restoreList s)
  | [], s, _, _, _, _ => .refl s
  | sl :: rest, s, hids, hlen, hblank, hsum => by
    rw [List.map_cons, List.nodup_cons] at hids
    obtain ⟨hnew, hids⟩ := hids
    rw [List.map_cons, List.sum_cons] at hsum
    have hfirst := State.restoreList_keeps (hblank sl (by simp)) (hlen sl (by simp)) (by omega)
    refine hfirst.trans (State.restoreLists_keeps rest _ hids (fun k hk => hlen k (by simp [hk])) (fun k hk => ?_) ?_)
    · rw [s.restoreList_list, if_neg fun e => hnew (by rw [← e]; exact List.mem_map_of_mem hk)]
      exact hblank k (by simp [hk])
    · change _ ≤ s.store.freeSlots - sl.steps.length
      omega

/-- The lists of an image come in unused, and nothing but the store moves. -/
theorem State.restoreLists_frame : ∀ (lists : List SavedList) (s : State),
    lists.foldl State.restoreList s = { s with store := (lists.foldl State.restoreList s).store } ∧
      ((∀ l, (s.list l).useCount = 0) → ∀ l, ((lists.foldl State.restoreList s).list l).useCount = 0)
  | [], _ => ⟨rfl, id⟩
  | sl :: rest, s => by
    obtain ⟨hframe, hunused⟩ := State.restoreLists_frame rest (s.restoreList sl)
    refine ⟨?_, fun h => hunused fun l => ?_⟩
    · rw [List.foldl_cons, hframe]; rfl
    · rw [s.restoreList_list]
      split
      · rfl
      · exact h l

/-- What a load leaves: the players, the Timebase's record, the safe record and the operation in flight, and no bank gets an
image. -/
theorem State.loadBanks_frame (s : State) : s.loadBanks.1.players = s.players ∧ s.loadBanks.1.tb = s.tb ∧
    s.loadBanks.1.safe = s.safe ∧ s.loadBanks.1.image.op = s.image.op := by
  unfold State.loadBanks
  simp only
  split
  · split
    · rename_i img _
      have h := (State.restoreLists_frame img.lists s.judgeBanks).1
      unfold State.loadImage
      simp only
      rw [h]
      exact ⟨rfl, rfl, rfl, rfl⟩
    · exact ⟨rfl, rfl, rfl, rfl⟩
  · exact ⟨rfl, rfl, rfl, rfl⟩

/-- A fitting image comes into a blank store. -/
theorem State.loadImage_keeps {s : State} {k : BankId} {img : Image} (hk : (s.bank k).image = some img)
    (hs : s.store = Store.blank) (hp : ∀ p, s.player p = Player.blank) : Keeps s (s.loadImage img) := by
  have hblank : ∀ l, s.list l = ListRec.blank := fun l => by simp [State.list, hs, Store.blank]
  obtain ⟨hframe, hunused⟩ := State.restoreLists_frame img.lists s
  have hrest : Keeps (img.lists.foldl State.restoreList s) (s.loadImage img) := .table rfl rfl rfl rfl
  refine ⟨fun _ => hrest.uses (State.usesAgree_of_blank (fun p => ?_) (hunused fun l => by rw [hblank]; rfl)),
    fun hu h => ?_⟩
  · rw [hframe]; exact hp p
  · obtain ⟨hids, hlen, hsum⟩ : img.fits := by obtain ⟨-, -, -, hfits⟩ := h; exact hfits k img hk
    have hlists := State.restoreLists_keeps img.lists s hids hlen (fun sl _ => hblank sl.id) (by rw [hs]; exact hsum)
    exact (hlists.trans hrest).slots hu h

theorem State.loadBanks_keeps {s : State} (hs : s.store = Store.blank) (hp : ∀ p, s.player p = Player.blank) :
    Keeps s s.loadBanks.1 := by
  have hjudge : Keeps s s.judgeBanks := .table rfl rfl rfl rfl
  unfold State.loadBanks
  simp only
  split
  · split
    case h_1 img hk => exact hjudge.trans (State.loadImage_keeps hk hs hp)
    case h_2 => exact hjudge
  · exact hjudge

/-- An entry of the table is taken for a player at its start-up values: it keeps both conditions and the image unit, and leaves the
other players that stand at theirs. -/
theorem State.runEntry_keeps {s : State} (o : Order) {p : PlayerId} (hp : s.player p = Player.blank) :
    Keeps s (s.runEntry o p).1 ∧ (s.runEntry o p).1.image = s.image ∧
      ∀ p', p' ≠ p → s.player p' = Player.blank → (s.runEntry o p).1.player p' = Player.blank := by
  have hidle : (s.player p).state = .idle := by rw [hp]; rfl
  have hnone : Keeps s s ∧ s.image = s.image ∧ ∀ p', p' ≠ p → s.player p' = Player.blank → s.player p' = Player.blank :=
    ⟨.refl s, rfl, fun _ _ h => h⟩
  unfold State.runEntry
  split
  case h_1 => exact hnone
  case h_2 e _ =>
    split
    case h_1 hl _ =>
      split
      · exact hnone
      · split
        · exact hnone
        · simp only
          have hbind := State.bindPlayer_keeps e.lines hidle hl
          have hother := (State.bindPlayer_acts e.lines hidle hl).others
          have himage : (s.bindPlayer p e.list e.lines).image = s.image := by simp [State.bindPlayer]
          split
          · exact ⟨hbind, himage, fun p' hne h => (hother p' hne).trans h⟩
          · refine ⟨hbind.trans ((State.startPlayer_keeps _ p _ _ _).trans (State.settle_keeps _ o)), ?_, fun p' hne h => ?_⟩
            · exact (congrArg Fixed.image ((State.settle_fixed _ o).trans (State.startPlayer_fixed _ p _ _ _))).trans himage
            · refine (State.settle_plays _ o).blank p' ?_
              rw [(State.startPlayer_acts _ p _ _ _).others p' hne, hother p' hne, h]
    case h_2 => exact hnone

/-- An action of a start-up keeps both conditions, and what the start-up has not reached yet. -/
theorem State.startUpAction_keeps {s : State} (h : s.bootClean) (o : Order) :
    Keeps s (s.startUpAction o) ∧ (s.startUpAction o).bootClean := by
  cases hb : s.boot with
  | ready =>
    have hstill : s.startUpAction o = s := by simp [State.startUpAction, hb]
    rw [hstill]
    exact ⟨.refl s, h⟩
  | booting stage =>
    cases stage with
    | values =>
      obtain ⟨hop, hp, htb, hsafe, hs⟩ : s.image.op = .none ∧ (∀ p, s.player p = Player.blank) ∧ s.tb.state = .stopped ∧
        s.safe.idle ∧ s.store = Store.blank := by simpa only [State.bootClean, hb] using h
      obtain ⟨hplayers, htb', hsafe', hop'⟩ := s.loadBanks_frame
      rw [State.startUpAction_values hb]
      refine ⟨(State.loadBanks_keeps hs hp).trans (.other rfl rfl rfl), ?_⟩
      change s.loadBanks.1.image.op = .none ∧ (∀ p, s.loadBanks.1.player p = Player.blank) ∧
        s.loadBanks.1.tb.state = .stopped ∧ s.loadBanks.1.safe.idle
      rw [hop', htb', hsafe']
      refine ⟨hop, fun p => ?_, htb, hsafe⟩
      simp only [State.player, hplayers]
      exact hp p
    | loaded load =>
      obtain ⟨hop, hp, htb, -⟩ : s.image.op = .none ∧ (∀ p, s.player p = Player.blank) ∧ s.tb.state = .stopped ∧
        s.safe.idle := by simpa only [State.bootClean, hb] using h
      rw [State.startUpAction_loaded hb]
      exact ⟨s.judgeHoldAtBoot_keeps.trans (.other rfl rfl rfl), hop, hp, htb⟩
    | judged load =>
      obtain ⟨hop, hp, -⟩ : s.image.op = .none ∧ (∀ p, s.player p = Player.blank) ∧ s.tb.state = .stopped := by
        simpa only [State.bootClean, hb] using h
      rw [State.startUpAction_judged hb]
      have haction : Plays s (s.autostartTimebase o) ∧ (s.autostartTimebase o).fixed = s.fixed := by
        unfold State.autostartTimebase
        split
        · exact ⟨s.tbStartAction_plays o, s.tbStartAction_fixed o⟩
        · exact ⟨.refl s, rfl⟩
      obtain ⟨hplays, hfixed⟩ := haction
      refine ⟨(Keeps.play hplays.uses hfixed).trans (.other rfl rfl rfl), ?_, Nat.zero_le _,
        fun p _ => hplays.blank p (hp p)⟩
      exact (congrArg (fun f => f.image.op) hfixed).trans hop
    | autostart load results =>
      obtain ⟨hop, hlen, hp⟩ : s.image.op = .none ∧ results.length ≤ 6 ∧
        ∀ p : PlayerId, results.length ≤ p.val → s.player p = Player.blank := by simpa only [State.bootClean, hb] using h
      rcases Nat.lt_or_ge results.length 6 with hlt | hge
      · obtain ⟨hkeeps, himage, hothers⟩ := State.runEntry_keeps o (hp ⟨results.length, hlt⟩ (Nat.le_refl _))
        rw [State.startUpAction_entry (p := ⟨results.length, hlt⟩) hb rfl]
        refine ⟨hkeeps.trans (.other rfl rfl rfl), ?_, ?_, fun p hle => ?_⟩
        · exact (congrArg ImageUnit.op himage).trans hop
        · rw [List.length_append, List.length_singleton]; exact hlt
        · rw [List.length_append, List.length_singleton] at hle
          exact hothers p (fun e => by rw [e] at hle; simp at hle) (hp p (by omega))
      · rw [State.startUpAction_last hb (by omega)]
        exact ⟨(s.produce_keeps _).trans (.other rfl rfl rfl), trivial⟩

theorem State.startUp_keeps (o : Order) : ∀ (n : Nat) {s : State}, s.bootClean → Keeps s (s.startUp o n)
  | 0, s, _ => .refl s
  | n + 1, s, h => by
    obtain ⟨hkeeps, hclean⟩ := State.startUpAction_keeps h o
    rw [State.startUp_succ]
    exact hkeeps.trans (State.startUp_keeps o n hclean)

end Sys2Proof.Machine

/-! PROOFS. Every row, and every step: use counts go on agreeing and the pool stays accounted for (O54, O56). -/

namespace Sys2Proof.Machine

/-- What an outcome's next state keeps. -/
theorem Keeps.of_next {s t u : State} (h : (Host.Outcome.next u : Host.Outcome State Fault Refusal) = .next t)
    (hu : Keeps s u) : Keeps s t := by
  cases h; exact hu

/-- Every row keeps both conditions, given what a start-up has not reached yet. -/
theorem exec_keeps {s t : State} (c : Instr) (hb : s.bootClean) (h : exec c s = .next t) : Keeps s t := by
  cases c with
  | listCreate => exact .of_next h (State.take_keeps serveListCreate_keeps)
  | listAppend => exact .of_next h (State.take_keeps serveListAppend_keeps)
  | listTruncate => exact .of_next h (State.take_keeps serveListTruncate_keeps)
  | listSeal => exact .of_next h (State.take_keeps serveListSeal_keeps)
  | listUnseal => exact .of_next h (State.take_keeps serveListUnseal_keeps)
  | listDelete => exact .of_next h (State.take_keeps serveListDelete_keeps)
  | listInfo => exact .of_next h (State.take_keeps serveListInfo_keeps)
  | listRead => exact .of_next h (State.take_keeps serveListRead_keeps)
  | storeInfo => exact .of_next h (State.take_keeps fun _ s => .refl s)
  | playerBind => exact .of_next h (State.take_keeps servePlayerBind_keeps)
  | playerUnbind => exact .of_next h (State.take_keeps servePlayerUnbind_keeps)
  | playerStart o => exact .of_next h (State.take_keeps (servePlayerStart_keeps o))
  | playerCancel => exact .of_next h (State.take_keeps servePlayerCancel_keeps)
  | playerStop => exact .of_next h (State.take_keeps servePlayerStop_keeps)
  | playerHold => exact .of_next h (State.take_keeps servePlayerHold_keeps)
  | playerResume o => exact .of_next h (State.take_keeps (servePlayerResume_keeps o))
  | playerSetStop => exact .of_next h (State.take_keeps servePlayerSetStop_keeps)
  | playerClear => exact .of_next h (State.take_keeps servePlayerClear_keeps)
  | playerStatus => exact .of_next h (State.take_keeps fun _ s => onPlayer_keeps fun _ => .refl s)
  | playerReplace => exact .of_next h (State.take_keeps servePlayerReplace_keeps)
  | playerWithdraw => exact .of_next h (State.take_keeps servePlayerWithdraw_keeps)
  | tbStart o => exact .of_next h (State.take_keeps (serveTbStart_keeps o))
  | tbStop o => exact .of_next h (State.take_keeps (serveTbStop_keeps o))
  | tbStatus => exact .of_next h (State.take_keeps fun _ s => .refl s)
  | lineDrive => exact .of_next h (State.take_keeps serveLineDrive_keeps)
  | lineStatus => exact .of_next h (State.take_keeps fun _ s => .refl s)
  | inputRead => exact .of_next h (State.take_keeps serveInputRead_keeps)
  | safeEnter o => exact .of_next h (State.take_keeps (serveSafeEnter_keeps o))
  | safeRelease o => exact .of_next h (State.take_keeps (serveSafeRelease_keeps o))
  | safeStatus => exact .of_next h (State.take_keeps fun _ s => .refl s)
  | paramGet => exact .of_next h (State.take_keeps serveParamGet_keeps)
  | paramSet => exact .of_next h (State.take_keeps (serveParamSet_keeps ownParam_keeps))
  | paramSetStaged => exact .of_next h (State.take_keeps (serveParamSet_keeps ownStaged_keeps))
  | paramSetStoppedClass => exact .of_next h (State.take_keeps (serveParamSet_keeps ownStoppedClass_keeps))
  | paramSetSyncOutSrc => exact .of_next h (State.take_keeps (serveParamSet_keeps ownSyncOutSrc_keeps))
  | paramSetLinkRate => exact .of_next h (State.take_keeps (serveParamSet_keeps fun _ _ _ s => .refl s))
  | paramSetHoldLevel o => exact .of_next h (State.take_keeps (serveParamSet_keeps (ownHoldLevel_keeps o)))
  | paramSetInEdge => exact .of_next h (State.take_keeps (serveParamSet_keeps ownInEdge_keeps))
  | paramSetInFilter => exact .of_next h (State.take_keeps (serveParamSet_keeps ownInFilter_keeps))
  | paramSetLineIdle => exact .of_next h (State.take_keeps (serveParamSet_keeps fun _ _ _ _ => .other rfl rfl rfl))
  | paramSetLineSafe => exact .of_next h (State.take_keeps (serveParamSet_keeps fun _ _ _ _ => .other rfl rfl rfl))
  | paramSetNoticeMask => exact .of_next h (State.take_keeps (serveParamSet_keeps fun _ _ _ _ => .other rfl rfl rfl))
  | noticeMute => exact .of_next h (State.take_keeps (serveMute_keeps true))
  | noticeUnmute => exact .of_next h (State.take_keeps (serveMute_keeps false))
  | imageSave => exact .of_next h (State.take_keeps serveImageSave_keeps)
  | imageErase => exact .of_next h (State.take_keeps serveImageErase_keeps)
  | imageInfo => exact .of_next h (State.take_keeps fun _ s => .refl s)
  | autostartSet => exact .of_next h (State.take_keeps serveAutostartSet_keeps)
  | autostartClear => exact .of_next h (State.take_keeps serveAutostartClear_keeps)
  | autostartRead => exact .of_next h (State.take_keeps fun _ s => .refl s)
  | deviceStatus => exact .of_next h (State.take_keeps fun _ s => .refl s)
  | deviceResetWarm => exact .of_next h (State.take_keeps serveResetWarm_keeps)
  | deviceResetReload => exact .of_next h (State.take_keeps fun _ _ => .other rfl rfl rfl)
  | unknownKindRequest => exact .of_next h (State.take_keeps fun _ s => .refl s)
  | frameReceived f =>
    refine .of_next h (State.live_keeps fun s => ?_)
    split
    · exact s.rxBytes_keeps _
    · exact .refl s
  | linkBadLength len =>
    refine .of_next h (State.live_keeps fun s => ?_)
    split
    · exact s.rxByte_keeps len
    · exact .refl s
  | linkByteError => exact .of_next h (State.live_keeps State.byteError_keeps)
  | linkTimeout =>
    refine .of_next h (State.live_keeps fun s => ?_)
    split
    · exact s.linkError_keeps _
    · exact .refl s
  | frameSent => exact .of_next h (State.live_keeps State.frameEnd_keeps)
  | internalTick o =>
    refine .of_next h (State.live_keeps fun s => ?_)
    split
    · exact s.passMicrosecond_keeps o
    · exact .refl s
  | tickInEdge o =>
    refine .of_next h (State.live_keeps fun s => ?_)
    split
    · exact .play (s.tick_plays o).uses (s.tick_fixed o)
    · exact .refl s
  | syncInEdge level o =>
    change execSyncInEdge level o s = .next t at h
    unfold execSyncInEdge at h
    split at h
    · exact .of_next h (State.live_keeps fun s => .play (s.syncChange_plays level o).uses (s.syncChange_fixed level o))
    all_goals exact .of_next h (.other rfl rfl rfl)
  | syncOutPulseEnd =>
    refine .of_next h (State.live_keeps fun s => ?_)
    split
    · exact .other rfl rfl rfl
    · exact .refl s
  | setDwellEnd p o => exact .of_next h (s.phaseRow_keeps p o _ _)
  | pulseTrailingEdge p o => exact .of_next h (s.phaseRow_keeps p o _ _)
  | pulseDwellEnd p o => exact .of_next h (s.phaseRow_keeps p o _ _)
  | waitEdgeTimeout p o => exact .of_next h (s.phaseRow_keeps p o _ _)
  | acceptedChange n o =>
    exact .of_next h (State.live_keeps fun s => .play (s.acceptChange_plays n o).uses (s.acceptChange_fixed n o))
  | holdInChange level o =>
    change execHoldInChange level o s = .next t at h
    unfold execHoldInChange at h
    split at h
    · exact .of_next h (State.live_keeps fun s => .play (s.holdSample_plays level o).uses (s.holdSample_fixed level o))
    all_goals exact .of_next h (.other rfl rfl rfl)
  | saveCompletion ok => exact .of_next h (State.live_keeps fun s => s.completeSave_keeps ok)
  | eraseCompletion ok => exact .of_next h (State.live_keeps fun s => s.completeErase_keeps ok)
  | startUpReset cause =>
    change execStartUpReset cause s = .next t at h
    unfold execStartUpReset at h
    split at h
    · exact .of_next h (.refl s)
    · exact .of_next h (s.startUpValues_keeps.trans (.other rfl rfl rfl))
  | imageLoad o =>
    refine .of_next h ?_
    unfold State.live
    split
    · exact (State.startUp_keeps o _ hb).trans (State.transmit_keeps _)
    all_goals exact .refl s
  | sofReceived =>
    refine .of_next h (State.live_keeps fun s => ?_)
    split
    · exact s.rxByte_keeps _
    · exact .refl s
  | inputSample n level o =>
    exact .of_next h (State.live_keeps fun s => .play (s.sample_plays n level o).uses (s.sample_fixed n level o))
  | bankATreated ok => exact .of_next h (State.live_keeps fun s => s.treatedA_keeps ok)
  | resetNRelease =>
    change execResetNRelease s = .next t at h
    unfold execResetNRelease at h
    split at h
    · exact .of_next h (.other rfl rfl rfl)
    all_goals exact .of_next h (.refl s)
  | powerFailure => exact .of_next h (.table rfl rfl rfl rfl)

/-- Every step keeps both conditions. -/
theorem step_keeps {s t : State} (hb : s.bootClean) (h : step s = .next t) : Keeps s t := by
  unfold step at h
  split at h
  case h_1 c rest _ =>
    have hpop : Keeps s { s with pending := rest } := .other rfl rfl rfl
    exact hpop.trans (exec_keeps c hb h)
  case h_2 =>
    cases h
    exact State.live_keeps fun s => s.passMicrosecond_keeps _

/-- Settles O54: `Keeps` says it of every operation, the users of a list being counted player by player. -/
theorem useCountsAgreeAtEveryStep : Obligations.UseCountsAgreeAtEveryStep :=
  fun _ _ hb hu h => (step_keeps hb h).uses hu

/-- Settles O56: the store-changing rows exchange the slots of one list with the pool, playing moves use counts alone, and a FREE
record stays blank because nothing uses it. -/
theorem slotsAreAccountedForAtEveryStep : Obligations.SlotsAreAccountedForAtEveryStep :=
  fun _ _ hb hu hs h => (step_keeps hb h).slots hu hs

end Sys2Proof.Machine

/-! PROOFS. How a take row answers, and the store-changing requests of the Cue Store (O5, O6, O7, O9). -/

namespace Sys2Proof.Machine

/-! ### How a take row answers (R156, R157) -/

/-- A take in READY of a request of a known KIND and an allowed length answers as its block's own part does. -/
theorem State.take_answered {s t : State} {kind : Byte} {payload : List Byte} {q : Frame} {rest : List Frame}
    {serve : Frame → State → State × Reply} {st : Status} {fields : List Byte} (h : s.asked kind payload q rest)
    (hk : knownKind kind = true) (hl : lengthAllowed kind payload.length = true)
    (hserve : serve q (s.taking rest) = (t, Reply.of st fields)) :
    .next (s.take (ofKind kind) serve) = t.answered q st fields := by
  have hm : ofKind kind q = true := by
    obtain ⟨-, -, hq, -⟩ := h
    simp [ofKind, hq]
  rw [State.take_asked h hm hk hl, hserve]
  rfl

/-- A take in READY of a request of a length that R159 does not allow. -/
theorem State.take_badLength {s : State} {kind : Byte} {payload : List Byte} {q : Frame} {rest : List Frame}
    {serve : Frame → State → State × Reply} (h : s.asked kind payload q rest) (hk : knownKind kind = true)
    (hl : lengthAllowed kind payload.length = false) :
    .next (s.take (ofKind kind) serve) = (s.taking rest).answered q .badLength [] := by
  obtain ⟨hf, hb, hq, hp⟩ := h
  rw [State.take_front hf (by simp [ofKind, hq])]
  simp [State.answer, State.sharedRefusal, hb, hq, hp, hk, hl, State.answered, Reply.bare, Reply.of]

theorem State.asked.payload_eq {s : State} {kind : Byte} {payload : List Byte} {q : Frame} {rest : List Frame}
    (h : s.asked kind payload q rest) : q.payload = payload := by
  obtain ⟨-, -, -, hp⟩ := h
  exact hp

/-! ### A list by its byte (R11) -/

theorem finByte_list_ne_ff : ∀ l : ListId, finByte l ≠ 255#8 := by decide

@[simp] theorem byteOf_toNat (b : Byte) : byteOf b.toNat = b := by simp [byteOf]

theorem State.changeList_free {s : State} (l : ListId) (own : ListId → State × Reply) (h : s.store.busy = false) :
    s.changeList (finByte l) own = own l := by
  simp [State.changeList, h]

theorem State.changeList_busy {s : State} (l : ListId) (own : ListId → State × Reply) (h : s.store.busy = true) :
    s.changeList (finByte l) own = refuse s .storeBusy := by
  simp [State.changeList, h]

/-! ### LIST_CREATE (R12) -/

theorem allLists_getElem {j : Nat} (h : j < allLists.length) : allLists[j] = ⟨j, by simpa [allLists] using h⟩ := by
  simp only [allLists, List.getElem_ofFn, id]

/-- The lowest FREE record is the one below which none is FREE. -/
theorem State.lowestFree_eq {s : State} {l : ListId} (hl : (s.list l).state = .free)
    (hlow : ∀ k : ListId, k < l → (s.list k).state ≠ .free) : s.lowestFree = some l := by
  rw [State.lowestFree, List.find?_eq_some_iff_getElem]
  refine ⟨by simpa using hl, l.val, by simp [allLists], allLists_getElem _, fun j hj => ?_⟩
  rw [allLists_getElem]
  simpa using hlow ⟨j, by omega⟩ hj

theorem serveListCreate_opens {s : State} {q : Frame} {id : Byte} {label : List Byte} {l : ListId}
    (hq : q.payload = id :: label) (hlabel : label.all printable = true) (hbusy : s.store.busy = false)
    (hl : (s.list l).state = .free)
    (hid : id = finByte l ∨ (id = 0xFF ∧ ∀ k : ListId, k < l → (s.list k).state ≠ .free)) :
    serveListCreate q s = s.openList l label := by
  rcases hid with rfl | ⟨rfl, hlow⟩
  · simp [serveListCreate, hq, hlabel, hbusy, finByte_list_ne_ff l, hl]
  · simp [serveListCreate, hq, hlabel, hbusy, State.lowestFree_eq hl hlow]

theorem serveListCreate_busy {s : State} {q : Frame} {id : Byte} {label : List Byte} {l : ListId}
    (hq : q.payload = id :: label) (hlabel : label.all printable = true) (hbusy : s.store.busy = true)
    (hid : id = finByte l ∨ id = 0xFF) : serveListCreate q s = refuse s .storeBusy := by
  rcases hid with rfl | rfl <;> simp [serveListCreate, hq, hlabel, hbusy]

/-- A LIST_CREATE has an id and a label of at most 12 characters (R159). -/
theorem lengthAllowed_create {label : List Byte} (h : label.length ≤ 12) (id : Byte) :
    lengthAllowed 0x10 (id :: label).length = true := by
  simp only [lengthAllowed, if_true, List.length_cons, Bool.and_eq_true, decide_eq_true_eq]
  omega

/-! ### LIST_TRUNCATE (R14) -/

theorem serveListTruncate_opened {s : State} {q : Frame} {l : ListId} {len : Byte} (hq : q.payload = [finByte l, len])
    (hbusy : s.store.busy = false) (ho : (s.list l).state = .opened) :
    (len.toNat < (s.list l).steps.length → serveListTruncate q s = (s.truncateList l len.toNat,
      Reply.of .ok (len :: be16 (s.store.freeSlots + ((s.list l).steps.length - len.toNat))))) ∧
    (len.toNat = (s.list l).steps.length → serveListTruncate q s =
      (s, Reply.of .already (byteOf (s.list l).steps.length :: be16 s.store.freeSlots))) ∧
    ((s.list l).steps.length < len.toNat → serveListTruncate q s = refuse s .badValue) := by
  simp only [serveListTruncate, hq, State.changeList_free l _ hbusy, ho, ne_eq, not_true_eq_false, if_false]
  refine ⟨fun h => ?_, fun h => ?_, fun h => ?_⟩
  · have hlist : ((s.truncateList l len.toNat).list l).steps = (s.list l).steps.take len.toNat := by
      change ((s.setList l _).list l).steps = _
      rw [s.setList_list_same]
    rw [if_neg (by omega), if_neg (by omega), hlist, List.length_take_of_le (by omega), byteOf_toNat]
    rfl
  · rw [if_neg (by omega), if_pos h]
  · rw [if_pos h]

/-! ### LIST_UNSEAL and LIST_DELETE (R16, R17) -/

theorem serveListUnseal_sealed {s : State} {q : Frame} {l : ListId} (hq : q.payload = [finByte l])
    (hbusy : s.store.busy = false) (hl : (s.list l).state = .sealed) :
    ((s.list l).useCount = 0 → serveListUnseal q s =
      (s.setList l { s.list l with state := .opened, derived := none }, Reply.of .ok [byteOf (s.list l).steps.length])) ∧
    (0 < (s.list l).useCount → serveListUnseal q s = refuse s .inUse) := by
  simp only [serveListUnseal, hq, State.changeList_free l _ hbusy, hl]
  exact ⟨fun h => if_neg (by omega), fun h => if_pos h⟩

theorem serveListUnseal_opened {s : State} {q : Frame} {l : ListId} (hq : q.payload = [finByte l])
    (hbusy : s.store.busy = false) (hl : (s.list l).state = .opened) : serveListUnseal q s = refuse s .already := by
  simp only [serveListUnseal, hq, State.changeList_free l _ hbusy, hl]

theorem serveListDelete_used {s : State} {q : Frame} {l : ListId} (hq : q.payload = [finByte l])
    (hbusy : s.store.busy = false) (hl : (s.list l).state ≠ .free) :
    ((s.list l).useCount = 0 → serveListDelete q s =
      (s.deleteList l, Reply.of .ok (be16 (s.store.freeSlots + (s.list l).steps.length)))) ∧
    (0 < (s.list l).useCount → serveListDelete q s = refuse s .inUse) := by
  simp only [serveListDelete, hq, State.changeList_free l _ hbusy, if_neg hl]
  exact ⟨fun h => if_neg (by omega), fun h => if_pos h⟩

theorem serveListDelete_free {s : State} {q : Frame} {l : ListId} (hq : q.payload = [finByte l])
    (hbusy : s.store.busy = false) (hl : (s.list l).state = .free) : serveListDelete q s = refuse s .already := by
  simp only [serveListDelete, hq, State.changeList_free l _ hbusy, if_pos hl]

/-- Settles O5: each request is answered as its serve function is, of the state without the request. -/
theorem listsAreCreatedTruncatedUnsealedAndDeleted : Obligations.ListsAreCreatedTruncatedUnsealedAndDeleted := by
  refine ⟨fun s q rest id label l h hlen hlabel hbusy hl hid => ?_, fun s q rest l len h hbusy ho => ?_,
    fun s q rest l hbusy => ⟨fun h => ⟨fun hl hu => ?_, fun hl hu => ?_, fun hl => ?_⟩,
      fun h => ⟨fun hl hu => ?_, fun hl hu => ?_, fun hl => ?_⟩⟩⟩
  · exact State.take_answered h rfl (lengthAllowed_create hlen id)
      (serveListCreate_opens (s := s.taking rest) h.payload_eq hlabel hbusy hl hid)
  · obtain ⟨hbelow, hequal, habove⟩ := serveListTruncate_opened (s := s.taking rest) h.payload_eq hbusy ho
    exact ⟨fun hlt => State.take_answered h rfl rfl (hbelow hlt), fun heq => State.take_answered h rfl rfl (hequal heq),
      fun hgt => State.take_answered h rfl rfl (habove hgt)⟩
  · exact State.take_answered h rfl rfl ((serveListUnseal_sealed (s := s.taking rest) h.payload_eq hbusy hl).1 hu)
  · exact State.take_answered h rfl rfl ((serveListUnseal_sealed (s := s.taking rest) h.payload_eq hbusy hl).2 hu)
  · exact State.take_answered h rfl rfl (serveListUnseal_opened (s := s.taking rest) h.payload_eq hbusy hl)
  · exact State.take_answered h rfl rfl ((serveListDelete_used (s := s.taking rest) h.payload_eq hbusy hl).1 hu)
  · exact State.take_answered h rfl rfl ((serveListDelete_used (s := s.taking rest) h.payload_eq hbusy hl).2 hu)
  · exact State.take_answered h rfl rfl (serveListDelete_free (s := s.taking rest) h.payload_eq hbusy hl)

/-! ### LIST_APPEND (R8, R13) -/

/-- A LIST_APPEND has an id and 1 to 16 records of 12 bytes (R159). -/
theorem lengthAllowed_append_iff (len : Nat) :
    lengthAllowed 0x11 len = true ↔ ∃ n, 1 ≤ n ∧ n ≤ 16 ∧ len = 1 + 12 * n := by
  simp only [lengthAllowed, BitVec.reduceEq, if_false, if_true, Bool.and_eq_true, decide_eq_true_eq]
  exact ⟨fun h => ⟨len / 12, by omega, by omega, by omega⟩, fun ⟨n, _, _, _⟩ => by omega⟩

theorem flatten_length_of_records {records : List (List Byte)} (h : ∀ r ∈ records, r.length = 12) :
    records.flatten.length = 12 * records.length := by
  induction records with
  | nil => rfl
  | cons r rs ih =>
    rw [List.flatten_cons, List.length_append, h r (by simp), ih fun r' h' => h r' (by simp [h']), List.length_cons]
    omega

/-- The first record that holds no step is the one reported (R8). -/
theorem stepsOf_first_invalid : ∀ (records : List (List Byte)) (i k : Nat), k < records.length →
    (records[k]?.bind Step.ofRecord) = none → (∀ j, j < k → (records[j]?.bind Step.ofRecord).isSome = true) →
    stepsOf i records = .error (i + k)
  | r :: rs, i, 0, _, hk, _ => by
    have hr : Step.ofRecord r = none := by simpa using hk
    simp [stepsOf, hr]
  | r :: rs, i, k + 1, hlt, hk, hbefore => by
    obtain ⟨st, hr⟩ : ∃ st, Step.ofRecord r = some st := Option.isSome_iff_exists.mp (by simpa using hbefore 0 (by omega))
    have hrest := stepsOf_first_invalid rs (i + 1) k (by simpa using hlt) (by simpa using hk)
      fun j hj => by simpa using hbefore (j + 1) (by omega)
    simp only [stepsOf, hr, hrest]
    congr 1
    omega

/-- Records that all hold a step are read as so many steps (R8). -/
theorem stepsOf_all_valid : ∀ (records : List (List Byte)) (i : Nat),
    (∀ r ∈ records, (Step.ofRecord r).isSome = true) →
    ∃ steps, stepsOf i records = .ok steps ∧ steps.length = records.length
  | [], _, _ => ⟨[], rfl, rfl⟩
  | r :: rs, i, h => by
    obtain ⟨st, hr⟩ := Option.isSome_iff_exists.mp (h r (by simp))
    obtain ⟨steps, hrest, hlen⟩ := stepsOf_all_valid rs (i + 1) fun r' h' => h r' (by simp [h'])
    exact ⟨st :: steps, by simp [stepsOf, hr, hrest], by simp [hlen]⟩

theorem serveListAppend_opened {s : State} {q : Frame} {l : ListId} {body : List Byte}
    (hq : q.payload = finByte l :: body) (hbusy : s.store.busy = false) (ho : (s.list l).state = .opened) :
    (∀ k, stepsOf 0 (stepRecords body) = .error k → serveListAppend q s = (s, Reply.of .invalidStep [byteOf k])) ∧
    ∀ steps, stepsOf 0 (stepRecords body) = .ok steps →
      (255 < (s.list l).steps.length + steps.length → serveListAppend q s = refuse s .listFull) ∧
      ((s.list l).steps.length + steps.length ≤ 255 → s.store.freeSlots < steps.length →
        serveListAppend q s = refuse s .storeFull) ∧
      ((s.list l).steps.length + steps.length ≤ 255 → steps.length ≤ s.store.freeSlots →
        serveListAppend q s = (s.appendSteps l steps,
          Reply.of .ok (byteOf ((s.list l).steps.length + steps.length) :: be16 (s.store.freeSlots - steps.length)))) := by
  simp only [serveListAppend, hq, State.changeList_free l _ hbusy, ho, ne_eq, not_true_eq_false, if_false]
  refine ⟨fun k hk => by rw [hk], fun steps hsteps => ?_⟩
  rw [hsteps]
  refine ⟨fun h => if_pos h, fun h hfew => ?_, fun h hroom => ?_⟩
  · exact (if_neg (Nat.not_lt.mpr h)).trans (if_pos hfew)
  · have hlist : ((s.appendSteps l steps).list l).steps = (s.list l).steps ++ steps := by
      change ((s.setList l _).list l).steps = _
      rw [s.setList_list_same]
    refine (if_neg (Nat.not_lt.mpr h)).trans ((if_neg (Nat.not_lt.mpr hroom)).trans ?_)
    simp only [hlist, List.length_append]
    rfl

theorem serveListAppend_wrongState {s : State} {q : Frame} {l : ListId} {body : List Byte}
    (hq : q.payload = finByte l :: body) (hbusy : s.store.busy = false) (hl : (s.list l).state ≠ .opened) :
    serveListAppend q s = refuse s .wrongState := by
  simp only [serveListAppend, hq, State.changeList_free l _ hbusy, if_pos hl]

/-- Settles O6: the records are read one by one, and what they hold joins the list or is refused whole. -/
theorem listAppendAddsAllOrNothing : Obligations.ListAppendAddsAllOrNothing := by
  refine ⟨fun s q rest l steps h hone hmany hvalid hbusy ho hlen hfree => ?_,
    fun s q rest l records h hrecords hone hmany hbusy ho => ?_, fun s q rest l payload h => ⟨fun hbad => ?_,
      fun n body hone hmany hpayload hbody hbusy hl => ?_⟩⟩
  · have hrecords : ∀ r ∈ steps.map Step.record, r.length = 12 := by simp
    have hbytes := flatten_length_of_records hrecords
    rw [List.length_map] at hbytes
    obtain ⟨-, hall⟩ := serveListAppend_opened (s := s.taking rest) h.payload_eq hbusy ho
    obtain ⟨-, -, hok⟩ := hall steps (by rw [stepRecords_flatten _ hrecords, stepsOf_records 0 steps hvalid])
    refine State.take_answered h rfl ((lengthAllowed_append_iff _).mpr ⟨steps.length, hone, hmany, ?_⟩) (hok hlen hfree)
    rw [List.length_cons, hbytes]
    omega
  · have hallowed : lengthAllowed 0x11 (finByte l :: records.flatten).length = true := by
      refine (lengthAllowed_append_iff _).mpr ⟨records.length, hone, hmany, ?_⟩
      rw [List.length_cons, flatten_length_of_records hrecords]
      omega
    obtain ⟨hinvalid, hall⟩ := serveListAppend_opened (s := s.taking rest) h.payload_eq hbusy ho
    rw [stepRecords_flatten _ hrecords] at hinvalid hall
    refine ⟨fun k hk hnone hbefore => ?_, fun hvalid => ?_⟩
    · have herror := stepsOf_first_invalid records 0 k hk hnone hbefore
      rw [Nat.zero_add] at herror
      exact State.take_answered h rfl hallowed (hinvalid k herror)
    · obtain ⟨steps, hsteps, hlen⟩ := stepsOf_all_valid records 0 hvalid
      obtain ⟨hlong, hfew, -⟩ := hall steps hsteps
      rw [hlen] at hlong hfew
      exact ⟨fun hl => State.take_answered h rfl hallowed (hlong hl),
        fun hl hf => State.take_answered h rfl hallowed (hfew hl hf)⟩
  · refine State.take_badLength h rfl (Bool.eq_false_iff.mpr fun hallowed => ?_)
    obtain ⟨n, hone, hmany, hn⟩ := (lengthAllowed_append_iff _).mp hallowed
    exact hbad n hone hmany hn
  · have hallowed : lengthAllowed 0x11 payload.length = true := by
      refine (lengthAllowed_append_iff _).mpr ⟨n, hone, hmany, ?_⟩
      rw [hpayload, List.length_cons, hbody]
      omega
    refine State.take_answered h rfl hallowed
      (serveListAppend_wrongState (s := s.taking rest) (h.payload_eq.trans hpayload) hbusy ?_)
    rw [State.taking_list]
    rcases hl with hl | hl <;> rw [hl] <;> nofun

/-! ### LIST_SEAL (R5, R15) -/

theorem footprintOf_getLsbD (steps : List Step) (i : Nat) :
    (footprintOf steps).getLsbD i = steps.any fun st => st.footprint.getLsbD i := by
  induction steps with
  | nil => simp [footprintOf]
  | cons st rest ih =>
    rw [List.any_cons, ← ih, ← BitVec.getLsbD_or]
    rfl

theorem durationOf_eq_sum (steps : List Step) : durationOf steps = (steps.map Step.duration).sum := by
  induction steps with
  | nil => rfl
  | cons st rest ih => rw [List.map_cons, List.sum_cons, ← ih]; rfl

theorem serveListSeal_opened {s : State} {q : Frame} {l : ListId} (hq : q.payload = [finByte l])
    (hbusy : s.store.busy = false) (hl : (s.list l).state = .opened) :
    ((s.list l).steps ≠ [] → serveListSeal q s =
      (s.setList l (s.list l).sealed, Reply.of .ok (s.list l).sealed.derivedBytes)) ∧
    ((s.list l).steps = [] → serveListSeal q s = refuse s .wrongState) := by
  simp only [serveListSeal, hq, State.changeList_free l _ hbusy, hl]
  exact ⟨fun h => if_neg h, fun h => if_pos h⟩

theorem serveListSeal_sealed {s : State} {q : Frame} {l : ListId} (hq : q.payload = [finByte l])
    (hbusy : s.store.busy = false) (hl : (s.list l).state = .sealed) :
    serveListSeal q s = (s, Reply.of .already (s.list l).derivedBytes) := by
  simp only [serveListSeal, hq, State.changeList_free l _ hbusy, hl]

theorem serveListSeal_free {s : State} {q : Frame} {l : ListId} (hq : q.payload = [finByte l])
    (hbusy : s.store.busy = false) (hl : (s.list l).state = .free) : serveListSeal q s = refuse s .wrongState := by
  simp only [serveListSeal, hq, State.changeList_free l _ hbusy, hl]

theorem ListRec.derivedBytes_some {r : ListRec} {fp : LineSet} {d : Nat} (h : r.derived = some (fp, d)) :
    r.derivedBytes = lineBytes fp ++ be32 d := by
  simp only [ListRec.derivedBytes, h]

/-- Settles O7: footprint and fixed duration are sums over the steps, and the seal derives them. -/
theorem listSealDerivesFootprintAndDuration : Obligations.ListSealDerivesFootprintAndDuration := by
  intro s q rest l h hbusy
  refine ⟨fun i => ?_, ?_, fun hl hsteps => ?_, fun fp d hl hd => ?_, fun hl => ?_⟩
  · rw [footprintOf_getLsbD]
    congr 1
    funext st
    unfold Step.footprint
    cases st.action with
    | set lines levels dwell => rfl
    | pulse lines levels width dwell => rfl
    | waitEdge input timeout => exact BitVec.getLsbD_zero
    | align offset => exact BitVec.getLsbD_zero
  · exact durationOf_eq_sum _
  · have hserve := (serveListSeal_opened (s := s.taking rest) h.payload_eq hbusy hl).1 hsteps
    rw [ListRec.derivedBytes_some rfl] at hserve
    exact State.take_answered h rfl rfl hserve
  · have hserve := serveListSeal_sealed (s := s.taking rest) h.payload_eq hbusy hl
    rw [State.taking_list, ListRec.derivedBytes_some hd] at hserve
    exact State.take_answered h rfl rfl hserve
  · rcases hl with hl | ⟨hl, hsteps⟩
    · exact State.take_answered h rfl rfl (serveListSeal_free (s := s.taking rest) h.payload_eq hbusy hl)
    · exact State.take_answered h rfl rfl ((serveListSeal_opened (s := s.taking rest) h.payload_eq hbusy hl).2 hsteps)

/-! ### The store-busy flag (R10, R11, R178) -/

theorem autoEntryOf_bytes (p : PlayerId) (l : ListId) (lines : LineSet) (sp : StartPoint) (limit stop : Byte) :
    autoEntryOf p (finByte p) (finByte l) (lines.extractLsb' 0 8) (lines.extractLsb' 8 8) (lines.extractLsb' 16 8)
      sp.code ((sp.inputOf.map finByte).getD 0) limit stop =
      .ok { list := l, lines := lines, start := sp, passLimit := limit.toNat, stopIndex := stopOf stop } := by
  simp only [autoEntryOf, playerOf_finByte, ne_eq, not_true_eq_false, if_false, listOf_finByte, startPointOf_code,
    linesOf_lineBytes]

theorem serveAutostartClear_busy {s : State} {q : Frame} {entry : Byte} (hq : q.payload = [entry])
    (he : entry.toNat ≤ 6 ∨ entry = 0xFF) (hbusy : s.store.busy = true) :
    serveAutostartClear q s = refuse s .storeBusy := by
  have hnamed : ¬(entry ≠ 0xFF ∧ 6 < entry.toNat) := fun ⟨hff, hlt⟩ => he.elim (Nat.not_le.mpr hlt) hff
  simp only [serveAutostartClear, hq, if_neg hnamed, hbusy, if_true]

/-- Settles O9: each of these requests comes to the store-busy check, and no further. -/
theorem storeBusyRefusesStoreChanges : Obligations.StoreBusyRefusesStoreChanges := by
  intro s q rest l hbusy
  have hlist : ∀ own, (s.taking rest).changeList (finByte l) own = refuse (s.taking rest) .storeBusy := fun own =>
    State.changeList_busy l own hbusy
  refine ⟨fun id label hid h hlen hlabel => ?_, fun body h hlen => ?_, fun len h => ?_, fun h => ?_, fun h => ?_,
    fun h => ?_, fun flag h hflag => ?_, fun p lines sp limit stop h => ?_, fun entry he h => ?_⟩
  · exact State.take_answered h rfl (lengthAllowed_create hlen id)
      (serveListCreate_busy (s := s.taking rest) h.payload_eq hlabel hbusy hid)
  · refine State.take_answered h rfl hlen ?_
    simp only [serveListAppend, h.payload_eq]
    exact hlist _
  · refine State.take_answered h rfl rfl ?_
    simp only [serveListTruncate, h.payload_eq]
    exact hlist _
  · refine State.take_answered h rfl rfl ?_
    simp only [serveListSeal, h.payload_eq]
    exact hlist _
  · refine State.take_answered h rfl rfl ?_
    simp only [serveListUnseal, h.payload_eq]
    exact hlist _
  · refine State.take_answered h rfl rfl ?_
    simp only [serveListDelete, h.payload_eq]
    exact hlist _
  · refine State.take_answered h rfl rfl ?_
    have hentry : playerOf 6 = none := by decide
    have hlegal : ¬(flag ≠ 0 ∧ flag ≠ 1) := fun ⟨h0, h1⟩ => hflag.elim h0 h1
    simp only [serveAutostartSet, h.payload_eq, hentry, if_true, serveAutoFlag, if_neg hlegal, State.taking_store, hbusy]
    rfl
  · refine State.take_answered h rfl rfl ?_
    simp only [serveAutostartSet, h.payload_eq, lineBytes, List.cons_append, List.nil_append, playerOf_finByte,
      serveAutoEntry, autoEntryOf_bytes, State.taking_store, hbusy, if_true]
    rfl
  · exact State.take_answered h rfl rfl (serveAutostartClear_busy (s := s.taking rest) h.payload_eq he hbusy)

end Sys2Proof.Machine

/-! PROOFS. The reports of the Cue Store (O8), the step record (O10) and the state after reset (O50). -/

namespace Sys2Proof.Machine

/-! ### LIST_INFO and LIST_READ (R18, R19) -/

/-- What is reported of footprint and fixed duration is empty and 0 while they are not derived (R18). -/
theorem ListRec.derivedBytes_eq (r : ListRec) :
    r.derivedBytes = lineBytes ((r.derived.map Prod.fst).getD 0) ++ be32 ((r.derived.map Prod.snd).getD 0) := by
  unfold ListRec.derivedBytes
  cases r.derived with
  | none => rfl
  | some d => rfl

theorem serveListInfo_eq {s : State} {q : Frame} {l : ListId} (hq : q.payload = [finByte l]) :
    serveListInfo q s = (s, Reply.of .ok ([finByte l, (s.list l).state.code, byteOf (s.list l).label.length] ++
      (s.list l).label ++ [byteOf (s.list l).steps.length] ++ (s.list l).derivedBytes ++
      [markByte (s.list l).derived.isSome, byteOf (s.list l).useCount])) := by
  simp only [serveListInfo, hq, listOf_finByte]

theorem serveListRead_ok {s : State} {q : Frame} {l : ListId} {first count : Byte}
    (hq : q.payload = [finByte l, first, count]) (hff : first ≠ 0xFF) (hone : 1 ≤ count.toNat) (hmany : count.toNat ≤ 16)
    (hl : (s.list l).state ≠ .free) (hin : first.toNat < (s.list l).steps.length) :
    serveListRead q s = (s, Reply.of .ok
      ([finByte l, first, byteOf (min count.toNat ((s.list l).steps.length - first.toNat))] ++
        ((((s.list l).steps.drop first.toNat).take count.toNat).map Step.record).flatten)) := by
  have hcount : ¬(first = 0xFF ∨ count = 0 ∨ 16 < count.toNat) := by
    rintro (h | rfl | h)
    · exact hff h
    · exact absurd hone (by decide)
    · omega
  simp only [serveListRead, hq, if_neg hcount, listOf_finByte, if_neg hl, if_neg (Nat.not_le.mpr hin), List.length_take,
    List.length_drop]

/-! ### STORE_INFO (R20, R159) -/

/-- A byte of marks, gathered mark by mark from the lowest bit. -/
theorem foldl_marks_getLsbD (mark : Nat → Bool) (n j : Nat) :
    ((List.range n).foldl (fun (acc : Byte) i => if mark i then acc ||| (1#8 <<< i) else acc) 0).getLsbD j =
      (decide (j < n) && decide (j < 8) && mark j) := by
  induction n with
  | zero => simp
  | succ n ih =>
    rw [List.range_succ, List.foldl_append, List.foldl_cons, List.foldl_nil]
    by_cases hm : mark n = true
    · rw [if_pos hm, BitVec.getLsbD_or, ih]
      by_cases hj : j = n
      · subst hj; simp [hm]
      · have hother : (1#8 <<< n).getLsbD j = false := by
          rw [← BitVec.twoPow_eq, BitVec.getLsbD_twoPow]
          simp [Ne.symm hj]
        rw [hother, Bool.or_false]
        congr 2
        exact decide_eq_decide.mpr (by omega)
    · rw [if_neg hm, ih]
      by_cases hj : j = n
      · subst hj; simp [Bool.eq_false_iff.mpr hm]
      · congr 2
        exact decide_eq_decide.mpr (by omega)

/-- The record at a number is there and FREE. -/
def State.freeAt (s : State) (n : Nat) : Bool :=
  match s.store.lists[n]? with
  | some r => decide (r.state = .free)
  | none => false

theorem State.freeAt_list (s : State) (l : ListId) : s.freeAt l.val = decide ((s.list l).state = .free) := by
  unfold State.freeAt
  rw [Vector.getElem?_eq_getElem l.isLt]
  rfl

theorem State.freeIdBytes_eq (s : State) : s.freeIdBytes = (List.range 8).map fun k =>
    (List.range 8).foldl (fun (acc : Byte) i => if s.freeAt (8 * k + i) then acc ||| (1#8 <<< i) else acc) 0 := by
  unfold State.freeIdBytes
  congr 1
  funext k
  congr 1
  funext acc i
  unfold State.freeAt
  cases s.store.lists[8 * k + i]? with
  | none => rfl
  | some r => simp only [decide_eq_true_eq]

/-- Bit i of byte k tells whether the record 8k+i is FREE (R159). -/
theorem State.freeIdBytes_getLsbD (s : State) (l : ListId) :
    ((s.freeIdBytes[l.val / 8]?).getD 0).getLsbD (l.val % 8) = decide ((s.list l).state = .free) := by
  have hbyte : l.val / 8 < 8 := by omega
  have hplace : 8 * (l.val / 8) + l.val % 8 = l.val := Nat.div_add_mod _ _
  have hbit : l.val % 8 < 8 := Nat.mod_lt _ (by omega)
  rw [State.freeIdBytes_eq, List.getElem?_map, List.getElem?_range hbyte, Option.map_some, Option.getD_some,
    foldl_marks_getLsbD (fun i => s.freeAt (8 * (l.val / 8) + i)), hplace, State.freeAt_list]
  simp [hbit]

/-- In a pool that is accounted for, what is not held by lists that are not FREE is free (R1). -/
theorem State.slotsAccounted.freeSlots_eq {s : State} (h : s.slotsAccounted) : s.store.freeSlots =
    2048 - (allLists.map fun l => if (s.list l).state = .free then 0 else (s.list l).steps.length).sum := by
  obtain ⟨hpool, -, hfree, -⟩ := h
  have hheld : (allLists.map fun l => if (s.list l).state = .free then 0 else (s.list l).steps.length).sum =
      s.stepsHeld := by
    refine congrArg List.sum (List.map_congr_left fun l _ => ?_)
    split
    case isTrue hl => rw [hfree l hl]; rfl
    case isFalse => rfl
  omega

/-- Settles O8: the reports read the store as it is. -/
theorem storeReportsTellTheStore : Obligations.StoreReportsTellTheStore := by
  refine ⟨fun s q rest l => ⟨fun h => ?_, fun first count h hff hone hmany hl hin => ?_⟩, fun s q rest h => ?_⟩
  · have hserve := serveListInfo_eq (s := s.taking rest) h.payload_eq
    rw [ListRec.derivedBytes_eq, ← List.append_assoc] at hserve
    exact State.take_answered h rfl rfl hserve
  · exact State.take_answered h rfl rfl (serveListRead_ok (s := s.taking rest) h.payload_eq hff hone hmany hl hin)
  · refine ⟨s.freeIdBytes, ?_, s.freeIdBytes_getLsbD, ?_, State.slotsAccounted.freeSlots_eq⟩
    · rw [State.freeIdBytes, List.length_map, List.length_range]
    · rw [List.countP_eq_length_filter]
      exact State.take_answered h rfl rfl rfl

/-! ### The step record (R7, R8, R155) -/

theorem lineBytes_linesOf (b0 b1 b2 : Byte) : lineBytes (linesOf b0 b1 b2) = [b0, b1, b2] := by
  simp only [lineBytes, linesOf, List.cons.injEq, and_true]
  refine ⟨?_, ?_, ?_⟩ <;> (ext i hi; simp; grind)

theorem countBytes_word16 (hi lo : Byte) : countBytes (word16 hi lo) = [hi, lo] := by
  simp only [countBytes, word16, List.cons.injEq, and_true]
  refine ⟨?_, ?_⟩ <;> (ext i h; simp; grind)

/-- Bytes that spell the empty set are zero. -/
theorem linesOf_eq_zero {b0 b1 b2 : Byte} (h : linesOf b0 b1 b2 = 0) : b0 = 0 ∧ b1 = 0 ∧ b2 = 0 := by
  have hb := (lineBytes_linesOf b0 b1 b2).symm.trans (congrArg lineBytes h)
  rw [show lineBytes 0 = [0, 0, 0] by decide] at hb
  simpa using hb

/-- Bytes that spell the count 0 are zero. -/
theorem word16_eq_zero {hi lo : Byte} (h : word16 hi lo = 0) : hi = 0 ∧ lo = 0 := by
  have hb := (countBytes_word16 hi lo).symm.trans (congrArg countBytes h)
  rw [show countBytes 0 = [0, 0] by decide] at hb
  simpa using hb

theorem finByte_inputOf {b : Byte} {n : InputId} (h : inputOf b = some n) : finByte n = b := by
  unfold inputOf at h
  split at h
  case isTrue hlt => cases h; exact byteOf_toNat b
  case isFalse => cases h

/-- The bytes of an action's record around its flags byte. -/
theorem record_of_actionOfRecord {kind b2 b3 b4 b5 b6 b7 b8 b9 b10 b11 : Byte} {st : Step}
    (h : actionOfRecord kind b2 b3 b4 b5 b6 b7 b8 b9 b10 b11 = some st.action) :
    st.record = [kind, st.flagByte, b2, b3, b4, b5, b6, b7, b8, b9, b10, b11] := by
  unfold actionOfRecord at h
  simp only at h
  split at h
  case isTrue hkind =>
    split at h
    case isTrue hz =>
      obtain ⟨rfl, rfl⟩ := word16_eq_zero hz
      unfold Step.record
      rw [← Option.some.inj h]
      simp only [lineBytes_linesOf, countBytes_word16, hkind]
      rfl
    case isFalse => cases h
  case isFalse =>
    split at h
    case isTrue hkind =>
      unfold Step.record
      rw [← Option.some.inj h]
      simp only [lineBytes_linesOf, countBytes_word16, hkind]
      rfl
    case isFalse =>
      split at h
      case isTrue hkind =>
        split at h
        case h_1 n hn =>
          split at h
          case isTrue hz =>
            obtain ⟨rfl, rfl, hlines, hsecond⟩ := hz
            obtain ⟨rfl, rfl, rfl⟩ := linesOf_eq_zero hlines
            obtain ⟨rfl, rfl⟩ := word16_eq_zero hsecond
            unfold Step.record
            rw [← Option.some.inj h]
            simp only [countBytes_word16, hkind, finByte_inputOf hn]
            rfl
          case isFalse => cases h
        case h_2 => cases h
      case isFalse =>
        split at h
        case isTrue hkind =>
          split at h
          case isTrue hz =>
            obtain ⟨hfirst, hlines, hsecond⟩ := hz
            obtain ⟨rfl, rfl, rfl⟩ := linesOf_eq_zero hfirst
            obtain ⟨rfl, rfl, rfl⟩ := linesOf_eq_zero hlines
            obtain ⟨rfl, rfl⟩ := word16_eq_zero hsecond
            unfold Step.record
            rw [← Option.some.inj h]
            simp only [countBytes_word16, hkind]
            rfl
          case isFalse => cases h
        case isFalse => cases h

/-- A flags byte with bits 6 and 7 clear is that of the step with its flags. -/
theorem flagByte_withFlags (action : StepAction) {flags : Byte} (h6 : flags.getLsbD 6 = false)
    (h7 : flags.getLsbD 7 = false) : (Step.withFlags action flags).flagByte = flags := by
  refine BitVec.eq_of_getLsbD_eq fun i hi => ?_
  refine (flagBits _ _ _ _ _ _ i hi).trans ?_
  match i, hi with
  | 0, _ | 1, _ | 2, _ | 3, _ | 4, _ | 5, _ => rfl
  | 6, _ => exact h6.symm
  | 7, _ => exact h7.symm

/-- Settles O10: a record that is accepted gives each of its bytes back. -/
theorem stepRecordHoldsExactlyOneValidStep : Obligations.StepRecordHoldsExactlyOneValidStep := by
  intro bytes st
  refine ⟨fun h => ?_, fun ⟨hbytes, hvalid⟩ => by rw [hbytes]; exact ofRecord_record hvalid⟩
  unfold Step.ofRecord at h
  split at h
  case h_1 kind flags b2 b3 b4 b5 b6 b7 b8 b9 b10 b11 =>
    split at h
    case h_1 action haction =>
      simp only at h
      split at h
      case isTrue hlegal =>
        obtain ⟨h6, h7, hvalid⟩ := hlegal
        cases h
        refine ⟨?_, hvalid⟩
        rw [record_of_actionOfRecord (st := Step.withFlags action flags) haction, flagByte_withFlags action h6 h7]
      case isFalse => cases h
    case h_2 => cases h
  case h_2 => cases h

/-! ### The state after reset (R21, R45, R90, R140, R150, R172) -/

theorem reset_player (p : PlayerId) : State.reset.player p = Player.blank := State.replicate_player p

theorem reset_list (l : ListId) : State.reset.list l = ListRec.blank := by
  simp [State.list, State.reset, Store.blank]

theorem reset_owner (k : LineId) : State.reset.owner k = none := by
  simp [State.owner, State.reset, Lines.blank]

theorem reset_image (k : BankId) : (State.reset.bank k).image = none := by
  cases k <;> rfl

/-- Settles O50: lists, players, lines and banks stand blank, and the other fields at the values that R45, R140, R150 and R172 give
them (the banks after log 14). -/
theorem resetMeetsEveryKeptCondition : Obligations.ResetMeetsEveryKeptCondition := by
  have himages : ∀ (P : Image → Prop) k img, (State.reset.bank k).image = some img → P img := fun _ k img h => by
    rw [reset_image] at h; cases h
  refine ⟨?_, fun _ _ => ⟨rfl, rfl, .inr rfl⟩, fun n h => ?_, ⟨rfl, reset_player, rfl, ⟨rfl, rfl, rfl, rfl⟩, rfl⟩,
    ⟨fun k p => ?_, fun p _ => by rw [reset_player]; rfl⟩,
    State.usesAgree_of_blank reset_player fun l => by rw [reset_list]; rfl,
    State.slotsAccounted_of_blank rfl (himages Image.fits), ?_, ?_, ⟨fun l h => ?_, fun p l h => ?_⟩, rfl, rfl, rfl⟩
  · exact ⟨Nat.zero_le _, Nat.zero_le _, Nat.zero_le _, Nat.zero_le _, fun _ => Nat.zero_le _⟩
  · have hblank : State.reset.input n = Input.blank := by simp [State.input, State.reset]
    rw [hblank] at h; cases h
  · rw [reset_owner, reset_player]
    simp [Player.blank]
  · exact ⟨by decide, by decide, nofun, by decide, fun h => absurd rfl h⟩
  · exact ⟨by unfold Params.timed; decide, by decide, by decide, by decide, fun _ => rfl, fun _ => ⟨rfl, rfl, rfl⟩, nofun,
      nofun, trivial, himages fun img => img.params.timed⟩
  · rw [reset_list] at h; cases h
  · rw [reset_player] at h
    rcases h with h | h <;> cases h

end Sys2Proof.Machine

/-! PROOFS. What an event leaves of the Timebase while it reaches the players: `State.clock` collects it, and one lemma for each
shared operation says that the operation leaves it as it was (R23, R41, R64). -/

namespace Sys2Proof.Machine

/-! ### The clock of a state -/

/-- The Timebase's record with SYNC_OUT low. -/
def Timebase.counts (r : Timebase) : Timebase := { r with syncOut := false, syncHold := false }

/-- The Timebase's record without SYNC_OUT, the parameters, and the level of SYNC_OUT with its one-microsecond mark where no note of
a player can raise it. -/
structure Clock where
  counts : Timebase
  params : Params
  level  : Option (Bool × Bool)

/-- The level of SYNC_OUT and its mark, under a source other than NOTE (R41). -/
def State.syncLevel (s : State) : Option (Bool × Bool) :=
  match s.params.syncOutSrc with
  | .note _ => none
  | .off | .frame | .superframe | .running => some (s.tb.syncOut, s.tb.syncHold)

def State.clock (s : State) : Clock := { counts := s.tb.counts, params := s.params, level := s.syncLevel }

theorem State.clock_congr {s t : State} (htb : t.tb = s.tb) (hp : t.params = s.params) : t.clock = s.clock := by
  simp only [State.clock, State.syncLevel, htb, hp]

theorem State.counts_of_clock {s t : State} (h : t.clock = s.clock) : t.tb.counts = s.tb.counts := congrArg Clock.counts h

theorem State.params_of_clock {s t : State} (h : t.clock = s.clock) : t.params = s.params := congrArg Clock.params h

/-- Two records that agree but for SYNC_OUT. -/
theorem Timebase.of_counts {r r' : Timebase} (h : r'.counts = r.counts) :
    r' = { r with syncOut := r'.syncOut, syncHold := r'.syncHold } := by
  cases r
  cases r'
  simp only [Timebase.counts, Timebase.mk.injEq] at h ⊢
  simpa using h

theorem Timebase.state_of_counts {r r' : Timebase} (h : r'.counts = r.counts) : r'.state = r.state := by rw [Timebase.of_counts h]
theorem Timebase.position_of_counts {r r' : Timebase} (h : r'.counts = r.counts) : r'.position = r.position := by rw [Timebase.of_counts h]
theorem Timebase.index_of_counts {r r' : Timebase} (h : r'.counts = r.counts) : r'.index = r.index := by rw [Timebase.of_counts h]
theorem Timebase.number_of_counts {r r' : Timebase} (h : r'.counts = r.counts) : r'.number = r.number := by rw [Timebase.of_counts h]
theorem Timebase.pendFrameLen_of_counts {r r' : Timebase} (h : r'.counts = r.counts) : r'.pendFrameLen = r.pendFrameLen := by rw [Timebase.of_counts h]
theorem Timebase.pendSuperLen_of_counts {r r' : Timebase} (h : r'.counts = r.counts) : r'.pendSuperLen = r.pendSuperLen := by rw [Timebase.of_counts h]
theorem Timebase.divider_of_counts {r r' : Timebase} (h : r'.counts = r.counts) : r'.divider = r.divider := by rw [Timebase.of_counts h]
theorem Timebase.syncIn_of_counts {r r' : Timebase} (h : r'.counts = r.counts) : r'.syncIn = r.syncIn := by rw [Timebase.of_counts h]

theorem Timebase.fields_of_counts {r r' : Timebase} (h : r'.counts = r.counts) :
    r'.state = r.state ∧ r'.position = r.position ∧ r'.index = r.index ∧ r'.number = r.number ∧
      r'.pendFrameLen = r.pendFrameLen ∧ r'.pendSuperLen = r.pendSuperLen ∧ r'.divider = r.divider ∧ r'.syncIn = r.syncIn :=
  ⟨Timebase.state_of_counts h, Timebase.position_of_counts h, Timebase.index_of_counts h, Timebase.number_of_counts h,
    Timebase.pendFrameLen_of_counts h, Timebase.pendSuperLen_of_counts h, Timebase.divider_of_counts h,
    Timebase.syncIn_of_counts h⟩

/-- Under a source other than NOTE the clock holds the Timebase's whole record. -/
theorem State.tb_of_clock {s t : State} (h : t.clock = s.clock) (hsrc : ∀ p, s.params.syncOutSrc ≠ .note p) :
    t.tb = s.tb := by
  have hlevel : t.syncLevel = s.syncLevel := congrArg Clock.level h
  have hout : (t.tb.syncOut, t.tb.syncHold) = (s.tb.syncOut, s.tb.syncHold) := by
    unfold State.syncLevel at hlevel
    rw [State.params_of_clock h] at hlevel
    cases hs : s.params.syncOutSrc with
    | note p => exact absurd hs (hsrc p)
    | off | frame | superframe | running => simpa only [hs, Option.some.injEq] using hlevel
  obtain ⟨hsync, hhold⟩ := Prod.mk.inj hout
  rw [Timebase.of_counts (State.counts_of_clock h), hsync, hhold]

theorem State.stamp_of_clock {s t : State} (h : t.clock = s.clock) : t.stamp = s.stamp :=
  congrArg (fun c : Clock => Stamp.mk c.counts.number c.counts.position) h

/-! ### Records, lines and notices -/

@[simp] theorem State.setPlayer_clock (s : State) (p : PlayerId) (r : Player) : (s.setPlayer p r).clock = s.clock := rfl
@[simp] theorem State.setList_clock (s : State) (l : ListId) (r : ListRec) : (s.setList l r).clock = s.clock := rfl
@[simp] theorem State.setInput_clock (s : State) (n : InputId) (r : Input) : (s.setInput n r).clock = s.clock := rfl
@[simp] theorem State.clearLatch_clock (s : State) (n : InputId) : (s.clearLatch n).clock = s.clock := rfl
@[simp] theorem State.useUp_clock (s : State) (l : ListId) : (s.useUp l).clock = s.clock := rfl
@[simp] theorem State.useDown_clock (s : State) (l : ListId) : (s.useDown l).clock = s.clock := rfl
@[simp] theorem State.writeLines_clock (s : State) (lines levels : LineSet) : (s.writeLines lines levels).clock = s.clock := rfl
@[simp] theorem State.idleLines_clock (s : State) (lines : LineSet) : (s.idleLines lines).clock = s.clock := rfl
@[simp] theorem State.clearPassBegun_clock (s : State) : s.clearPassBegun.clock = s.clock := rfl
@[simp] theorem State.rest_clock (s : State) (p : PlayerId) (a : Activity) (n : Nat) : (s.rest p a n).clock = s.clock := rfl

@[simp] theorem State.useDownOpt_clock (s : State) (l : Option ListId) : (s.useDownOpt l).clock = s.clock := by
  cases l <;> rfl

@[simp] theorem State.claimLines_clock (s : State) (p : PlayerId) (lines : LineSet) : (s.claimLines p lines).clock = s.clock :=
  State.clock_congr (s.claimLines_tb p lines) (s.claimLines_params p lines)

@[simp] theorem State.releaseLines_clock (s : State) (p : PlayerId) : (s.releaseLines p).clock = s.clock :=
  State.clock_congr (s.releaseLines_tb p) (s.releaseLines_params p)

@[simp] theorem State.produce_clock (s : State) (body : NoticeBody) : (s.produce body).clock = s.clock :=
  State.clock_congr (s.produce_tb body) (s.produce_params body)

@[simp] theorem State.transmit_clock (s : State) : s.transmit.clock = s.clock :=
  State.clock_congr s.transmit_tb s.transmit_params

@[simp] theorem State.changeSafe_clock (s : State) (state : SafeState) (causes : Causes) (players : BitVec 6) :
    (s.changeSafe state causes players).clock = s.clock := by
  rw [s.changeSafe_frame]; rfl

@[simp] theorem State.escalate_clock (s : State) (p : PlayerId) : (s.escalate p).clock = s.clock := by
  rw [s.escalate_frame]; rfl

/-- A level that a note raises is no part of the clock. -/
@[simp] theorem State.raiseIf_note_clock (s : State) (p : PlayerId) : (s.raiseIf (.note p)).clock = s.clock := by
  unfold State.raiseIf
  split
  case isTrue h => simp only [State.clock, State.syncLevel, State.raiseSyncOut, h, Timebase.counts]
  case isFalse => rfl

@[simp] theorem State.noteBegin_clock (s : State) (p : PlayerId) (st : Step) : (s.noteBegin p st).clock = s.clock := by
  unfold State.noteBegin; split <;> simp

@[simp] theorem State.trailingEdge_clock (s : State) (st : Step) : (s.trailingEdge st).clock = s.clock := by
  rw [s.trailingEdge_frame]; rfl

/-! ### Steps -/

@[simp] theorem State.commitRecord_clock (s : State) (p : PlayerId) (new : ListId) (point : CommitPoint) :
    (s.commitRecord p new point).clock = s.clock := by
  simp [State.commitRecord]

@[simp] theorem State.commitAtPassEnd_clock (s : State) (p : PlayerId) : (s.commitAtPassEnd p).clock = s.clock := by
  unfold State.commitAtPassEnd; split <;> simp

@[simp] theorem State.faultPlayer_clock (s : State) (p : PlayerId) (c : FaultCause) :
    (s.faultPlayer p c).clock = s.clock := by
  unfold State.faultPlayer; simp only; split <;> simp

@[simp] theorem State.beginWait_clock (s : State) (p : PlayerId) (st : Step) (n : InputId) (t : BitVec 16) :
    (s.beginWait p st n t).1.clock = s.clock := by
  unfold State.beginWait; simp only
  split
  · split
    · simp
    · split <;> simp
  · simp

@[simp] theorem State.beginStep_clock (s : State) (p : PlayerId) (st : Step) : (s.beginStep p st).1.clock = s.clock := by
  unfold State.beginStep; simp only
  split
  · split <;> simp
  · simp
  · simp
  · split <;> simp

@[simp] theorem State.admitStep_clock (s : State) (p : PlayerId) : (s.admitStep p).1.clock = s.clock := by
  unfold State.admitStep; split
  · rfl
  · split
    · split <;> simp
    · simp

@[simp] theorem State.admitNext_clock (s : State) (p : PlayerId) : (s.admitNext p).1.clock = s.clock := by
  unfold State.admitNext; simp only; split
  · split <;> simp
  · simp

@[simp] theorem State.endRun_clock (s : State) (p : PlayerId) (c : RunEndCause) : (s.endRun p c).clock = s.clock := by
  simp [State.endRun]

@[simp] theorem State.holdQuestion_clock (s : State) (p : PlayerId) (st : Step) :
    (s.holdQuestion p st).1.clock = s.clock := by
  unfold State.holdQuestion; simp only; split <;> simp

@[simp] theorem State.passEnd_clock (s : State) (p : PlayerId) (st : Step) : (s.passEnd p st).1.clock = s.clock := by
  unfold State.passEnd; simp only; split
  · simp
  · split
    · simp
    · split <;> simp

@[simp] theorem State.resolve_clock (s : State) (p : PlayerId) (st : Step) : (s.resolve p st).1.clock = s.clock := by
  unfold State.resolve; simp only; split
  · simp
  · split <;> simp

theorem chain_clock : ∀ (fuel : Nat) (p : PlayerId) (s : State), (chain fuel p s).clock = s.clock
  | 0, _, _ => rfl
  | fuel + 1, p, s => by
    have hadmit := s.admitNext_clock p
    unfold chain
    split
    case h_1 s1 h => rw [h] at hadmit; exact hadmit
    case h_2 s1 st h =>
      rw [h] at hadmit
      have hres := s1.resolve_clock p st
      split
      case h_1 s2 h2 => rw [h2] at hres; exact (chain_clock fuel p s2).trans (hres.trans hadmit)
      case h_2 s2 h2 => rw [h2] at hres; exact hres.trans hadmit

@[simp] theorem State.admitChain_clock (s : State) (p : PlayerId) : (s.admitChain p).clock = s.clock := chain_clock _ p s

@[simp] theorem State.endStep_clock (s : State) (p : PlayerId) (st : Step) : (s.endStep p st).clock = s.clock := by
  have hres := s.resolve_clock p st
  unfold State.endStep
  split
  case h_1 s1 h => rw [h] at hres; exact (s1.admitChain_clock p).trans hres
  case h_2 s1 h => rw [h] at hres; exact hres

@[simp] theorem State.follow_clock (a : State × Admission) (p : PlayerId) : (State.follow a p).clock = a.1.clock := by
  unfold State.follow; split <;> simp

@[simp] theorem State.beginRun_clock (s : State) (p : PlayerId) (c : StartCause) : (s.beginRun p c).clock = s.clock := by
  simp [State.beginRun]

@[simp] theorem State.expire_clock (s : State) (p : PlayerId) (st : Step) : (s.expire p st).clock = s.clock := by
  unfold State.expire; split <;> simp

@[simp] theorem State.phaseEnd_clock (s : State) (p : PlayerId) : (s.phaseEnd p).clock = s.clock := by
  unfold State.phaseEnd; simp only; split
  · split
    · simp
    · split <;> simp
    · simp
    · simp
  · rfl

@[simp] theorem State.abandonStep_clock (s : State) (p : PlayerId) : (s.abandonStep p).clock = s.clock := by
  unfold State.abandonStep; simp only; split <;> simp

@[simp] theorem State.commitSuper_clock (s : State) (p : PlayerId) : (s.commitSuper p).clock = s.clock := by
  unfold State.commitSuper; simp only; split
  · split <;> simp
  · rfl

@[simp] theorem State.resumeWait_clock (s : State) (p : PlayerId) (st : Step) (n : InputId) :
    (s.resumeWait p st n).clock = s.clock := by
  unfold State.resumeWait; simp only; split
  · split <;> simp
  · rfl

@[simp] theorem State.resumePlayer_clock (s : State) (p : PlayerId) : (s.resumePlayer p).clock = s.clock := by
  unfold State.resumePlayer; simp only; split
  · simp
  · split <;> simp
  · split
    · split <;> simp
    all_goals simp
  · simp

@[simp] theorem State.startPlayer_clock (s : State) (p : PlayerId) (sp : StartPoint) (limit : Nat) (stop : Option Nat) :
    (s.startPlayer p sp limit stop).clock = s.clock := by
  unfold State.startPlayer State.setLimits State.armPlayer; simp only; split <;> simp

@[simp] theorem State.stopPlayer_clock (s : State) (p : PlayerId) : (s.stopPlayer p).clock = s.clock := by
  simp [State.stopPlayer]

/-! ### The order of agents, the Safe Unit -/

@[simp] theorem State.enterPlayer_clock (s : State) (p : PlayerId) : (s.enterPlayer p).clock = s.clock := by
  rw [s.enterPlayer_frame]; rfl

@[simp] theorem State.reachPlayers_clock (s : State) (players exempt : List PlayerId) :
    (s.reachPlayers players exempt).clock = s.clock := by
  unfold State.reachPlayers
  split
  · rfl
  · clear * -
    induction players generalizing s with
    | nil => rfl
    | cons p ps ih =>
      rw [List.foldl_cons, ih]
      split <;> simp

theorem runActors_clock {o : Order} {act : Actor → State → State} (h : ∀ a s, (act a s).clock = s.clock) :
    ∀ (actors : List Actor) (s : State), (runActors o act actors s).clock = s.clock
  | [], _ => rfl
  | a :: rest, s => by
    unfold runActors
    simp only [runActors_clock h rest, State.reachPlayers_clock, h]

theorem eachPlayer_clock {o : Order} {act : PlayerId → State → State} (h : ∀ p s, (act p s).clock = s.clock) (s : State) :
    (eachPlayer o act s).clock = s.clock := by
  refine runActors_clock (fun a s => ?_) _ s
  cases a <;> simp [h]

@[simp] theorem State.settle_clock (s : State) (o : Order) : (s.settle o).clock = s.clock := s.reachPlayers_clock _ _

@[simp] theorem State.enterSafe_clock (s : State) (o : Order) (state : SafeState) (causes : Causes) :
    (s.enterSafe o state causes).clock = s.clock := by
  simp [State.enterSafe]

@[simp] theorem State.judgeHold_clock (s : State) (o : Order) (active : Bool) : (s.judgeHold o active).clock = s.clock := by
  have hold : ({ s with safe := { s.safe with holdActive := active } } : State).clock = s.clock := rfl
  unfold State.judgeHold; simp only; split
  · rfl
  · split
    · split <;> simp [hold]
    · split <;> simp [hold]

@[simp] theorem State.autoResume_clock (s : State) (o : Order) (super : Bool) (p : PlayerId) :
    (s.autoResume o super p).clock = s.clock := by
  unfold State.autoResume; simp only; split
  · split <;> simp
  · rfl

@[simp] theorem State.releaseSafe_clock (s : State) (o : Order) (super : Bool) :
    (s.releaseSafe o super).clock = s.clock := by
  unfold State.releaseSafe; simp only; split
  · rw [eachPlayer_clock fun p s => s.autoResume_clock o super p, State.changeSafe_clock]
  · simp

@[simp] theorem State.autoRelease_clock (s : State) (o : Order) : (s.autoRelease o).clock = s.clock := by
  unfold State.autoRelease; split <;> simp

/-! ### Events that reach the players -/

@[simp] theorem State.countTick_clock (s : State) (o : Order) (p : PlayerId) : (s.countTick o p).clock = s.clock := by
  unfold State.countTick; simp only; split
  · split <;> simp
  · simp

@[simp] theorem State.alignEvent_clock (s : State) (p : PlayerId) (ev : TbEvent) : (s.alignEvent p ev).clock = s.clock := by
  unfold State.alignEvent; split
  · split
    · split <;> simp
    all_goals rfl
  · rfl

@[simp] theorem State.fitEvent_clock (s : State) (p : PlayerId) (ev : TbEvent) : (s.fitEvent p ev).clock = s.clock := by
  unfold State.fitEvent; split
  · split <;> simp
  · rfl

@[simp] theorem State.runningEvent_clock (s : State) (o : Order) (p : PlayerId) (ev : TbEvent) :
    (s.runningEvent o p ev).clock = s.clock := by
  unfold State.runningEvent; simp only; split
  · split <;> simp
  · split
    · split <;> simp
    · split <;> simp
    · split <;> simp
    · simp
    · simp
    · rfl

@[simp] theorem State.superEvent_clock (s : State) (o : Order) (p : PlayerId) (ev : TbEvent) :
    (s.superEvent o p ev).clock = s.clock := by
  unfold State.superEvent; split
  · split <;> simp
  · simp

@[simp] theorem State.playerEvent_clock (s : State) (o : Order) (ev : TbEvent) (before : PlayerState) (p : PlayerId) :
    (s.playerEvent o ev before p).clock = s.clock := by
  unfold State.playerEvent; simp only; split
  · simp
  · split
    · simp
    · split <;> simp
    · rfl

@[simp] theorem State.handTo_clock (s : State) (o : Order) (ev : TbEvent) (before : Player) (p : PlayerId) :
    (s.handTo o ev before p).clock = s.clock := by
  unfold State.handTo; simp only; split
  · split <;> simp
  · simp

@[simp] theorem State.owedEvent_clock (s : State) (p : PlayerId) : (s.owedEvent p).clock = s.clock := by
  unfold State.owedEvent; simp only; split <;> simp

@[simp] theorem State.owedNow_clock (s : State) (p : PlayerId) : (s.owedNow p).clock = s.clock := by
  unfold State.owedNow; split <;> simp

@[simp] theorem State.handOut_clock (s : State) (o : Order) (ev : TbEvent) : (s.handOut o ev).clock = s.clock := by
  unfold State.handOut
  refine runActors_clock (fun a s' => ?_) _ s
  cases a with
  | player p => simp
  | safeUnit => simp only; split <;> simp
  | superframeNotice => simp only; split <;> simp

@[simp] theorem State.catchUp_clock (s : State) (o : Order) : (s.catchUp o).clock = s.clock :=
  eachPlayer_clock (fun p s => by simp) s

@[simp] theorem State.tbNotice_clock (s : State) (e : TbEventKind) (r : Option Stamp) :
    (s.tbNotice e r).clock = s.clock := s.produce_clock _

@[simp] theorem State.commitNotice_clock (s before : State) : (s.commitNotice before).clock = s.clock := by
  unfold State.commitNotice; split <;> simp

/-! ### Inputs and HOLD_IN -/

@[simp] theorem State.edgeReaches_clock (s : State) (n : InputId) (d : Bool) (p : PlayerId) :
    (s.edgeReaches n d p).clock = s.clock := by
  unfold State.edgeReaches; simp only; split
  · simp
  · split
    · split <;> simp
    · rfl

@[simp] theorem State.acceptEdge_clock (s : State) (n : InputId) (o : Order) : (s.acceptEdge n o).clock = s.clock := by
  unfold State.acceptEdge; simp only; split
  · rw [eachPlayer_clock fun p s' => by split <;> simp]; simp
  · simp

@[simp] theorem State.acceptChange_clock (s : State) (n : InputId) (o : Order) : (s.acceptChange n o).clock = s.clock := by
  unfold State.acceptChange; simp only; split <;> simp

@[simp] theorem State.sample_clock (s : State) (n : InputId) (level : Bool) (o : Order) :
    (s.sample n level o).clock = s.clock := by
  unfold State.sample; simp only; split
  · simp
  · split
    · simp
    · split <;> simp

@[simp] theorem State.holdSample_clock (s : State) (level : Bool) (o : Order) :
    (s.holdSample level o).clock = s.clock := by
  have hlevel : ({ s with safe := { s.safe with holdIn := level } } : State).clock = s.clock := rfl
  unfold State.holdSample; simp only; split <;> simp [hlevel]

end Sys2Proof.Machine

/-! PROOFS. How each operation of the Timebase moves its record and the parameters (R23 to R46), said of the record without SYNC_OUT;
what a quiet event leaves; and how a tick, a run's begin and a forced frame start hand out their event. -/

namespace Sys2Proof.Machine

/-! ### SYNC_OUT stands apart from the counts (R41) -/

@[simp] theorem State.raiseSyncOut_counts (s : State) : s.raiseSyncOut.tb.counts = s.tb.counts := rfl
@[simp] theorem State.lowerSyncOut_counts (s : State) : s.lowerSyncOut.tb.counts = s.tb.counts := rfl

@[simp] theorem State.raiseIf_counts (s : State) (src : SyncOutSrc) : (s.raiseIf src).tb.counts = s.tb.counts := by
  unfold State.raiseIf; split <;> rfl

@[simp] theorem State.raiseIf_params (s : State) (src : SyncOutSrc) : (s.raiseIf src).params = s.params := by
  rw [s.raiseIf_frame]

@[simp] theorem State.syncOutAtTick_counts (s : State) : s.syncOutAtTick.tb.counts = s.tb.counts := by
  unfold State.syncOutAtTick; split <;> rfl

@[simp] theorem State.syncOutAtTick_params (s : State) : s.syncOutAtTick.params = s.params := by
  rw [s.syncOutAtTick_frame]

@[simp] theorem State.syncOutAtFrame_counts (s : State) (super : Bool) :
    (s.syncOutAtFrame super).tb.counts = s.tb.counts := by
  unfold State.syncOutAtFrame
  split
  case h_2 => split <;> rfl
  all_goals rfl

@[simp] theorem State.syncOutAtFrame_params (s : State) (super : Bool) : (s.syncOutAtFrame super).params = s.params := by
  rw [s.syncOutAtFrame_frame]

@[simp] theorem State.endSyncHold_counts (s : State) : s.endSyncHold.tb.counts = s.tb.counts := by
  unfold State.endSyncHold; split <;> rfl

@[simp] theorem State.endSyncHold_params (s : State) : s.endSyncHold.params = s.params := by rw [s.endSyncHold_frame]

@[simp] theorem State.setTbState_counts (s : State) (st : TbState) :
    (s.setTbState st).tb.counts = { s.tb.counts with state := st } := by
  unfold State.setTbState; simp only; split <;> split <;> rfl

@[simp] theorem State.setTbState_params (s : State) (st : TbState) : (s.setTbState st).params = s.params := by
  rw [s.setTbState_frame]

@[simp] theorem State.setTbState_state (s : State) (st : TbState) : (s.setTbState st).tb.state = st :=
  congrArg Timebase.state (s.setTbState_counts st)

/-! ### Counts of frame starts (R28, R39) -/

/-- The parameters with the pending staged values in force (R39). -/
def State.committedParams (s : State) : Params :=
  { s.params with
    frameLen := s.tb.pendFrameLen.getD s.params.frameLen
    superLen := s.tb.pendSuperLen.getD s.params.superLen }

/-- The counts after a frame start of an index other than 0 (R28). -/
def Timebase.framed (r : Timebase) (index : Nat) : Timebase :=
  { r with position := 0, number := r.number + 1, index := index }

/-- The record after a staged commit (R39). -/
def Timebase.commit (r : Timebase) : Timebase := { r with pendFrameLen := none, pendSuperLen := none }

theorem State.countFrame_frame_start (s : State) {index : Nat} (h : index ≠ 0) :
    s.countFrame index = { s with tb := s.tb.framed index } := by
  simp only [State.countFrame, if_neg h]; rfl

/-! ### A tick (R25) -/

/-- The state in which a tick counts: what was due and owed has reached the players, SYNC_OUT has fallen and no pass has begun. -/
def State.tickStart (s : State) (o : Order) : State := ((s.catchUp o).syncOutAtTick).clearPassBegun

@[simp] theorem State.tickStart_counts (s : State) (o : Order) : (s.tickStart o).tb.counts = s.tb.counts :=
  (State.syncOutAtTick_counts _).trans (State.counts_of_clock (s.catchUp_clock o))

@[simp] theorem State.tickStart_params (s : State) (o : Order) : (s.tickStart o).params = s.params :=
  (State.syncOutAtTick_params _).trans (State.params_of_clock (s.catchUp_clock o))

/-- The state with its position one higher. -/
def State.advance (s : State) : State := { s with tb := { s.tb with position := s.tb.position + 1 } }

theorem State.tick_advances {s : State} (o : Order) (h : s.tb.position + 1 < s.params.frameLen) :
    s.tick o = (s.tickStart o).advance.handOut o { TbEvent.plain s.params.frameLen with tick := true } := by
  have hposition : (s.tickStart o).tb.position = s.tb.position := Timebase.position_of_counts (s.tickStart_counts o)
  have hlt : (s.tickStart o).tb.position + 1 < (s.tickStart o).params.frameLen := by
    rw [hposition, s.tickStart_params]; exact h
  rw [← s.tickStart_params o]
  exact if_pos hlt

theorem State.tick_starts_frame {s : State} (o : Order) (h : s.params.frameLen ≤ s.tb.position + 1) :
    s.tick o = (s.tickStart o).frameStart o ((s.tb.index + 1) % s.params.superLen) id true false := by
  have hposition : (s.tickStart o).tb.position = s.tb.position := Timebase.position_of_counts (s.tickStart_counts o)
  have hindex : (s.tickStart o).tb.index = s.tb.index := Timebase.index_of_counts (s.tickStart_counts o)
  have hge : ¬(s.tickStart o).tb.position + 1 < (s.tickStart o).params.frameLen := by
    rw [hposition, s.tickStart_params]; exact Nat.not_lt.mpr h
  rw [← hindex, ← s.tickStart_params o]
  exact if_neg hge

/-! ### The counts in their ranges (R23, R26, R27, R36) -/

/-- The Timebase's counts and pending values in their ranges, with the values in force. -/
structure Timebase.Sound (r : Timebase) (p : Params) : Prop where
  timed    : p.timed
  position : r.position < p.frameLen
  index    : r.index < p.superLen
  divider  : r.divider < p.tickDiv
  external : p.tickSource = .tickIn → r.divider = 0
  idle     : r.state = .stopped ∨ r.state = .awaitSync → r.position = 0 ∧ r.index = 0 ∧ r.divider = 0
  frameLen : ∀ n, r.pendFrameLen = some n → 16 ≤ n ∧ n ≤ 65535
  superLen : ∀ n, r.pendSuperLen = some n → 1 ≤ n ∧ n ≤ 256

theorem State.timeSound_iff (s : State) : s.timeSound ↔
    s.tb.Sound s.params ∧ s.image.op.timed ∧ ∀ k img, (s.bank k).image = some img → img.params.timed :=
  ⟨fun ⟨h1, h2, h3, h4, h5, h6, h7, h8, h9⟩ => ⟨⟨h1, h2, h3, h4, h5, h6, h7, h8⟩, h9⟩,
    fun ⟨⟨h1, h2, h3, h4, h5, h6, h7, h8⟩, h9⟩ => ⟨h1, h2, h3, h4, h5, h6, h7, h8, h9⟩⟩

/-- SYNC_OUT and the level of SYNC_IN are free, and so is every parameter that names no count. -/
theorem Timebase.Sound.congr {r r' : Timebase} {p p' : Params} (h : r.Sound p) (hr : r'.counts = r.counts)
    (hp : p'.tickSource = p.tickSource ∧ p'.tickDiv = p.tickDiv ∧ p'.frameLen = p.frameLen ∧ p'.superLen = p.superLen) :
    r'.Sound p' := by
  obtain ⟨hsource, hdiv, hframe, hsuper⟩ := hp
  rw [Timebase.of_counts hr]
  refine ⟨?_, ?_, ?_, ?_, ?_, h.idle, h.frameLen, h.superLen⟩
  · unfold Params.timed
    rw [hdiv, hframe, hsuper]
    exact h.timed
  · rw [hframe]; exact h.position
  · rw [hsuper]; exact h.index
  · rw [hdiv]; exact h.divider
  · rw [hsource]; exact h.external

/-- The Timebase takes a state; without a run its counts stand at 0. -/
theorem Timebase.Sound.restate {r : Timebase} {p : Params} (h : r.Sound p) (st : TbState)
    (hst : st = .stopped ∨ st = .awaitSync → r.position = 0 ∧ r.index = 0 ∧ r.divider = 0) :
    ({ r with state := st }).Sound p :=
  ⟨h.timed, h.position, h.index, h.divider, h.external, hst, h.frameLen, h.superLen⟩

/-- The divider count becomes 0. -/
theorem Timebase.Sound.clearDivider {r : Timebase} {p : Params} (h : r.Sound p) : ({ r with divider := 0 }).Sound p :=
  ⟨h.timed, h.position, h.index, Nat.zero_lt_of_lt h.divider, fun _ => rfl,
    fun hst => ⟨(h.idle hst).1, (h.idle hst).2.1, rfl⟩, h.frameLen, h.superLen⟩

/-- A run's position and index move within the values in force. -/
theorem Timebase.Sound.move {r : Timebase} {p : Params} (h : r.Sound p) (n : BitVec 32) {position index : Nat}
    (hrun : r.state = .running) (hposition : position < p.frameLen) (hindex : index < p.superLen) :
    ({ r with position := position, number := n, index := index }).Sound p :=
  ⟨h.timed, hposition, hindex, h.divider, h.external, fun hst => by rw [hrun] at hst; simp at hst, h.frameLen, h.superLen⟩

/-- The pending values are allowed ones, so a commit at position 0 and index 0 keeps every count in its range. -/
theorem Timebase.Sound.commit {r : Timebase} {p : Params} (h : r.Sound p) (n : BitVec 32) :
    (({ r with position := 0, number := n, index := 0 } : Timebase).commit).Sound
      { p with frameLen := r.pendFrameLen.getD p.frameLen, superLen := r.pendSuperLen.getD p.superLen } := by
  obtain ⟨hdiv, hframe, hframe', hsuper, hsuper'⟩ := h.timed
  have hnewFrame : 16 ≤ r.pendFrameLen.getD p.frameLen ∧ r.pendFrameLen.getD p.frameLen ≤ 65535 := by
    cases hpend : r.pendFrameLen with
    | none => exact ⟨hframe, hframe'⟩
    | some n => exact h.frameLen n hpend
  have hnewSuper : 1 ≤ r.pendSuperLen.getD p.superLen ∧ r.pendSuperLen.getD p.superLen ≤ 256 := by
    cases hpend : r.pendSuperLen with
    | none => exact ⟨hsuper, hsuper'⟩
    | some n => exact h.superLen n hpend
  exact ⟨⟨hdiv, hnewFrame.1, hnewFrame.2, hnewSuper.1, hnewSuper.2⟩, Nat.lt_of_lt_of_le (show 0 < 16 by decide) hnewFrame.1,
    hnewSuper.1, h.divider, h.external, fun hst => ⟨rfl, rfl, (h.idle hst).2.2⟩, nofun, nofun⟩

/-- A Timebase at its start-up values, with parameters that are allowed ones. -/
theorem Timebase.Sound.blank {p : Params} (h : p.timed) (level : Bool) :
    ({ Timebase.blank with syncIn := level }).Sound p := by
  obtain ⟨hdiv, hframe, hframe', hsuper, hsuper'⟩ := h
  exact ⟨⟨hdiv, hframe, hframe', hsuper, hsuper'⟩, Nat.lt_of_lt_of_le (show 0 < 16 by decide) hframe, hsuper, hdiv, fun _ => rfl,
    fun _ => ⟨rfl, rfl, rfl⟩, nofun, nofun⟩

end Sys2Proof.Machine

/-! PROOFS. Every step keeps the Timebase's counts in their ranges (O58): the operations of the Timebase, then each block's requests,
the image operations and the resets, then every row. -/

namespace Sys2Proof.Machine

/-! ### The Timebase's operations -/

/-- The Timebase's counts lie in their ranges, whatever the banks hold. -/
def State.countsSound (s : State) : Prop := s.tb.Sound s.params

theorem State.countsSound_of {s t : State} (h : s.countsSound) (hr : t.tb.counts = s.tb.counts) (hp : t.params = s.params) :
    t.countsSound :=
  h.congr hr (by rw [hp]; exact ⟨rfl, rfl, rfl, rfl⟩)

theorem State.countsSound_of_clock {s t : State} (h : s.countsSound) (hc : t.clock = s.clock) : t.countsSound :=
  State.countsSound_of h (State.counts_of_clock hc) (State.params_of_clock hc)

theorem State.setTbState_sound {s : State} (h : s.countsSound) (st : TbState)
    (hst : st = .stopped ∨ st = .awaitSync → s.tb.position = 0 ∧ s.tb.index = 0 ∧ s.tb.divider = 0) :
    (s.setTbState st).countsSound :=
  State.countsSound_of (s := { s with tb := { s.tb with state := st } }) (h.restate st hst) (s.setTbState_counts st)
    (s.setTbState_params st)

/-- A frame start of a run, or one that makes a superframe start (R28, R39). -/
theorem State.countFrame_sound {s : State} (h : s.countsSound) {index : Nat} (hindex : index < s.params.superLen)
    (hrun : index = 0 ∨ s.tb.state = .running) : (s.countFrame index).countsSound := by
  by_cases hzero : index = 0
  · subst hzero; exact h.commit _
  · rw [State.countFrame_frame_start s hzero]
    exact h.move _ (hrun.resolve_left hzero) (Nat.zero_lt_of_lt h.position) hindex

theorem State.frameStart_sound {s : State} (h : s.countsSound) (o : Order) {index : Nat} {first : State → State}
    (tick sync : Bool) (hfirst : ∀ u, (first u).clock = u.clock) (hindex : index < s.params.superLen)
    (hrun : index = 0 ∨ s.tb.state = .running) : (s.frameStart o index first tick sync).countsSound := by
  have hcount : ((s.countFrame index).syncOutAtFrame (decide (index = 0))).countsSound :=
    State.countsSound_of (State.countFrame_sound h hindex hrun) (by simp) (by simp)
  exact State.countsSound_of_clock hcount (by simp [State.frameStart, hfirst])

/-- The first index of a superframe is within SUPER_LEN. -/
theorem State.superLen_pos {s : State} (h : s.countsSound) : 0 < s.params.superLen := Nat.zero_lt_of_lt h.index

theorem State.beginTbRun_sound {s : State} (h : s.countsSound) (o : Order) {st : TbState} (sync : Bool)
    (hst : st = .running ∨ st = .paused) : (s.beginTbRun o st sync).countsSound := by
  have hstate : (s.setTbState st).countsSound := State.setTbState_sound h st fun hidle => by
    rcases hst with rfl | rfl <;> simp at hidle
  have hdivider : (s.setTbState st).clearDivider.countsSound := Timebase.Sound.clearDivider hstate
  exact State.frameStart_sound hdivider o false sync (fun u => u.tbNotice_clock _ _) (State.superLen_pos hdivider) (.inl rfl)

theorem State.tbStartAction_sound {s : State} (h : s.countsSound) (hstop : s.tb.state = .stopped) (o : Order) :
    (s.tbStartAction o).countsSound := by
  unfold State.tbStartAction
  split
  · exact State.beginTbRun_sound h o false (.inl rfl)
  · exact State.beginTbRun_sound h o false (.inl rfl)
  · exact State.setTbState_sound h _ fun _ => h.idle (.inl hstop)
  · refine State.beginTbRun_sound h o false ?_
    split
    · exact .inl rfl
    · exact .inr rfl

theorem State.tick_sound {s : State} (h : s.countsSound) (hrun : s.tb.state = .running) (o : Order) :
    (s.tick o).countsSound := by
  have hstart : (s.tickStart o).countsSound := State.countsSound_of h (s.tickStart_counts o) (s.tickStart_params o)
  have hstate : (s.tickStart o).tb.state = .running := (Timebase.state_of_counts (s.tickStart_counts o)).trans hrun
  have hposition : (s.tickStart o).tb.position = s.tb.position := Timebase.position_of_counts (s.tickStart_counts o)
  rcases Nat.lt_or_ge (s.tb.position + 1) s.params.frameLen with hlt | hge
  · rw [State.tick_advances o hlt]
    have hadvance : (s.tickStart o).advance.countsSound :=
      Timebase.Sound.move hstart _ hstate (by rw [hposition, s.tickStart_params]; exact hlt) hstart.index
    exact State.countsSound_of_clock hadvance (State.handOut_clock _ _ _)
  · rw [State.tick_starts_frame o hge, ← s.tickStart_params o]
    exact State.frameStart_sound hstart o true false (fun _ => rfl) (Nat.mod_lt _ (State.superLen_pos hstart)) (.inr hstate)

theorem State.mergeEdge_sound {s : State} (h : s.countsSound) (hposition : s.tb.position = 0) (o : Order) :
    (s.mergeEdge o).countsSound := by
  have hdivider : s.clearDivider.countsSound := Timebase.Sound.clearDivider h
  unfold State.mergeEdge
  simp only
  split
  · exact State.countsSound_of_clock hdivider (State.handOut_clock _ _ _)
  · have hcommit := hdivider.commit s.tb.number
    refine State.countsSound_of (s := ({ s.clearDivider with tb := { s.clearDivider.tb with index := 0 } }).commitStaged)
      ?_ ?_ ?_
    · rw [show s.clearDivider.tb = { s.clearDivider.tb with position := 0 } by rw [← hposition]; rfl]
      exact hcommit
    · rw [State.counts_of_clock (State.handOut_clock _ _ _), State.counts_of_clock (State.commitNotice_clock _ _),
        State.raiseIf_counts]
    · rw [State.params_of_clock (State.handOut_clock _ _ _), State.params_of_clock (State.commitNotice_clock _ _),
        State.raiseIf_params]

theorem State.activeEdge_sound {s : State} (h : s.countsSound) (o : Order) : (s.activeEdge o).countsSound := by
  unfold State.activeEdge
  split
  · exact State.beginTbRun_sound h o true (.inl rfl)
  · split
    case isTrue hposition => exact State.mergeEdge_sound h hposition o
    case isFalse =>
      have hdivider : s.clearDivider.countsSound := Timebase.Sound.clearDivider h
      exact State.frameStart_sound hdivider o false true (fun _ => rfl) (State.superLen_pos hdivider) (.inl rfl)
  · exact State.countsSound_of_clock (State.setTbState_sound h .running (by simp))
      ((State.handOut_clock _ _ _).trans (State.tbNotice_clock _ _ _))
  · exact State.countsSound_of_clock h (s.handOut_clock _ _)

theorem State.inactiveEdge_sound {s : State} (h : s.countsSound) : s.inactiveEdge.countsSound := by
  unfold State.inactiveEdge
  split
  · exact State.countsSound_of_clock (State.setTbState_sound h .paused (by simp)) (State.tbNotice_clock _ _ _)
  · exact h

theorem State.syncChange_sound {s : State} (h : s.countsSound) (level : Bool) (o : Order) :
    (s.syncChange level o).countsSound := by
  have hcatch : (s.catchUp o).countsSound := State.countsSound_of_clock h (s.catchUp_clock o)
  have hlevel : ({ s.catchUp o with tb := { (s.catchUp o).tb with syncIn := level } } : State).countsSound :=
    ⟨hcatch.timed, hcatch.position, hcatch.index, hcatch.divider, hcatch.external, hcatch.idle, hcatch.frameLen,
      hcatch.superLen⟩
  unfold State.syncChange
  simp only
  split
  · exact h
  · split
    · exact State.activeEdge_sound hlevel o
    · exact State.inactiveEdge_sound hlevel

theorem State.tbStopAction_counts (s : State) : s.tbStopAction.tb.counts =
    { s.tb.counts with state := .stopped, position := 0, index := 0, divider := 0 } := by
  have hstate := s.setTbState_counts .stopped
  unfold State.tbStopAction
  simp only
  rw [State.counts_of_clock (State.tbNotice_clock _ _ _)]
  split <;> exact congrArg (fun r : Timebase => { r with position := 0, index := 0, divider := 0 }) hstate

theorem State.tbStopAction_params (s : State) : s.tbStopAction.params = s.params := by
  unfold State.tbStopAction
  simp only
  rw [State.params_of_clock (State.tbNotice_clock _ _ _)]
  split <;> exact s.setTbState_params _

theorem State.tbStopAction_sound {s : State} (h : s.countsSound) : s.tbStopAction.countsSound := by
  obtain ⟨hdiv, hframe, hframe', hsuper, hsuper'⟩ := h.timed
  refine State.countsSound_of (s := { s with tb := { s.tb with state := .stopped, position := 0, index := 0, divider := 0 } })
    ?_ s.tbStopAction_counts s.tbStopAction_params
  exact ⟨h.timed, Nat.lt_of_lt_of_le (show 0 < 16 by decide) hframe, hsuper, hdiv, fun _ => rfl, fun _ => ⟨rfl, rfl, rfl⟩,
    h.frameLen, h.superLen⟩

theorem State.ticksFrom_running {s : State} {source : TickSource} (h : s.ticksFrom source = true) :
    s.tb.state = .running ∧ s.params.tickSource = source := by
  simpa [State.ticksFrom, State.ticking] using h

theorem State.divide_sound {s : State} (h : s.countsSound) (o : Order) : (s.divide o).countsSound := by
  unfold State.divide
  split
  case isTrue hlast =>
    have hticks : s.ticksFrom .internal = true := by
      unfold State.dividerExpires at hlast; exact (Bool.and_eq_true_iff.mp hlast).1
    exact State.tick_sound (s := s.clearDivider) (Timebase.Sound.clearDivider h) (State.ticksFrom_running hticks).1 o
  case isFalse hlast =>
    split
    case isTrue hticks =>
      obtain ⟨hrun, hsource⟩ := State.ticksFrom_running hticks
      have hlt : s.tb.divider + 1 < s.params.tickDiv := by
        simpa [State.dividerExpires, hticks] using hlast
      have hinternal : s.params.tickSource ≠ .tickIn := by rw [hsource]; nofun
      have hbusy : ¬(s.tb.state = .stopped ∨ s.tb.state = .awaitSync) := by rw [hrun]; simp
      exact ⟨h.timed, h.position, h.index, hlt, fun hin => absurd hin hinternal, fun hidle => absurd hidle hbusy, h.frameLen,
        h.superLen⟩
    case isFalse => exact h

theorem State.timeByte_clock (s : State) : s.timeByte.clock = s.clock := by
  rw [s.timeByte_frame]; rfl

theorem State.passMicrosecond_sound {s : State} (h : s.countsSound) (o : Order) : (s.passMicrosecond o).countsSound := by
  have hbyte := State.countsSound_of_clock h s.timeByte_clock
  have hhold : s.timeByte.endSyncHold.countsSound := State.countsSound_of hbyte (by simp) (by simp)
  exact State.divide_sound (State.countsSound_of_clock hhold (State.catchUp_clock _ o)) o

end Sys2Proof.Machine

/-! PROOFS. Each block's requests and events, and then every row: the Timebase's counts stay in their ranges (O58). -/

namespace Sys2Proof.Machine

/-! ### What keeps the counts in their ranges -/

/-- The counts, pending values and saved parameters stay in their ranges. -/
def KeepsTime (s t : State) : Prop := s.timeSound → t.timeSound

theorem KeepsTime.refl (s : State) : KeepsTime s s := id

theorem KeepsTime.trans {s t u : State} (h1 : KeepsTime s t) (h2 : KeepsTime t u) : KeepsTime s u := fun h => h2 (h1 h)

theorem State.timeSound.counts {s : State} (h : s.timeSound) : s.countsSound := ((State.timeSound_iff s).mp h).1

theorem State.timeSound.timed {s : State} (h : s.timeSound) : s.params.timed := h.counts.timed

theorem State.timeSound.images {s : State} (h : s.timeSound) {k : BankId} {img : Image} (hk : (s.bank k).image = some img) :
    img.params.timed :=
  ((State.timeSound_iff s).mp h).2.2 k img hk

/-- The counts stay sound, and so do the parameters that an operation in flight and the banks hold. -/
theorem KeepsTime.of {s t : State} (hc : s.countsSound → t.countsSound) (hop : s.timeSound → t.image.op.timed)
    (hi : s.timeSound → ∀ k img, (t.bank k).image = some img → img.params.timed) : KeepsTime s t := fun h =>
  (State.timeSound_iff t).mpr ⟨hc h.counts, hop h, hi h⟩

/-- The Image Unit stays, and the counts stay sound. -/
theorem KeepsTime.counts {s t : State} (hc : s.countsSound → t.countsSound) (hi : t.image = s.image) : KeepsTime s t := by
  refine .of hc (fun h => ?_) fun h k img hk => h.images (NoNewImage.of_image hi k img hk)
  rw [hi]; exact ((State.timeSound_iff s).mp h).2.1

/-- The clock stays, and with it the Image Unit. -/
theorem KeepsTime.clock {s t : State} (hc : t.clock = s.clock) (hi : t.image = s.image) : KeepsTime s t :=
  .counts (fun h => State.countsSound_of_clock h hc) hi

/-- Playing leaves both (Laws/Play). -/
theorem KeepsTime.play {s t : State} (hc : t.clock = s.clock) (hf : t.fixed = s.fixed) : KeepsTime s t :=
  .clock hc (congrArg Fixed.image hf)

/-- Neither the Timebase nor the parameters nor the Image Unit moves. -/
theorem KeepsTime.same {s t : State} (htb : t.tb = s.tb) (hp : t.params = s.params) (hi : t.image = s.image) :
    KeepsTime s t :=
  .clock (State.clock_congr htb hp) hi

/-- SYNC_OUT moves, or a parameter that names no count. -/
theorem KeepsTime.params {s t : State} (hr : t.tb.counts = s.tb.counts)
    (hp : t.params.tickSource = s.params.tickSource ∧ t.params.tickDiv = s.params.tickDiv ∧
      t.params.frameLen = s.params.frameLen ∧ t.params.superLen = s.params.superLen)
    (hi : t.image = s.image) : KeepsTime s t :=
  .counts (fun h => h.congr hr hp) hi

/-- Banks lose images, and no save comes in flight. -/
theorem KeepsTime.banks {s t : State} (htb : t.tb = s.tb) (hp : t.params = s.params)
    (hop : s.timeSound → t.image.op.timed) (hi : NoNewImage s t) : KeepsTime s t :=
  .of (fun h => State.countsSound_of_clock h (State.clock_congr htb hp)) hop fun h k img hk => h.images (hi k img hk)

theorem State.produce_time (s : State) (body : NoticeBody) : KeepsTime s (s.produce body) := .same (by simp) (by simp) (by simp)

theorem State.transmit_time (s : State) : KeepsTime s s.transmit := .same (by simp) (by simp) (by simp)

theorem State.live_time {s : State} {event : State → State} (h : ∀ s, KeepsTime s (event s)) : KeepsTime s (s.live event) := by
  unfold State.live
  split
  · exact (h s).trans (State.transmit_time _)
  all_goals exact .refl s

/-- A take keeps what its block's own part makes of the row's requests. -/
theorem State.take_time {s : State} {mine : Frame → Bool} {serve : Frame → State → State × Reply}
    (h : ∀ q s, mine q = true → KeepsTime s (serve q s).1) : KeepsTime s (s.take mine serve) := by
  unfold State.take
  split
  case h_1 q rest _ _ =>
    split
    case isTrue hmine =>
      refine KeepsTime.trans (t := s.taking rest) (.same rfl rfl rfl) ?_
      refine KeepsTime.trans ?_ (State.transmit_time _)
      refine KeepsTime.trans (t := ((s.taking rest).answer q serve).1) ?_ (.same rfl rfl rfl)
      unfold State.answer
      split
      · exact .refl _
      · exact h q _ hmine
    case isFalse => exact .refl s
  case h_2 => exact .refl s

/-! ### Requests of the Cue Store, of lines, inputs, notices and the autostart table -/

theorem State.changeList_time {s : State} {b : Byte} {own : ListId → State × Reply} (h : ∀ l, KeepsTime s (own l).1) :
    KeepsTime s (s.changeList b own).1 := by
  unfold State.changeList
  repeat' split
  case h_2.isFalse l _ _ => exact h l
  all_goals exact .refl s

theorem serveListCreate_time (q : Frame) (s : State) : KeepsTime s (serveListCreate q s).1 := by
  unfold serveListCreate
  repeat' split
  all_goals exact .same rfl rfl rfl

theorem serveListAppend_time (q : Frame) (s : State) : KeepsTime s (serveListAppend q s).1 := by
  unfold serveListAppend
  split
  · refine State.changeList_time fun l => ?_
    repeat' split
    all_goals exact .same rfl rfl rfl
  · exact .refl s

theorem serveListTruncate_time (q : Frame) (s : State) : KeepsTime s (serveListTruncate q s).1 := by
  unfold serveListTruncate
  split
  · refine State.changeList_time fun l => ?_
    simp only
    repeat' split
    all_goals exact .same rfl rfl rfl
  · exact .refl s

theorem serveListSeal_time (q : Frame) (s : State) : KeepsTime s (serveListSeal q s).1 := by
  unfold serveListSeal
  split
  · refine State.changeList_time fun l => ?_
    simp only
    repeat' split
    all_goals exact .same rfl rfl rfl
  · exact .refl s

theorem serveListUnseal_time (q : Frame) (s : State) : KeepsTime s (serveListUnseal q s).1 := by
  unfold serveListUnseal
  split
  · refine State.changeList_time fun l => ?_
    simp only
    repeat' split
    all_goals exact .same rfl rfl rfl
  · exact .refl s

theorem serveListDelete_time (q : Frame) (s : State) : KeepsTime s (serveListDelete q s).1 := by
  unfold serveListDelete
  split
  · refine State.changeList_time fun l => ?_
    simp only
    repeat' split
    all_goals exact .same rfl rfl rfl
  · exact .refl s

theorem serveListInfo_time (q : Frame) (s : State) : KeepsTime s (serveListInfo q s).1 := by
  unfold serveListInfo
  repeat' split
  all_goals exact .refl s

theorem serveListRead_time (q : Frame) (s : State) : KeepsTime s (serveListRead q s).1 := by
  unfold serveListRead
  simp only
  repeat' split
  all_goals exact .refl s

theorem serveLineDrive_time (q : Frame) (s : State) : KeepsTime s (serveLineDrive q s).1 := by
  unfold serveLineDrive
  simp only
  repeat' split
  all_goals exact .same rfl rfl rfl

theorem serveInputRead_time (q : Frame) (s : State) : KeepsTime s (serveInputRead q s).1 := by
  unfold serveInputRead
  simp only
  repeat' split
  all_goals exact .same rfl rfl rfl

theorem serveMute_time (on : Bool) (q : Frame) (s : State) : KeepsTime s (serveMute on q s).1 := by
  unfold serveMute
  split <;> exact .same rfl rfl rfl

/-- The condition does not read the autostart table. -/
theorem serveAutostartSet_time (q : Frame) (s : State) : KeepsTime s (serveAutostartSet q s).1 := by
  unfold serveAutostartSet serveAutoEntry serveAutoFlag
  repeat' split
  all_goals exact .refl s

/-- The condition does not read the autostart table. -/
theorem serveAutostartClear_time (q : Frame) (s : State) : KeepsTime s (serveAutostartClear q s).1 := by
  unfold serveAutostartClear
  repeat' split
  all_goals exact .refl s

/-! ### Requests of the players (R70 to R94) -/

theorem onPlayer_time {q : Frame} {s : State} {own : PlayerId → State × Reply} (h : ∀ p, KeepsTime s (own p).1) :
    KeepsTime s (onPlayer q s own).1 := by
  unfold onPlayer
  split
  · split
    · exact h _
    · exact .refl s
  · exact .refl s

theorem thenOwed_time {s : State} (p : PlayerId) {a : State × Reply} (h : KeepsTime s a.1) : KeepsTime s (thenOwed p a).1 :=
  h.trans (.play (State.owedNow_clock _ p) (State.owedNow_fixed _ p))

theorem servePlayerBind_time (q : Frame) (s : State) : KeepsTime s (servePlayerBind q s).1 := by
  unfold servePlayerBind
  simp only
  repeat' split
  all_goals exact .same rfl rfl rfl

theorem servePlayerUnbind_time (q : Frame) (s : State) : KeepsTime s (servePlayerUnbind q s).1 := by
  have hunbind : ∀ p, KeepsTime s (s.unbindPlayer p) := fun p =>
    .clock (by simp [State.unbindPlayer]) (by simp [State.unbindPlayer])
  refine onPlayer_time fun p => ?_
  split
  · exact hunbind p
  · exact hunbind p
  all_goals exact .refl s

theorem State.startPlayer_time (s : State) (p : PlayerId) (sp : StartPoint) (limit : Nat) (stop : Option Nat) (o : Order) :
    KeepsTime s ((s.startPlayer p sp limit stop).settle o) :=
  .play (by simp) (by simp)

theorem servePlayerStart_time (o : Order) (q : Frame) (s : State) : KeepsTime s (servePlayerStart o q s).1 := by
  unfold servePlayerStart
  split
  · split
    · exact .refl s
    · split
      · exact .refl s
      · split
        · exact .refl s
        · split
          · exact .refl s
          · exact .refl s
          · exact .refl s
          · exact thenOwed_time _ (s.startPlayer_time _ _ _ _ o)
          · exact thenOwed_time _ (s.startPlayer_time _ _ _ _ o)
          · split
            · exact .refl s
            · exact thenOwed_time _ (.same rfl rfl rfl)
  · exact .refl s

theorem servePlayerCancel_time (q : Frame) (s : State) : KeepsTime s (servePlayerCancel q s).1 := by
  refine onPlayer_time fun p => ?_
  split
  · exact thenOwed_time p (.same rfl rfl rfl)
  all_goals exact .refl s

theorem servePlayerStop_time (q : Frame) (s : State) : KeepsTime s (servePlayerStop q s).1 := by
  have hstop : ∀ p, KeepsTime s (s.stopPlayer p) := fun p => by
    refine .clock (s.stopPlayer_clock p) ?_
    exact congrArg Fixed.image (State.commitAtPassEnd_fixed _ p)
  refine onPlayer_time fun p => ?_
  simp only
  split
  · exact thenOwed_time p (hstop p)
  · exact thenOwed_time p (hstop p)
  · exact thenOwed_time p (hstop p)
  all_goals exact .refl s

theorem servePlayerHold_time (q : Frame) (s : State) : KeepsTime s (servePlayerHold q s).1 := by
  refine onPlayer_time fun p => ?_
  simp only
  split
  · exact thenOwed_time p (.same rfl rfl rfl)
  · split
    · exact thenOwed_time p (.same rfl rfl rfl)
    · exact .refl s
  all_goals exact .refl s

theorem servePlayerResume_time (o : Order) (q : Frame) (s : State) : KeepsTime s (servePlayerResume o q s).1 := by
  refine onPlayer_time fun p => ?_
  split
  · exact .refl s
  · split
    · exact thenOwed_time p (.play ((State.settle_clock _ o).trans (s.resumePlayer_clock p))
        ((State.settle_fixed _ o).trans (s.resumePlayer_fixed p)))
    all_goals exact .refl s

theorem servePlayerSetStop_time (q : Frame) (s : State) : KeepsTime s (servePlayerSetStop q s).1 := by
  unfold servePlayerSetStop
  split
  · split
    · exact .refl s
    · simp only
      split
      · exact .refl s
      · exact thenOwed_time _ (.same rfl rfl rfl)
  · exact .refl s

theorem servePlayerClear_time (q : Frame) (s : State) : KeepsTime s (servePlayerClear q s).1 := by
  refine onPlayer_time fun p => ?_
  simp only
  split <;> exact .same rfl rfl rfl

theorem servePlayerReplace_time (q : Frame) (s : State) : KeepsTime s (servePlayerReplace q s).1 := by
  have happly : ∀ p l, KeepsTime s (s.applyReplacement p l) := fun p l => by
    rw [State.applyReplacement_eq]
    exact .clock (by simp) (by simp)
  have hpend : ∀ p l point, KeepsTime s (s.pendReplacement p l point) := fun p l point => by
    rw [State.pendReplacement_eq]
    exact .clock (by simp) (by simp)
  unfold servePlayerReplace
  split
  · split
    · split
      · exact .refl s
      · simp only
        split
        · exact .refl s
        · split
          · split
            · exact .refl s
            · split
              · exact thenOwed_time _ (happly _ _)
              · split
                · exact thenOwed_time _ (hpend _ _ _)
                · exact thenOwed_time _ (hpend _ _ _)
          · exact .refl s
    · exact .refl s
  · exact .refl s

theorem servePlayerWithdraw_time (q : Frame) (s : State) : KeepsTime s (servePlayerWithdraw q s).1 := by
  refine onPlayer_time fun p => ?_
  simp only
  split
  · exact thenOwed_time p (.same rfl rfl rfl)
  · exact .refl s

/-! ### Requests of the Timebase and of the Safe Unit -/

theorem State.catchUp_time (s : State) (o : Order) : KeepsTime s (s.catchUp o) := .play (s.catchUp_clock o) (s.catchUp_fixed o)

theorem State.tbStartAction_time {s : State} (o : Order) (h : s.tb.state = .stopped) : KeepsTime s (s.tbStartAction o) :=
  .counts (fun hs => State.tbStartAction_sound hs h o) (congrArg Fixed.image (s.tbStartAction_fixed o))

theorem serveTbStart_time (o : Order) (q : Frame) (s : State) : KeepsTime s (serveTbStart o q s).1 := by
  unfold serveTbStart
  split
  case h_1 hstop =>
    have hstart : KeepsTime s ((s.catchUp o).tbStartAction o) :=
      (s.catchUp_time o).trans (State.tbStartAction_time o
        ((Timebase.state_of_counts (State.counts_of_clock (s.catchUp_clock o))).trans hstop))
    simp only
    split <;> exact hstart
  all_goals exact .refl s

theorem serveTbStop_time (o : Order) (q : Frame) (s : State) : KeepsTime s (serveTbStop o q s).1 := by
  unfold serveTbStop
  split
  · exact .refl s
  all_goals
    exact (s.catchUp_time o).trans
      (.counts State.tbStopAction_sound (congrArg Fixed.image (State.tbStopAction_fixed _)))

theorem serveSafeEnter_time (o : Order) (q : Frame) (s : State) : KeepsTime s (serveSafeEnter o q s).1 := by
  unfold serveSafeEnter
  simp only
  split
  · exact .play (by simp) (by simp)
  · split
    · exact .refl s
    · exact .play (s.changeSafe_clock _ _ _) (s.changeSafe_fixed _ _ _)

theorem serveSafeRelease_time (o : Order) (q : Frame) (s : State) : KeepsTime s (serveSafeRelease o q s).1 := by
  unfold serveSafeRelease
  split
  · exact .play (by simp) (by simp)
  all_goals exact .refl s

/-! ### Requests of parameters (R161, R162) -/

theorem serveParamGet_time (q : Frame) (s : State) : KeepsTime s (serveParamGet q s).1 := by
  unfold serveParamGet
  repeat' split
  all_goals exact .refl s

/-- The row's own part sees an id of the row and a value of the parameter (R162). -/
theorem serveParamSet_time {ids : List Byte} {own : Byte → Byte → Nat → State → State × Reply}
    (h : ∀ id index v s, ids.contains id = true → paramInRange id v = true → v ≤ 65535 → KeepsTime s (own id index v s).1)
    (q : Frame) (s : State) (hq : setsParam ids q = true) : KeepsTime s (serveParamSet own q s).1 := by
  unfold serveParamSet
  split
  case h_1 id index hi lo hpayload =>
    have hid : ids.contains id = true := by
      unfold setsParam at hq
      rw [hpayload] at hq
      exact (Bool.and_eq_true_iff.mp hq).2
    simp only
    split
    · exact .refl s
    · split
      · exact .refl s
      case isFalse hrange =>
        exact h id index _ s hid (by simpa using hrange) (Nat.le_of_lt_succ (word16 hi lo).isLt)
  case h_2 => exact .refl s

theorem ownParam_time (q : Frame) (s : State) : KeepsTime s (serveParamSet ownParam q s).1 := by
  unfold serveParamSet ownParam State.paramReply
  split
  · simp only
    split
    · exact .refl s
    · split
      · exact .refl s
      · refine .params rfl ?_ rfl
        simp only
        repeat' split
        all_goals exact ⟨rfl, rfl, rfl, rfl⟩
  · exact .refl s

/-- A FRAME_LEN in its range comes in force at position 0, or becomes pending (R38). -/
theorem ownStaged_frameLen_time (index : Byte) {v : Nat} (s : State) (hv : 16 ≤ v) (hmax : v ≤ 65535) :
    KeepsTime s (ownStaged 0x03 index v s).1 := by
  unfold ownStaged
  split
  case isTrue hstop =>
    refine .counts (fun h => ?_) rfl
    obtain ⟨hdiv, -, -, hsuper⟩ := h.timed
    have hposition : s.tb.position < v := by rw [(h.idle (.inl hstop)).1]; exact Nat.lt_of_lt_of_le (by decide) hv
    exact ⟨⟨hdiv, hv, hmax, hsuper⟩, hposition, h.index, h.divider, h.external, h.idle, nofun, h.superLen⟩
  case isFalse =>
    refine .counts (fun h => ?_) rfl
    exact ⟨h.timed, h.position, h.index, h.divider, h.external, h.idle, fun n hn => by cases hn; exact ⟨hv, hmax⟩, h.superLen⟩

/-- A SUPER_LEN in its range comes in force at index 0, or becomes pending (R38). -/
theorem ownStaged_superLen_time (index : Byte) {v : Nat} (s : State) (hv : 1 ≤ v ∧ v ≤ 256) :
    KeepsTime s (ownStaged 0x04 index v s).1 := by
  unfold ownStaged
  split
  case isTrue hstop =>
    refine .counts (fun h => ?_) rfl
    obtain ⟨hdiv, hframe, hframe', -⟩ := h.timed
    have hindex : s.tb.index < v := by rw [(h.idle (.inl hstop)).2.1]; exact hv.1
    exact ⟨⟨hdiv, hframe, hframe', hv⟩, h.position, hindex, h.divider, h.external, h.idle, h.frameLen, nofun⟩
  case isFalse =>
    refine .counts (fun h => ?_) rfl
    exact ⟨h.timed, h.position, h.index, h.divider, h.external, h.idle, h.frameLen, fun n hn => by cases hn; exact hv⟩

theorem ownStaged_time (id index : Byte) (v : Nat) (s : State) (hid : [0x03, 0x04].contains id = true)
    (hv : paramInRange id v = true) (hmax : v ≤ 65535) : KeepsTime s (ownStaged id index v s).1 := by
  have hids : id = 0x03 ∨ id = 0x04 := by simpa using hid
  rcases hids with rfl | rfl
  · exact ownStaged_frameLen_time index s (by simpa [paramInRange] using hv) hmax
  · exact ownStaged_superLen_time index s (by simpa [paramInRange] using hv)

/-- While STOPPED the divider count is 0, below any TICK_DIV and with any source (R40). -/
theorem ownStoppedClass_time (id index : Byte) (v : Nat) (s : State) (hv : paramInRange id v = true) :
    KeepsTime s (ownStoppedClass id index v s).1 := by
  unfold ownStoppedClass
  split
  case isTrue hstop =>
    refine .counts (fun h => ?_) rfl
    obtain ⟨hdiv, hframe, hframe', hsuper, hsuper'⟩ := h.timed
    obtain ⟨-, -, hdivider⟩ := h.idle (.inl hstop)
    have htickDiv : id = 0x02 → 1 ≤ v := fun e => by subst e; simpa [paramInRange] using hv
    simp only [State.paramReply]
    repeat' split
    case isTrue => exact ⟨h.timed, h.position, h.index, h.divider, fun _ => hdivider, h.idle, h.frameLen, h.superLen⟩
    case isFalse.isTrue e =>
      exact ⟨⟨htickDiv e, hframe, hframe', hsuper, hsuper'⟩, h.position, h.index, by rw [hdivider]; exact htickDiv e,
        h.external, h.idle, h.frameLen, h.superLen⟩
    all_goals exact ⟨h.timed, h.position, h.index, h.divider, h.external, h.idle, h.frameLen, h.superLen⟩
  case isFalse => exact .refl s

theorem ownSyncOutSrc_time (id index : Byte) (v : Nat) (s : State) : KeepsTime s (ownSyncOutSrc id index v s).1 := by
  unfold ownSyncOutSrc State.paramReply
  simp only
  split <;> exact .params rfl ⟨rfl, rfl, rfl, rfl⟩ rfl

theorem ownHoldLevel_time (o : Order) (id index : Byte) (v : Nat) (s : State) : KeepsTime s (ownHoldLevel o id index v s).1 :=
  KeepsTime.trans (t := { s with params := { s.params with holdLevel := decide (v = 1) } }) (.params rfl ⟨rfl, rfl, rfl, rfl⟩ rfl)
    (.play ((State.settle_clock _ o).trans (State.judgeHold_clock _ o _)) ((State.settle_fixed _ o).trans (State.judgeHold_fixed _ o _)))

theorem ownInEdge_time (id index : Byte) (v : Nat) (s : State) : KeepsTime s (ownInEdge id index v s).1 := by
  unfold ownInEdge State.paramReply
  split
  · simp only
    split <;> exact .params rfl ⟨rfl, rfl, rfl, rfl⟩ rfl
  · exact .refl s

theorem ownInFilter_time (id index : Byte) (v : Nat) (s : State) : KeepsTime s (ownInFilter id index v s).1 := by
  unfold ownInFilter
  split
  · exact .params rfl ⟨rfl, rfl, rfl, rfl⟩ rfl
  · exact .refl s

end Sys2Proof.Machine

/-! PROOFS. Image operations, link events, resets, start-up, and then every row: the Timebase's counts stay in their ranges (O58). -/

namespace Sys2Proof.Machine

/-! ### Image operations (R174 to R177) -/

@[simp] theorem State.setBank_tb (s : State) (k : BankId) (b : Bank) : (s.setBank k b).tb = s.tb := by cases k <;> rfl

@[simp] theorem State.setBank_params (s : State) (k : BankId) (b : Bank) : (s.setBank k b).params = s.params := by
  cases k <;> rfl

@[simp] theorem State.setBank_op (s : State) (k : BankId) (b : Bank) : (s.setBank k b).image.op = s.image.op := by
  cases k <;> rfl

theorem State.timeSound.op {s : State} (h : s.timeSound) : s.image.op.timed := ((State.timeSound_iff s).mp h).2.1

theorem State.setHeader_time (s : State) (k : BankId) (st : BankState) : KeepsTime s (s.setHeader k st) :=
  .banks (by simp [State.setHeader]) (by simp [State.setHeader]) (fun h => by simpa [State.setHeader] using h.op)
    (s.setHeader_noNewImage k st)

theorem State.judged_endOp_time (s : State) : KeepsTime s s.judgeBanks.endOp :=
  .banks rfl rfl (fun _ => trivial) (s.judgeBanks_noNewImage.trans s.judgeBanks.endOp_noNewImage)

/-- The snapshot of a save holds the parameters in force (R174). -/
theorem serveImageSave_time (q : Frame) (s : State) : KeepsTime s (serveImageSave q s).1 := by
  unfold serveImageSave
  split
  · exact .refl s
  · split
    · exact .refl s
    · refine (s.setHeader_time s.saveTarget .writing).trans (.banks rfl rfl (fun h => ?_) (.of_banks rfl rfl))
      have hparams : (s.setHeader s.saveTarget .writing).params = s.params := by simp [State.setHeader]
      change s.params.timed
      rw [← hparams]
      exact h.timed

theorem serveImageErase_time (q : Frame) (s : State) : KeepsTime s (serveImageErase q s).1 := by
  unfold serveImageErase
  split
  · exact .refl s
  · exact (s.setHeader_time .a .writing).trans (.banks rfl rfl (fun _ => trivial) (.of_banks rfl rfl))

/-- A bank takes the parameters of the save in flight (R175). -/
theorem State.completeSave_time (s : State) (ok : Bool) : KeepsTime s (s.completeSave ok) := by
  unfold State.completeSave
  split
  case h_1 target seq params autostart hop =>
    split
    · refine KeepsTime.trans ?_ ((State.judged_endOp_time _).trans (State.produce_time _ _))
      refine .of (fun h => State.countsSound_of_clock h (State.clock_congr (by simp) (by simp)))
        (fun h => by simpa using h.op) fun h k img hk => ?_
      rw [s.setBank_bank] at hk
      split at hk
      · obtain rfl : Image.mk s.sealedLists params autostart = img := Option.some.inj hk
        have hsaved := h.op
        rw [hop] at hsaved
        exact hsaved
      · exact h.images hk
    · exact ((s.setHeader_time target .damaged).trans (State.judged_endOp_time _)).trans (State.produce_time _ _)
  all_goals exact .refl s

theorem State.treatedA_time (s : State) (ok : Bool) : KeepsTime s (s.treatedA ok) := by
  unfold State.treatedA
  split
  · exact ((s.setHeader_time .a (erasedState ok)).trans (State.setHeader_time _ .b .writing)).trans
      (.banks rfl rfl (fun _ => trivial) (.of_banks rfl rfl))
  all_goals exact .refl s

theorem State.completeErase_time (s : State) (ok : Bool) : KeepsTime s (s.completeErase ok) := by
  unfold State.completeErase
  split
  · exact ((s.setHeader_time .b _).trans (State.judged_endOp_time _)).trans (State.produce_time _ _)
  all_goals exact .refl s

/-! ### Resets (R46, R164, R165, R179) -/

theorem Params.default_timed : Params.default.timed := by unfold Params.timed; decide

theorem State.startUpValues_time (s : State) : KeepsTime s s.startUpValues :=
  .of (fun _ => .blank Params.default_timed s.tb.syncIn) (fun _ => trivial)
    fun h k img hk => h.images (NoNewImage.of_banks (s := s) (t := s.startUpValues) rfl rfl k img hk)

/-- A WARM reset stops the Timebase and keeps the parameters (R46, R164). -/
theorem State.warmReset_time (s : State) : KeepsTime s s.warmReset := fun h =>
  (State.timeSound_iff s.warmReset).mpr ⟨.blank h.timed s.tb.syncIn, trivial,
    fun k img hk => h.images (NoNewImage.of_banks (s := s) (t := s.warmReset) rfl rfl k img hk)⟩

theorem serveResetWarm_time (q : Frame) (s : State) : KeepsTime s (serveResetWarm q s).1 := by
  unfold serveResetWarm
  split
  · exact s.warmReset_time
  · exact .refl s

/-! ### Link events (R143 to R149, R165) -/

theorem State.linkError_time (s : State) (cause : LinkCause) : KeepsTime s (s.linkError cause) :=
  .same (by simp [State.linkError]) (by simp [State.linkError]) (by simp [State.linkError])

theorem State.setRx_time (s : State) (rx : Receiver) (timer : Option Nat) : KeepsTime s (s.setRx rx timer) :=
  .same rfl rfl rfl

theorem State.enterInbox_time (s : State) (f : Frame) : KeepsTime s (s.enterInbox f) := by
  unfold State.enterInbox
  repeat' split
  all_goals exact .same rfl rfl rfl

theorem State.judgeFrame_time (s : State) (got : List Byte) (check : BitVec 16) : KeepsTime s (s.judgeFrame got check) := by
  unfold State.judgeFrame
  split
  · split
    · exact (s.setRx_time _ _).trans (State.enterInbox_time _ _)
    · exact s.linkError_time _
  · exact s.linkError_time _

theorem State.rxByte_time (s : State) (b : Byte) : KeepsTime s (s.rxByte b) := by
  unfold State.rxByte
  split
  · split
    · exact s.setRx_time _ _
    · exact .refl s
  · split
    · exact s.setRx_time _ _
    · exact s.linkError_time _
  · split <;> exact s.setRx_time _ _
  · exact s.setRx_time _ _
  · exact s.judgeFrame_time _ _

theorem State.rxBytes_time (s : State) (bs : List Byte) : KeepsTime s (s.rxBytes bs) := by
  rw [State.rxBytes_eq]
  induction bs generalizing s with
  | nil => exact .refl s
  | cons b bs ih => exact (s.rxByte_time b).trans (ih _)

theorem State.byteError_time (s : State) : KeepsTime s s.byteError := by
  unfold State.byteError
  split
  · exact s.linkError_time _
  · exact .refl s

theorem State.frameEnd_time (s : State) : KeepsTime s s.frameEnd := by
  have hend : ∀ (u : State) (e : ReplyEffect), KeepsTime u (u.replyEnd e) := fun u e => by
    cases e with
    | plain => exact .refl u
    | setRate r => exact .same rfl rfl rfl
    | reload => exact u.startUpValues_time.trans (.same rfl rfl rfl)
  unfold State.frameEnd
  split
  · exact .refl s
  · simp only
    split
    case h_1 e rest _ _ =>
      exact KeepsTime.trans (t := { s with link := { s.link with tx := none, replies := rest } }) (.same rfl rfl rfl) (hend _ _)
    case h_2 => exact .same rfl rfl rfl

/-! ### Time, phase ends -/

theorem State.passMicrosecond_image (s : State) (o : Order) : (s.passMicrosecond o).image = s.image := by
  have hplay : (s.passMicrosecond o).image = s.timeByte.image := congrArg Fixed.image (s.passMicrosecond_fixed o)
  rw [hplay, s.timeByte_frame]

theorem State.passMicrosecond_time (s : State) (o : Order) : KeepsTime s (s.passMicrosecond o) :=
  .counts (fun h => State.passMicrosecond_sound h o) (s.passMicrosecond_image o)

/-- The players of a phase-end row act on their own records. -/
theorem State.phaseRow_time (s : State) (p : PlayerId) (o : Order) (a : Activity) (ofRow : StepAction → Bool) :
    KeepsTime s (s.phaseRow p o a ofRow) := by
  refine State.live_time fun s => ?_
  split
  · refine .play (runActors_clock (fun a s' => ?_) _ s) (runActors_fixed (fun a s' => ?_) _ s)
    all_goals
      cases a with
      | player p' => simp only; split <;> simp
      | safeUnit => rfl
      | superframeNotice => rfl
  · exact .refl s

/-! ### Start-up (R179, R180) -/

/-- While BOOTING up to the Timebase's autostart the Timebase is STOPPED, so loaded parameters find its counts at 0. -/
theorem State.loadBanks_time {s : State} (hstop : s.tb.state = .stopped) : KeepsTime s s.loadBanks.1 := by
  have hjudge : KeepsTime s s.judgeBanks := .banks rfl rfl (fun h => h.op) (.of_banks rfl rfl)
  unfold State.loadBanks
  simp only
  split
  · split
    case h_1 img hk =>
      obtain ⟨hframe, -⟩ := State.restoreLists_frame img.lists s.judgeBanks
      refine hjudge.trans fun h => ?_
      obtain ⟨hdiv, hlen, -, hsuper, -⟩ := h.images hk
      have hcounts := h.counts
      obtain ⟨hposition, hindex, hdivider⟩ := hcounts.idle (.inl hstop)
      have hload : s.judgeBanks.loadImage img = { s.judgeBanks with
          store := (img.lists.foldl State.restoreList s.judgeBanks).store, params := img.params
          lines := { s.lines with logical := img.params.lineIdle }
          image := { s.judgeBanks.image with autostart := img.autostart } } := by
        unfold State.loadImage
        simp only
        rw [hframe]
        rfl
      rw [hload]
      refine (State.timeSound_iff _).mpr ⟨⟨h.images hk, ?_, ?_, ?_, fun _ => hdivider, hcounts.idle, hcounts.frameLen,
        hcounts.superLen⟩, h.op, fun k img' hk' => h.images (k := k) ?_⟩
      · exact hposition ▸ Nat.lt_of_lt_of_le (show 0 < 16 by decide) hlen
      · exact hindex ▸ hsuper
      · exact hdivider ▸ hdiv
      · cases k <;> exact hk'
    case h_2 => exact hjudge
  · exact hjudge

theorem State.runEntry_time (s : State) (o : Order) (p : PlayerId) : KeepsTime s (s.runEntry o p).1 := by
  unfold State.runEntry
  split
  · exact .refl s
  · split
    · split
      · exact .refl s
      · split
        · exact .refl s
        · simp only
          have hbind : ∀ l lines, KeepsTime s (s.bindPlayer p l lines) := fun _ _ => .same rfl rfl rfl
          split
          · exact hbind _ _
          · exact (hbind _ _).trans (State.startPlayer_time _ p _ _ _ o)
    · exact .refl s

theorem State.startUpAction_time {s : State} (h : s.bootClean) (o : Order) : KeepsTime s (s.startUpAction o) := by
  cases hb : s.boot with
  | ready =>
    have hstill : s.startUpAction o = s := by simp [State.startUpAction, hb]
    rw [hstill]
    exact .refl s
  | booting stage =>
    cases stage with
    | values =>
      have hstop : s.tb.state = .stopped := by
        simp only [State.bootClean, hb] at h
        exact h.2.2.1
      rw [State.startUpAction_values hb]
      exact (State.loadBanks_time hstop).trans (.same rfl rfl rfl)
    | loaded load =>
      rw [State.startUpAction_loaded hb]
      exact .same rfl rfl rfl
    | judged load =>
      have hstop : s.tb.state = .stopped := by
        simp only [State.bootClean, hb] at h
        exact h.2.2
      rw [State.startUpAction_judged hb]
      refine KeepsTime.trans (t := s.autostartTimebase o) ?_ (.same rfl rfl rfl)
      unfold State.autostartTimebase
      split
      · exact State.tbStartAction_time o hstop
      · exact .refl s
    | autostart load results =>
      obtain ⟨-, hlen, -⟩ : s.image.op = .none ∧ results.length ≤ 6 ∧
        ∀ p : PlayerId, results.length ≤ p.val → s.player p = Player.blank := by simpa only [State.bootClean, hb] using h
      rcases Nat.lt_or_ge results.length 6 with hlt | hge
      · rw [State.startUpAction_entry (p := ⟨results.length, hlt⟩) hb rfl]
        exact (s.runEntry_time o _).trans (.same rfl rfl rfl)
      · rw [State.startUpAction_last hb (by omega)]
        exact (s.produce_time _).trans (.same rfl rfl rfl)

theorem State.startUp_time (o : Order) : ∀ (n : Nat) {s : State}, s.bootClean → KeepsTime s (s.startUp o n)
  | 0, s, _ => .refl s
  | n + 1, s, h => by
    rw [State.startUp_succ]
    exact (State.startUpAction_time h o).trans (State.startUp_time o n (State.startUpAction_keeps h o).2)

/-! ### Every row -/

theorem KeepsTime.of_next {s t u : State} (h : (Host.Outcome.next u : Host.Outcome State Fault Refusal) = .next t)
    (hu : KeepsTime s u) : KeepsTime s t := by
  cases h; exact hu

/-- A take row whose block's own part keeps the counts in their ranges, whatever its request. -/
theorem KeepsTime.of_take {s t : State} {mine : Frame → Bool} {serve : Frame → State → State × Reply}
    (hserve : ∀ q s, KeepsTime s (serve q s).1)
    (h : (Host.Outcome.next (s.take mine serve) : Host.Outcome State Fault Refusal) = .next t) : KeepsTime s t :=
  .of_next h (State.take_time fun q s _ => hserve q s)

/-- A row that sets parameters of its own. -/
theorem KeepsTime.of_set {s t : State} {ids : List Byte} {own : Byte → Byte → Nat → State → State × Reply}
    (hown : ∀ id index v s, ids.contains id = true → paramInRange id v = true → v ≤ 65535 → KeepsTime s (own id index v s).1)
    (h : (Host.Outcome.next (s.take (setsParam ids) (serveParamSet own)) : Host.Outcome State Fault Refusal) = .next t) :
    KeepsTime s t :=
  .of_next h (State.take_time fun q s hq => serveParamSet_time hown q s hq)

/-- Every row keeps the Timebase's counts in their ranges, given what a start-up has not reached yet. -/
theorem exec_time {s t : State} (c : Instr) (hb : s.bootClean) (h : exec c s = .next t) : KeepsTime s t := by
  cases c with
  | listCreate => exact .of_take serveListCreate_time h
  | listAppend => exact .of_take serveListAppend_time h
  | listTruncate => exact .of_take serveListTruncate_time h
  | listSeal => exact .of_take serveListSeal_time h
  | listUnseal => exact .of_take serveListUnseal_time h
  | listDelete => exact .of_take serveListDelete_time h
  | listInfo => exact .of_take serveListInfo_time h
  | listRead => exact .of_take serveListRead_time h
  | storeInfo => exact .of_take (fun _ s => .refl s) h
  | playerBind => exact .of_take servePlayerBind_time h
  | playerUnbind => exact .of_take servePlayerUnbind_time h
  | playerStart o => exact .of_take (servePlayerStart_time o) h
  | playerCancel => exact .of_take servePlayerCancel_time h
  | playerStop => exact .of_take servePlayerStop_time h
  | playerHold => exact .of_take servePlayerHold_time h
  | playerResume o => exact .of_take (servePlayerResume_time o) h
  | playerSetStop => exact .of_take servePlayerSetStop_time h
  | playerClear => exact .of_take servePlayerClear_time h
  | playerStatus => exact .of_take (fun _ s => onPlayer_time fun _ => .refl s) h
  | playerReplace => exact .of_take servePlayerReplace_time h
  | playerWithdraw => exact .of_take servePlayerWithdraw_time h
  | tbStart o => exact .of_take (serveTbStart_time o) h
  | tbStop o => exact .of_take (serveTbStop_time o) h
  | tbStatus => exact .of_take (fun _ s => .refl s) h
  | lineDrive => exact .of_take serveLineDrive_time h
  | lineStatus => exact .of_take (fun _ s => .refl s) h
  | inputRead => exact .of_take serveInputRead_time h
  | safeEnter o => exact .of_take (serveSafeEnter_time o) h
  | safeRelease o => exact .of_take (serveSafeRelease_time o) h
  | safeStatus => exact .of_take (fun _ s => .refl s) h
  | paramGet => exact .of_take serveParamGet_time h
  | paramSet => exact .of_take ownParam_time h
  | paramSetStaged => exact .of_set ownStaged_time h
  | paramSetStoppedClass => exact .of_set (fun id index v s _ hv _ => ownStoppedClass_time id index v s hv) h
  | paramSetSyncOutSrc => exact .of_set (fun id index v s _ _ _ => ownSyncOutSrc_time id index v s) h
  | paramSetLinkRate => exact .of_set (fun _ _ _ s _ _ _ => .refl s) h
  | paramSetHoldLevel o => exact .of_set (fun id index v s _ _ _ => ownHoldLevel_time o id index v s) h
  | paramSetInEdge => exact .of_set (fun id index v s _ _ _ => ownInEdge_time id index v s) h
  | paramSetInFilter => exact .of_set (fun id index v s _ _ _ => ownInFilter_time id index v s) h
  | paramSetLineIdle => exact .of_set (fun _ _ _ _ _ _ _ => .params rfl ⟨rfl, rfl, rfl, rfl⟩ rfl) h
  | paramSetLineSafe => exact .of_set (fun _ _ _ _ _ _ _ => .params rfl ⟨rfl, rfl, rfl, rfl⟩ rfl) h
  | paramSetNoticeMask => exact .of_set (fun _ _ _ _ _ _ _ => .params rfl ⟨rfl, rfl, rfl, rfl⟩ rfl) h
  | noticeMute => exact .of_take (serveMute_time true) h
  | noticeUnmute => exact .of_take (serveMute_time false) h
  | imageSave => exact .of_take serveImageSave_time h
  | imageErase => exact .of_take serveImageErase_time h
  | imageInfo => exact .of_take (fun _ s => .refl s) h
  | autostartSet => exact .of_take serveAutostartSet_time h
  | autostartClear => exact .of_take serveAutostartClear_time h
  | autostartRead => exact .of_take (fun _ s => .refl s) h
  | deviceStatus => exact .of_take (fun _ s => .refl s) h
  | deviceResetWarm => exact .of_take serveResetWarm_time h
  | deviceResetReload => exact .of_take (fun _ _ => .same rfl rfl rfl) h
  | unknownKindRequest => exact .of_take (fun _ s => .refl s) h
  | frameReceived f =>
    refine .of_next h (State.live_time fun s => ?_)
    split
    · exact s.rxBytes_time _
    · exact .refl s
  | linkBadLength len =>
    refine .of_next h (State.live_time fun s => ?_)
    split
    · exact s.rxByte_time len
    · exact .refl s
  | linkByteError => exact .of_next h (State.live_time State.byteError_time)
  | linkTimeout =>
    refine .of_next h (State.live_time fun s => ?_)
    split
    · exact s.linkError_time _
    · exact .refl s
  | frameSent => exact .of_next h (State.live_time State.frameEnd_time)
  | internalTick o =>
    refine .of_next h (State.live_time fun s => ?_)
    split
    · exact s.passMicrosecond_time o
    · exact .refl s
  | tickInEdge o =>
    refine .of_next h (State.live_time fun s => ?_)
    split
    case isTrue hticks =>
      exact .counts (fun hs => State.tick_sound hs (State.ticksFrom_running hticks).1 o) (congrArg Fixed.image (s.tick_fixed o))
    case isFalse => exact .refl s
  | syncInEdge level o =>
    change execSyncInEdge level o s = .next t at h
    unfold execSyncInEdge at h
    split at h
    · exact .of_next h (State.live_time fun s =>
        .counts (fun hs => State.syncChange_sound hs level o) (congrArg Fixed.image (s.syncChange_fixed level o)))
    all_goals exact .of_next h (.refl s)
  | syncOutPulseEnd =>
    refine .of_next h (State.live_time fun s => ?_)
    split
    · exact .params rfl ⟨rfl, rfl, rfl, rfl⟩ rfl
    · exact .refl s
  | setDwellEnd p o => exact .of_next h (s.phaseRow_time p o _ _)
  | pulseTrailingEdge p o => exact .of_next h (s.phaseRow_time p o _ _)
  | pulseDwellEnd p o => exact .of_next h (s.phaseRow_time p o _ _)
  | waitEdgeTimeout p o => exact .of_next h (s.phaseRow_time p o _ _)
  | acceptedChange n o =>
    exact .of_next h (State.live_time fun s => .play (s.acceptChange_clock n o) (s.acceptChange_fixed n o))
  | holdInChange level o =>
    change execHoldInChange level o s = .next t at h
    unfold execHoldInChange at h
    split at h
    · exact .of_next h (State.live_time fun s => .play (s.holdSample_clock level o) (s.holdSample_fixed level o))
    all_goals exact .of_next h (.same rfl rfl rfl)
  | saveCompletion ok => exact .of_next h (State.live_time fun s => s.completeSave_time ok)
  | eraseCompletion ok => exact .of_next h (State.live_time fun s => s.completeErase_time ok)
  | startUpReset cause =>
    change execStartUpReset cause s = .next t at h
    unfold execStartUpReset at h
    split at h
    · exact .of_next h (.refl s)
    · exact .of_next h (s.startUpValues_time.trans (.same rfl rfl rfl))
  | imageLoad o =>
    refine .of_next h ?_
    unfold State.live
    split
    · exact (State.startUp_time o _ hb).trans (State.transmit_time _)
    all_goals exact .refl s
  | sofReceived =>
    refine .of_next h (State.live_time fun s => ?_)
    split
    · exact s.rxByte_time _
    · exact .refl s
  | inputSample n level o =>
    exact .of_next h (State.live_time fun s => .play (s.sample_clock n level o) (s.sample_fixed n level o))
  | bankATreated ok => exact .of_next h (State.live_time fun s => s.treatedA_time ok)
  | resetNRelease =>
    change execResetNRelease s = .next t at h
    unfold execResetNRelease at h
    split at h
    · exact .of_next h (.same rfl rfl rfl)
    all_goals exact .of_next h (.refl s)
  | powerFailure => exact .of_next h (.banks rfl rfl (fun _ => trivial) (.of_banks rfl rfl))

/-- Settles O58: players and inputs leave the clock; the Timebase's own operations, the parameters of its class and the resets move it
within its ranges, since the values that a commit or a load brings in force are allowed ones and find position and index at 0. -/
theorem timebaseCountsStayInRange : Obligations.TimebaseCountsStayInRange := by
  intro s t hb hs h
  unfold step at h
  split at h
  case h_1 c rest _ =>
    have hpop : KeepsTime s { s with pending := rest } := .same rfl rfl rfl
    exact (hpop.trans (exec_time c hb h)) hs
  case h_2 =>
    cases h
    exact State.live_time (fun s => s.passMicrosecond_time _) hs

end Sys2Proof.Machine

/-! PROOFS. How the Timebase's events are put together (R25, R28, R32 to R36, R39, R43): the state that an event leaves before it is
handed out, its notices, and the hand-out. -/

namespace Sys2Proof.Machine

/-! ### Notices of the Timebase's events -/

@[simp] theorem State.setTbState_notices (s : State) (st : TbState) : (s.setTbState st).notices = s.notices := by
  rw [s.setTbState_frame]

@[simp] theorem State.countFrame_notices (s : State) (index : Nat) : (s.countFrame index).notices = s.notices := by
  rw [s.countFrame_frame]

@[simp] theorem State.syncOutAtFrame_notices (s : State) (super : Bool) : (s.syncOutAtFrame super).notices = s.notices := by
  rw [s.syncOutAtFrame_frame]

@[simp] theorem State.syncOutAtTick_notices (s : State) : s.syncOutAtTick.notices = s.notices := by
  rw [s.syncOutAtTick_frame]

@[simp] theorem State.raiseIf_notices (s : State) (src : SyncOutSrc) : (s.raiseIf src).notices = s.notices := by
  rw [s.raiseIf_frame]

@[simp] theorem State.sayCommit_clock (s before : State) : (s.sayCommit before).clock = s.clock := by
  unfold State.sayCommit; split <;> simp

/-- What is said of a commit depends on the pending values and the values in force alone. -/
theorem State.sayCommit_congr {before before' : State} (u : State) (hp : before'.params = before.params)
    (hframe : before'.tb.pendFrameLen = before.tb.pendFrameLen) (hsuper : before'.tb.pendSuperLen = before.tb.pendSuperLen) :
    u.sayCommit before' = u.sayCommit before := by
  have hchanges : before'.commitChanges = before.commitChanges := by
    unfold State.commitChanges
    rw [hp, hframe, hsuper]
  unfold State.sayCommit
  rw [hchanges]

/-- After a staged commit the COMMIT notice is the one that the values before it call for (R39; log 19). -/
theorem State.commitNotice_eq {u before : State} (hu : u.params = before.committedParams) :
    u.commitNotice before = u.sayCommit before := by
  have hframe : u.params.frameLen = before.tb.pendFrameLen.getD before.params.frameLen := by rw [hu]; rfl
  have hsuper : u.params.superLen = before.tb.pendSuperLen.getD before.params.superLen := by rw [hu]; rfl
  by_cases h : before.commitChanges = true
  · have hchange := of_decide_eq_true h
    rw [← hframe, ← hsuper] at hchange
    rw [State.sayCommit, if_pos h]
    exact if_neg fun ⟨h1, h2⟩ => hchange.elim (fun hne => hne h1) fun hne => hne h2
  · have hsame := of_decide_eq_false (Bool.eq_false_iff.mpr h)
    rw [← hframe, ← hsuper, not_or, not_not, not_not] at hsame
    rw [State.sayCommit, if_neg h]
    exact if_pos hsame

/-- What `saysInto` asks for: the event's own part is done in `u`, and telling it leaves the clock. -/
theorem State.saysInto_of {s t u : State} {tells : State → State} (ht : t = tells u) (hc : t.clock = u.clock)
    (hn : s.quiet → u.notices = s.notices) : s.saysInto t tells :=
  ⟨u, ht, (Timebase.state_of_counts (State.counts_of_clock hc)).symm, (State.params_of_clock hc).symm,
    (State.stamp_of_clock hc).symm, hn⟩

/-- The event tells its notices from a state that holds those of `e`, and whose clock stands after it. -/
def State.saysFrom (e t : State) (tells : State → State) : Prop :=
  ∃ u : State, t = tells u ∧ t.clock = u.clock ∧ u.notices = e.notices

/-- What an event says after the catch-up, it says in its row. -/
theorem State.saysFrom.into {s e t : State} {tells : State → State} (h : e.saysFrom t tells)
    (hn : s.quiet → e.notices = s.notices) : s.saysInto t tells := by
  obtain ⟨u, ht, hclock, hnotices⟩ := h
  exact State.saysInto_of ht hclock fun hq => hnotices.trans (hn hq)

/-- The transmitter begins a frame after the notices and leaves them. -/
theorem State.saysFrom.transmit {e t : State} {tells : State → State} (h : e.saysFrom t tells) :
    e.saysFrom t.transmit fun u => (tells u).transmit := by
  obtain ⟨u, ht, hclock, hnotices⟩ := h
  exact ⟨u, congrArg State.transmit ht, t.transmit_clock.trans hclock, hnotices⟩

/-- In a quiet state nothing is left to catch up with. -/
theorem State.quiet.catchUp {s t : State} (h : s.quiet) (hp : t.players = s.players) (hs : t.safe = s.safe) (o : Order) :
    t.catchUp o = t := by
  obtain ⟨hclear, -, hdue, howed⟩ := h
  have hplayer : ∀ p, t.player p = s.player p := fun p => by simp only [State.player, hp]
  refine State.catchUp_still o (fun p => by rw [hplayer]; exact hdue p) (fun p => by rw [hplayer]; exact howed p) ?_
  exact State.reachPlayers_clear (by rw [hs]; exact hclear)

/-! ### Superframe starts (R28, R39) -/

/-- A superframe start counted, its staged commit made, and SYNC_OUT raised where its source says so. -/
def State.superStarted (s : State) : State := (s.countFrame 0).syncOutAtFrame true

@[simp] theorem State.superStarted_counts (s : State) : s.superStarted.tb.counts = ((s.tb.framed 0).commit).counts :=
  (s.countFrame 0).syncOutAtFrame_counts true

@[simp] theorem State.superStarted_params (s : State) : s.superStarted.params = s.committedParams :=
  (s.countFrame 0).syncOutAtFrame_params true

@[simp] theorem State.superStarted_notices (s : State) : s.superStarted.notices = s.notices := by
  simp [State.superStarted]

/-- A superframe start: its own notices, COMMIT, and the hand-out. -/
theorem State.frameStart_super (s : State) (o : Order) (first : State → State) (tick sync : Bool)
    (h : (first s.superStarted).params = s.superStarted.params) :
    s.frameStart o 0 first tick sync = ((first s.superStarted).sayCommit s).handOut o
      { TbEvent.plain s.params.frameLen with tick := tick, frame := true, super := true, sync := sync } := by
  rw [← State.commitNotice_eq (h.trans s.superStarted_params)]
  rfl

/-- A frame start leaves the clock as its count and SYNC_OUT's rise leave it. -/
theorem State.frameStart_clock (s : State) (o : Order) (index : Nat) {first : State → State} (tick sync : Bool)
    (h : ∀ u, (first u).clock = u.clock) : (s.frameStart o index first tick sync).clock =
      ((s.countFrame index).syncOutAtFrame (decide (index = 0))).clock := by
  simp [State.frameStart, h]

/-! ### The begin of a run (R32) -/

/-- The counts with which a run begins: a superframe start at position 0 with the divider count 0. -/
def Timebase.begun (r : Timebase) (st : TbState) : Timebase :=
  { r with
    state := st, position := 0, index := 0, number := r.number + 1, divider := 0, pendFrameLen := none, pendSuperLen := none }

/-- The state with which a run begins, before its notices. -/
def State.runBegun (s : State) (st : TbState) : State := (s.setTbState st).clearDivider.superStarted

/-- The staged values stand apart from the state and the divider count. -/
theorem State.setTbState_clearDivider_staged (s : State) (st : TbState) :
    (s.setTbState st).clearDivider.params = s.params ∧
      (s.setTbState st).clearDivider.tb.pendFrameLen = s.tb.pendFrameLen ∧
      (s.setTbState st).clearDivider.tb.pendSuperLen = s.tb.pendSuperLen := by
  have hcounts : (s.setTbState st).tb.counts = ({ s.tb with state := st } : Timebase).counts := s.setTbState_counts st
  have hframe := Timebase.pendFrameLen_of_counts hcounts
  have hsuper := Timebase.pendSuperLen_of_counts hcounts
  exact ⟨s.setTbState_params st, hframe, hsuper⟩

theorem State.runBegun_counts (s : State) (st : TbState) : (s.runBegun st).tb.counts = (s.tb.begun st).counts :=
  (State.superStarted_counts _).trans
    (congrArg (fun r : Timebase => (({ r with divider := 0 } : Timebase).framed 0).commit) (s.setTbState_counts st))

theorem State.runBegun_params (s : State) (st : TbState) : (s.runBegun st).params = s.committedParams := by
  obtain ⟨hp, hframe, hsuper⟩ := s.setTbState_clearDivider_staged st
  rw [State.runBegun, State.superStarted_params, State.committedParams, hp, hframe, hsuper]
  rfl

theorem State.runBegun_notices (s : State) (st : TbState) : (s.runBegun st).notices = s.notices :=
  (State.superStarted_notices _).trans (s.setTbState_notices st)

/-- STARTED, COMMIT, and the hand-out of the frame start that begins the run. -/
theorem State.beginTbRun_eq (s : State) (o : Order) (st : TbState) (sync : Bool) : s.beginTbRun o st sync =
    (((s.runBegun st).produce ((s.runBegun st).tbBody .started)).sayCommit s).handOut o
      { TbEvent.plain s.params.frameLen with frame := true, super := true, sync := sync } := by
  obtain ⟨hp, hframe, hsuper⟩ := s.setTbState_clearDivider_staged st
  have hstart := State.frameStart_super (s.setTbState st).clearDivider o (fun u => u.tbNotice .started none) false sync
    (State.produce_params _ _)
  rw [hp, State.sayCommit_congr _ hp hframe hsuper] at hstart
  exact hstart

theorem State.beginTbRun_clock (s : State) (o : Order) (st : TbState) (sync : Bool) :
    (s.beginTbRun o st sync).clock = (s.runBegun st).clock := by
  simp [State.beginTbRun_eq]

/-- The state in which a start leaves the Timebase: PAUSED in GATED with SYNC_IN not at its active level (R34). -/
def State.startState (s : State) : TbState :=
  if s.params.syncMode = .gated ∧ s.syncActive s.tb.syncIn = false then .paused else .running

/-- In every mode but TRIGGERED a start makes the frame start that begins the run (R32, R34, R35). -/
theorem State.tbStartAction_begins {s : State} (o : Order) (h : s.params.syncMode ≠ .triggered) :
    s.tbStartAction o = s.beginTbRun o s.startState false := by
  unfold State.tbStartAction State.startState
  cases hmode : s.params.syncMode with
  | free => simp
  | aligned => simp
  | triggered => exact absurd hmode h
  | gated => cases hlevel : s.syncActive s.tb.syncIn <;> simp

theorem State.tbStartAction_awaits {s : State} (o : Order) (h : s.params.syncMode = .triggered) :
    s.tbStartAction o = s.setTbState .awaitSync := by
  simp only [State.tbStartAction, h]

theorem State.startState_of_clock {s t : State} (h : t.clock = s.clock) : t.startState = s.startState := by
  unfold State.startState State.syncActive
  rw [State.params_of_clock h, Timebase.syncIn_of_counts (State.counts_of_clock h)]

/-! ### A tick from either source (R25 to R27) -/

/-- The divider count after a tick: 0 after one of the internal base, untouched by TICK_IN. -/
def State.tickedDivider (s : State) : Nat := if s.params.tickSource = .internal then 0 else s.tb.divider

/-- A row that makes a tick makes it in a state with the counts before it, but for the divider count; in a quiet state nothing has
reached a player, and no notice stands before it unless the inter-byte timer expires in this microsecond. -/
theorem State.tickedBy.exec_eq {s : State} {c : Instr} {o : Order} (h : s.tickedBy c o) : ∃ d : State,
    exec c s = .next (d.tick o).transmit ∧ d.tb.counts = ({ s.tb with divider := s.tickedDivider } : Timebase).counts ∧
      d.params = s.params ∧
      (s.quiet → d.players = s.players ∧ d.safe = s.safe ∧ (s.timerExpires = false → d.notices = s.notices)) := by
  obtain ⟨hlive, hrun, ⟨rfl, hsource, hlast⟩ | ⟨rfl, hsource⟩⟩ := h
  · have hexpires : ∀ u : State, u.tb.counts = s.tb.counts → u.params = s.params → u.dividerExpires = true := fun u hr hp => by
      simp [State.dividerExpires, State.ticksFrom, State.ticking, hp, Timebase.state_of_counts hr,
        Timebase.divider_of_counts hr, hrun, hsource, hlast]
    have hbyte := s.timeByte_clock
    have hcatch := State.catchUp_clock s.timeByte.endSyncHold o
    have hcounts : (s.timeByte.endSyncHold.catchUp o).tb.counts = s.tb.counts := by
      rw [State.counts_of_clock hcatch, State.endSyncHold_counts, State.counts_of_clock hbyte]
    have hparams : (s.timeByte.endSyncHold.catchUp o).params = s.params := by
      rw [State.params_of_clock hcatch, State.endSyncHold_params, State.params_of_clock hbyte]
    refine ⟨(s.timeByte.endSyncHold.catchUp o).clearDivider, ?_, ?_, hparams, fun hq => ?_⟩
    · change Host.Outcome.next (s.live _) = _
      rw [State.live_live hlive, if_pos (hexpires s rfl rfl), State.passMicrosecond, State.divide,
        if_pos (hexpires _ hcounts hparams)]
    · rw [State.tickedDivider, if_pos hsource]
      exact congrArg (fun r : Timebase => { r with divider := 0 }) hcounts
    · have hplayers : s.timeByte.endSyncHold.players = s.players := by rw [State.endSyncHold_frame, s.timeByte_frame]
      have hsafe : s.timeByte.endSyncHold.safe = s.safe := by rw [State.endSyncHold_frame, s.timeByte_frame]
      rw [hq.catchUp hplayers hsafe]
      refine ⟨hplayers, hsafe, fun htimer => ?_⟩
      change s.timeByte.endSyncHold.notices = s.notices
      rw [State.endSyncHold_frame]
      simp [State.timeByte, htimer]
  · refine ⟨s, ?_, ?_, rfl, fun _ => ⟨rfl, rfl, fun _ => rfl⟩⟩
    · change Host.Outcome.next (s.live _) = _
      have hticks : s.ticksFrom .tickIn = true := by simp [State.ticksFrom, State.ticking, hrun, hsource]
      rw [State.live_live hlive, if_pos hticks]
    · rw [State.tickedDivider, if_neg (by rw [hsource]; nofun)]

theorem State.quiet.tickStart_notices {s d : State} (h : s.quiet) (hp : d.players = s.players) (hs : d.safe = s.safe)
    (o : Order) : (d.tickStart o).notices = d.notices := by
  rw [State.tickStart, h.catchUp hp hs]
  exact d.syncOutAtTick_notices

/-! ### An edge of SYNC_IN (R31, R33 to R35) -/

/-- The state in which a new level of SYNC_IN acts. -/
def State.syncSampled (s : State) (level : Bool) (o : Order) : State :=
  { s.catchUp o with tb := { (s.catchUp o).tb with syncIn := level } }

theorem State.syncSampled_counts (s : State) (level : Bool) (o : Order) :
    (s.syncSampled level o).tb.counts = ({ s.tb with syncIn := level } : Timebase).counts :=
  congrArg (fun r : Timebase => { r with syncIn := level }) (State.counts_of_clock (s.catchUp_clock o))

theorem State.syncSampled_params (s : State) (level : Bool) (o : Order) : (s.syncSampled level o).params = s.params :=
  show (s.catchUp o).params = s.params from State.params_of_clock (s.catchUp_clock o)

theorem State.quiet.syncSampled_notices {s : State} (h : s.quiet) (level : Bool) (o : Order) :
    (s.syncSampled level o).notices = s.notices := by
  rw [State.syncSampled, h.catchUp rfl rfl]

/-- What an edge to a new level makes of the state (R31). -/
def State.edgeActed (s : State) (level : Bool) (o : Order) : State :=
  if s.syncActive level = true then (s.syncSampled level o).activeEdge o else (s.syncSampled level o).inactiveEdge

theorem exec_syncInEdge_new {s : State} {level : Bool} (o : Order) (hlive : s.phase = .live) (hnew : level ≠ s.tb.syncIn) :
    exec (.syncInEdge level o) s = .next (s.edgeActed level o).transmit := by
  change execSyncInEdge level o s = _
  have hactive : (s.syncSampled level o).syncActive level = s.syncActive level := by
    simp only [State.syncActive, s.syncSampled_params]
  have hchange : s.syncChange level o = s.edgeActed level o := by
    unfold State.syncChange State.edgeActed
    rw [if_neg hnew, ← hactive]
    rfl
  simp only [execSyncInEdge, hlive, State.live_live hlive, hchange]

/-- The counts after a merged edge that makes its tick's frame start a superframe start (R35). -/
def Timebase.merged (r : Timebase) : Timebase :=
  { r with index := 0, divider := 0, pendFrameLen := none, pendSuperLen := none }

/-- The state after such an edge, before its notice. -/
def State.edgeMerged (s : State) : State :=
  (({ s.clearDivider with tb := { s.clearDivider.tb with index := 0 } } : State).commitStaged).raiseIf .superframe

theorem State.edgeMerged_counts (s : State) : s.edgeMerged.tb.counts = s.tb.merged.counts := State.raiseIf_counts _ _

theorem State.edgeMerged_params (s : State) : s.edgeMerged.params = s.committedParams := State.raiseIf_params _ _

theorem State.edgeMerged_notices (s : State) : s.edgeMerged.notices = s.notices := State.raiseIf_notices _ _

theorem State.mergeEdge_super {s : State} (o : Order) (h : s.tb.index ≠ 0) : s.mergeEdge o =
    (s.edgeMerged.sayCommit s).handOut o { TbEvent.plain s.params.frameLen with super := true, sync := true } := by
  rw [← State.commitNotice_eq s.edgeMerged_params]
  exact if_neg h

theorem State.mergeEdge_still {s : State} (o : Order) (h : s.tb.index = 0) :
    s.mergeEdge o = s.clearDivider.handOut o { TbEvent.plain s.params.frameLen with sync := true } :=
  if_pos h

end Sys2Proof.Machine

/-! PROOFS. TB_START, TB_STOP, ticks and SYNC_IN edges do to the Timebase what its state and SYNC_MODE give (O26, O27, O28, O30). -/

namespace Sys2Proof.Machine

/-! ### TB_START (R32 to R35) -/

theorem State.quiet.catchUp_taking_notices {s : State} (h : s.quiet) (rest : List Frame) (o : Order) :
    ((s.taking rest).catchUp o).notices = s.notices := by
  rw [h.catchUp (t := s.taking rest) rfl rfl, State.taking_notices]

theorem serveTbStart_begins {s : State} (o : Order) (q : Frame) (hstop : s.tb.state = .stopped)
    (hmode : s.params.syncMode ≠ .triggered) : serveTbStart o q s =
      ((s.catchUp o).beginTbRun o s.startState false,
        Reply.of .ok ((s.catchUp o).beginTbRun o s.startState false).tbReport) := by
  have hcatch := s.catchUp_clock o
  have hbegin : (s.catchUp o).tbStartAction o = (s.catchUp o).beginTbRun o s.startState false := by
    rw [State.tbStartAction_begins o (by rw [State.params_of_clock hcatch]; exact hmode), State.startState_of_clock hcatch]
  have hstate : ((s.catchUp o).beginTbRun o s.startState false).tb.state = s.startState :=
    (Timebase.state_of_counts (State.counts_of_clock (State.beginTbRun_clock _ o _ false))).trans
      (Timebase.state_of_counts (State.runBegun_counts _ _))
  simp only [serveTbStart, hstop, hbegin]
  split
  case h_1 hawait =>
    rw [hstate, State.startState] at hawait
    split at hawait <;> cases hawait
  all_goals rfl

theorem serveTbStart_awaits {s : State} (o : Order) (q : Frame) (hstop : s.tb.state = .stopped)
    (hmode : s.params.syncMode = .triggered) : serveTbStart o q s =
      ((s.catchUp o).setTbState .awaitSync, Reply.of .pending (1 :: stampBytes s.stamp)) := by
  have hcatch := s.catchUp_clock o
  have hawait : (s.catchUp o).tbStartAction o = (s.catchUp o).setTbState .awaitSync :=
    State.tbStartAction_awaits o (by rw [State.params_of_clock hcatch]; exact hmode)
  obtain ⟨-, hposition, -, hnumber, -⟩ := Timebase.fields_of_counts (r := { (s.catchUp o).tb with state := .awaitSync })
    ((s.catchUp o).setTbState_counts .awaitSync)
  have hstamp : ((s.catchUp o).setTbState .awaitSync).stamp = s.stamp := by
    rw [← State.stamp_of_clock hcatch, State.stamp, hposition, hnumber]
    rfl
  simp only [serveTbStart, hstop, hawait, State.setTbState_state, hstamp]
  rfl

theorem serveTbStart_already {s : State} (o : Order) (q : Frame) (h : s.tb.state ≠ .stopped) :
    serveTbStart o q s = (s, Reply.of .already s.tbReport) := by
  unfold serveTbStart
  split
  case h_1 hstop => exact absurd hstop h
  all_goals rfl

/-- A Timebase that does not leave RUNNING keeps SYNC_OUT as it takes AWAIT_SYNC. -/
theorem State.setTbState_awaitSync {s : State} (h : s.tb.state ≠ .running) :
    s.setTbState .awaitSync = { s with tb := { s.tb with state := .awaitSync } } := by
  simp [State.setTbState, h]

/-- What a run's begin leaves: the counts of its frame start, the committed values, and its notices before the hand-out. -/
theorem State.beginTbRun_effect (e : State) (o : Order) (st : TbState) (sync : Bool) :
    (e.beginTbRun o st sync).tb.counts = (e.tb.begun st).counts ∧
      (e.beginTbRun o st sync).params = e.committedParams ∧
      e.saysFrom (e.beginTbRun o st sync) fun u => ((u.produce (u.tbBody .started)).sayCommit e).handOut o
        { TbEvent.plain e.params.frameLen with frame := true, super := true, sync := sync } := by
  have hclock := e.beginTbRun_clock o st sync
  exact ⟨(State.counts_of_clock hclock).trans (e.runBegun_counts st),
    (State.params_of_clock hclock).trans (e.runBegun_params st), ⟨_, e.beginTbRun_eq o st sync, hclock, e.runBegun_notices st⟩⟩

/-- What is committed and said of it depends on the values in force and the pending ones alone. -/
theorem State.committedParams_congr {s e : State} (hp : e.params = s.params) (hframe : e.tb.pendFrameLen = s.tb.pendFrameLen)
    (hsuper : e.tb.pendSuperLen = s.tb.pendSuperLen) : e.committedParams = s.committedParams := by
  rw [State.committedParams, State.committedParams, hp, hframe, hsuper]

/-- Settles O26: the frame start that begins the run takes the counts of `Timebase.begun`; TRIGGERED waits with its counts. -/
theorem tbStartStartsInItsMode : Obligations.TbStartStartsInItsMode := by
  intro s q rest o h
  have hcatch : ((s.taking rest).catchUp o).clock = s.clock := (s.taking rest).catchUp_clock o
  have hcounts := State.counts_of_clock hcatch
  have hparams := State.params_of_clock hcatch
  have hnotices : s.quiet → ((s.taking rest).catchUp o).notices = s.notices := fun hq =>
    hq.catchUp_taking_notices rest o
  refine ⟨fun hstop hmode => ?_, fun hstop hmode => ⟨?_, fun hdue howed hclear => ?_⟩, fun hrun => ?_⟩
  · have hpendFrame := Timebase.pendFrameLen_of_counts hcounts
    have hpendSuper := Timebase.pendSuperLen_of_counts hcounts
    obtain ⟨hbegun, hp, hsays⟩ := ((s.taking rest).catchUp o).beginTbRun_effect o s.startState false
    rw [State.committedParams_congr hparams hpendFrame hpendSuper] at hp
    simp only [State.sayCommit_congr _ hparams hpendFrame hpendSuper, hparams] at hsays
    have hcount : (((s.taking rest).catchUp o).beginTbRun o s.startState false).tb.counts = (s.tb.begun s.startState).counts :=
      hbegun.trans (congrArg (fun r : Timebase => r.begun s.startState) hcounts)
    have hfixed := (((s.taking rest).catchUp o).beginTbRun_fixed o s.startState false).trans ((s.taking rest).catchUp_fixed o)
    obtain ⟨hstate, hposition, hindex, hnumber, hframe, hsuper, hdivider, -⟩ := Timebase.fields_of_counts hcount
    refine ⟨((s.taking rest).catchUp o).beginTbRun o s.startState false, ?_, hstate, hposition, hindex, hdivider, hnumber, hp,
      hframe, hsuper, congrArg (fun f => f.link.replies) hfixed, hsays.into hnotices⟩
    have hreport : (((s.taking rest).catchUp o).beginTbRun o s.startState false).params.syncMode = s.params.syncMode := by
      rw [hp]; rfl
    rw [← hreport]
    exact State.take_answered h rfl rfl (serveTbStart_begins (s := s.taking rest) o q hstop hmode)
  · have hcount : (((s.taking rest).catchUp o).setTbState .awaitSync).tb.counts =
        ({ s.tb with state := .awaitSync } : Timebase).counts :=
      (State.setTbState_counts _ _).trans (congrArg (fun r : Timebase => { r with state := .awaitSync }) hcounts)
    obtain ⟨hstate, hposition, hindex, hnumber, -, -, hdivider, -⟩ := Timebase.fields_of_counts hcount
    exact ⟨_, State.take_answered h rfl rfl (serveTbStart_awaits (s := s.taking rest) o q hstop hmode), hstate, hposition,
      hindex, hdivider, hnumber, (State.setTbState_params _ _).trans hparams⟩
  · have hserve := serveTbStart_awaits (s := s.taking rest) o q hstop hmode
    rw [State.catchUp_still (s := s.taking rest) o hdue howed (State.reachPlayers_clear hclear),
      State.setTbState_awaitSync (s := s.taking rest) (by rw [State.taking_tb, hstop]; nofun)] at hserve
    exact State.take_answered h rfl rfl hserve
  · exact State.take_answered h rfl rfl (serveTbStart_already (s := s.taking rest) o q hrun)

/-! ### TB_STOP (R36) -/

theorem serveTbStop_stops {s : State} (o : Order) (q : Frame) (h : s.tb.state ≠ .stopped) : serveTbStop o q s =
    ((s.catchUp o).tbStopAction, Reply.of .ok (s.tb.state.code :: stampBytes s.stamp)) := by
  unfold serveTbStop
  split
  case h_1 hstop => exact absurd hstop h
  all_goals
    rename_i hstate
    rw [hstate]

/-- The state that a stop leaves before its notice. -/
def State.tbStopped (s : State) : State :=
  let s1 := s.setTbState .stopped
  let s2 := { s1 with tb := { s1.tb with position := 0, index := 0, divider := 0 } }
  match s.params.syncOutSrc with
  | .note _ => s2
  | .off | .frame | .superframe | .running => s2.lowerSyncOut

theorem State.tbStopAction_eq (s : State) : s.tbStopAction = s.tbStopped.tbNotice .stopped (some s.stamp) := by
  unfold State.tbStopAction State.tbStopped
  cases hsource : s.params.syncOutSrc <;> rfl

theorem State.tbStopped_notices (s : State) : s.tbStopped.notices = s.notices := by
  have hnotices := s.setTbState_notices .stopped
  unfold State.tbStopped
  simp only
  split <;> exact hnotices

/-- Settles O27: the stop keeps the clock but for state, position, index and divider count, and its notice comes last. -/
theorem tbStopStopsAndKeepsTheNumber : Obligations.TbStopStopsAndKeepsTheNumber := by
  intro s q rest o h
  refine ⟨fun hrun => ?_, fun hstop => ?_⟩
  · have hcatch : ((s.taking rest).catchUp o).clock = s.clock := (s.taking rest).catchUp_clock o
    have hcount : ((s.taking rest).catchUp o).tbStopAction.tb.counts =
        ({ s.tb with state := .stopped, position := 0, index := 0, divider := 0 } : Timebase).counts :=
      (State.tbStopAction_counts _).trans (congrArg
        (fun r : Timebase => { r with state := .stopped, position := 0, index := 0, divider := 0 })
        (State.counts_of_clock hcatch))
    have hparams : ((s.taking rest).catchUp o).tbStopAction.params = s.params :=
      (State.tbStopAction_params _).trans (State.params_of_clock hcatch)
    have hstopped : ((s.taking rest).catchUp o).tbStopAction.clock = ((s.taking rest).catchUp o).tbStopped.clock := by
      rw [State.tbStopAction_eq, State.tbNotice_clock]
    have hstate : ((s.taking rest).catchUp o).tbStopped.tb.state = .stopped :=
      Timebase.state_of_counts (r := { s.tb with state := .stopped, position := 0, index := 0, divider := 0 })
        ((State.counts_of_clock hstopped).symm.trans hcount)
    obtain ⟨hstate', hposition, hindex, hnumber, hframe, hsuper, hdivider, hsyncIn⟩ := Timebase.fields_of_counts hcount
    refine ⟨_, State.take_answered h rfl rfl (serveTbStop_stops (s := s.taking rest) o q hrun), hstate', hposition, hindex,
      hdivider, hnumber, hframe, hsuper, hsyncIn, hparams,
      State.saysInto_of (u := ((s.taking rest).catchUp o).tbStopped) ?_ hstopped fun hq => ?_⟩
    · rw [State.tbStopAction_eq, State.tbNotice, hstate, ← State.params_of_clock hstopped, hparams,
        State.stamp_of_clock hcatch]
    · rw [State.tbStopped_notices, hq.catchUp_taking_notices]
  · have hserve : serveTbStop o q (s.taking rest) =
        (s.taking rest, Reply.of .already (TbState.stopped.code :: stampBytes s.stamp)) := by
      simp only [serveTbStop, State.taking_tb, hstop]
      rfl
    exact State.take_answered h rfl rfl hserve

/-! ### Ticks (R25 to R28, R39) -/

/-- A row whose source is not the one selected, or whose Timebase does not run, takes no tick (log 2). -/
theorem State.ticksFrom_false {s : State} {source : TickSource} (h : s.tb.state ≠ .running ∨ s.params.tickSource ≠ source) :
    s.ticksFrom source = false := by
  rcases h with h | h <;> simp [State.ticksFrom, State.ticking, h]

/-- Settles O28: the tick counts in the state of `State.tickedBy.exec_eq`, and the players leave the clock. -/
theorem tickAdvancesPositionOrStartsAFrame : Obligations.TickAdvancesPositionOrStartsAFrame := by
  intro s c o hlive
  refine ⟨fun h => ?_, fun hnone => ?_, fun hnone => ?_⟩
  · have hrun : s.tb.state = .running := by obtain ⟨-, hrun, -⟩ := h; exact hrun
    obtain ⟨d, hexec, hd, hp, hquiet⟩ := h.exec_eq
    obtain ⟨-, (hposition : d.tb.position = s.tb.position), (hindex : d.tb.index = s.tb.index), -⟩ :=
      Timebase.fields_of_counts hd
    have hstart : (d.tickStart o).tb.counts = ({ s.tb with divider := s.tickedDivider } : Timebase).counts :=
      (d.tickStart_counts o).trans hd
    have hstartParams : (d.tickStart o).params = s.params := (d.tickStart_params o).trans hp
    rcases Nat.lt_or_ge (s.tb.position + 1) s.params.frameLen with hlt | hge
    · have htick := State.tick_advances (s := d) o (by rw [hposition, hp]; exact hlt)
      have hclock : (d.tick o).transmit.clock = (d.tickStart o).advance.clock := by rw [htick]; simp
      have hcount : (d.tick o).transmit.tb.counts =
          ({ s.tb with position := s.tb.position + 1, divider := s.tickedDivider } : Timebase).counts :=
        (State.counts_of_clock hclock).trans (congrArg (fun r : Timebase => { r with position := r.position + 1 }) hstart)
      obtain ⟨hstate', hposition', hindex', hnumber', hframe', hsuper', hdivider', -⟩ := Timebase.fields_of_counts hcount
      exact ⟨_, hexec, hstate'.trans hrun, hdivider', fun _ => ⟨hposition', hnumber', hindex',
        (State.params_of_clock hclock).trans hstartParams, hframe', hsuper'⟩, fun hge => absurd hlt (Nat.not_lt.mpr hge)⟩
    · have htick := State.tick_starts_frame (s := d) o (by rw [hposition, hp]; exact hge)
      rw [hindex, hp] at htick
      by_cases hsuper : (s.tb.index + 1) % s.params.superLen = 0
      · rw [hsuper, State.frameStart_super _ o id true false rfl] at htick
        have hclock : (d.tick o).transmit.clock = (d.tickStart o).superStarted.clock := by rw [htick]; simp
        have hcount : (d.tick o).transmit.tb.counts =
            ((({ s.tb with divider := s.tickedDivider } : Timebase).framed 0).commit).counts :=
          ((State.counts_of_clock hclock).trans (State.superStarted_counts _)).trans
            (congrArg (fun r : Timebase => (r.framed 0).commit) hstart)
        obtain ⟨-, -, -, -, hpendFrame, hpendSuper, -, -⟩ := Timebase.fields_of_counts hstart
        have hparams : (d.tick o).transmit.params = s.committedParams := by
          rw [State.params_of_clock hclock, State.superStarted_params, State.committedParams, hstartParams, hpendFrame, hpendSuper]
          rfl
        obtain ⟨hstate', hposition', hindex', hnumber', hframe', hsuper', hdivider', -⟩ := Timebase.fields_of_counts hcount
        refine ⟨_, hexec, hstate'.trans hrun, hdivider', fun hlt => absurd hlt (Nat.not_lt.mpr hge),
          fun _ => ⟨hposition', hnumber', hindex'.trans hsuper.symm, fun _ => ⟨?_, ?_, hframe', hsuper', fun htimer => ?_⟩,
            fun hne => absurd hsuper hne⟩⟩
        · rw [hparams]; rfl
        · rw [hparams]; rfl
        · refine State.saysInto_of (u := (d.tickStart o).superStarted) ?_ hclock fun hq => ?_
          · rw [htick, State.sayCommit_congr _ hstartParams hpendFrame hpendSuper, hstartParams]
            rfl
          · obtain ⟨hplayers, hsafe, hnotices⟩ := hquiet hq
            rw [State.superStarted_notices, hq.tickStart_notices hplayers hsafe, hnotices htimer]
      · have hclock : (d.tick o).transmit.clock =
            (((d.tickStart o).countFrame ((s.tb.index + 1) % s.params.superLen)).syncOutAtFrame false).clock := by
          rw [State.transmit_clock, htick, State.frameStart_clock (first := id) _ o _ true false fun _ => rfl, decide_eq_false hsuper]
        rw [State.countFrame_frame_start _ hsuper] at hclock
        have hcount : (d.tick o).transmit.tb.counts = (({ s.tb with divider := s.tickedDivider } : Timebase).framed
            ((s.tb.index + 1) % s.params.superLen)).counts :=
          ((State.counts_of_clock hclock).trans (State.syncOutAtFrame_counts _ _)).trans
            (congrArg (fun r : Timebase => r.framed ((s.tb.index + 1) % s.params.superLen)) hstart)
        obtain ⟨hstate', hposition', hindex', hnumber', hframe', hsuper', hdivider', -⟩ := Timebase.fields_of_counts hcount
        exact ⟨_, hexec, hstate'.trans hrun, hdivider', fun hlt => absurd hlt (Nat.not_lt.mpr hge),
          fun _ => ⟨hposition', hnumber', hindex', fun hzero => absurd hzero hsuper,
            fun _ => ⟨((State.params_of_clock hclock).trans (State.syncOutAtFrame_params _ _)).trans hstartParams, hframe',
              hsuper'⟩⟩⟩
  · have hexpires : s.dividerExpires = false := by
      unfold State.dividerExpires
      rcases hnone with hstate | hsource | hearly
      · rw [State.ticksFrom_false (.inl hstate), Bool.false_and]
      · rw [State.ticksFrom_false (.inr hsource), Bool.false_and]
      · rw [decide_eq_false (Nat.not_le.mpr hearly), Bool.and_false]
    change Host.Outcome.next (s.live _) = _
    rw [State.live_live hlive, hexpires]
    rfl
  · change Host.Outcome.next (s.live _) = _
    rw [State.live_live hlive, State.ticksFrom_false hnone]
    rfl

end Sys2Proof.Machine

/-! PROOFS. An edge of SYNC_IN acts as the Timebase's state and SYNC_MODE give (O30). -/

namespace Sys2Proof.Machine

/-! ### The cases of an edge (R31, R33 to R35) -/

theorem State.activeEdge_triggered {s : State} (o : Order) (hstate : s.tb.state = .awaitSync)
    (hmode : s.params.syncMode = .triggered) : s.activeEdge o = s.beginTbRun o .running true := by
  simp only [State.activeEdge, hstate, hmode]

theorem State.activeEdge_merged {s : State} (o : Order) (hstate : s.tb.state = .running)
    (hmode : s.params.syncMode = .aligned) (hposition : s.tb.position = 0) : s.activeEdge o = s.mergeEdge o := by
  simp only [State.activeEdge, hstate, hmode, if_pos hposition]

theorem State.activeEdge_forced {s : State} (o : Order) (hstate : s.tb.state = .running)
    (hmode : s.params.syncMode = .aligned) (hposition : s.tb.position ≠ 0) :
    s.activeEdge o = s.clearDivider.frameStart o 0 id false true := by
  simp only [State.activeEdge, hstate, hmode, if_neg hposition]

theorem State.activeEdge_resumes {s : State} (o : Order) (hstate : s.tb.state = .paused)
    (hmode : s.params.syncMode = .gated) : s.activeEdge o =
      ((s.setTbState .running).tbNotice .unpaused none).handOut o
        { TbEvent.plain s.params.frameLen with sync := true, unpause := true } := by
  simp only [State.activeEdge, hstate, hmode]

theorem State.activeEdge_other {s : State} (o : Order) (htriggered : ¬(s.tb.state = .awaitSync ∧ s.params.syncMode = .triggered))
    (haligned : ¬(s.tb.state = .running ∧ s.params.syncMode = .aligned))
    (hgated : ¬(s.tb.state = .paused ∧ s.params.syncMode = .gated)) :
    s.activeEdge o = s.handOut o { TbEvent.plain s.params.frameLen with sync := true } := by
  unfold State.activeEdge
  split
  case h_1 hstate hmode => exact absurd ⟨hstate, hmode⟩ htriggered
  case h_2 hstate hmode => exact absurd ⟨hstate, hmode⟩ haligned
  case h_3 hstate hmode => exact absurd ⟨hstate, hmode⟩ hgated
  case h_4 => rfl

theorem State.inactiveEdge_pauses {s : State} (hstate : s.tb.state = .running) (hmode : s.params.syncMode = .gated) :
    s.inactiveEdge = (s.setTbState .paused).tbNotice .paused none := by
  simp only [State.inactiveEdge, hstate, hmode]

theorem State.inactiveEdge_other {s : State} (h : ¬(s.tb.state = .running ∧ s.params.syncMode = .gated)) :
    s.inactiveEdge = s := by
  unfold State.inactiveEdge
  split
  case h_1 hstate hmode => exact absurd ⟨hstate, hmode⟩ h
  case h_2 => rfl

/-! ### What stands after an edge -/

/-- The frame start that an edge forces: its counts, the committed values, and its notices before the hand-out. -/
theorem State.forcedFrame_effect (e : State) (o : Order) :
    let t := e.clearDivider.frameStart o 0 id false true
    t.tb.counts = ((({ e.tb with divider := 0 } : Timebase).framed 0).commit).counts ∧ t.params = e.committedParams ∧
      e.saysFrom t fun u => (u.sayCommit e).handOut o
        { TbEvent.plain e.params.frameLen with frame := true, super := true, sync := true } := by
  intro t
  have ht : t = (e.clearDivider.superStarted.sayCommit e).handOut o
      { TbEvent.plain e.params.frameLen with frame := true, super := true, sync := true } :=
    State.frameStart_super e.clearDivider o id false true rfl
  have hclock : t.clock = e.clearDivider.superStarted.clock := by simp [ht]
  exact ⟨(State.counts_of_clock hclock).trans (State.superStarted_counts _),
    (State.params_of_clock hclock).trans (State.superStarted_params _),
    ⟨_, ht, hclock, State.superStarted_notices _⟩⟩

/-- An edge merged into a frame start of an index other than 0. -/
theorem State.mergeEdge_super_effect {e : State} (o : Order) (h : e.tb.index ≠ 0) :
    (e.mergeEdge o).tb.counts = e.tb.merged.counts ∧ (e.mergeEdge o).params = e.committedParams ∧
      e.saysFrom (e.mergeEdge o) fun u => (u.sayCommit e).handOut o
        { TbEvent.plain e.params.frameLen with super := true, sync := true } := by
  have hmerge := State.mergeEdge_super o h
  have hclock : (e.mergeEdge o).clock = e.edgeMerged.clock := by simp [hmerge]
  exact ⟨(State.counts_of_clock hclock).trans e.edgeMerged_counts, (State.params_of_clock hclock).trans e.edgeMerged_params,
    ⟨_, hmerge, hclock, e.edgeMerged_notices⟩⟩

/-- An edge merged into a superframe start. -/
theorem State.mergeEdge_still_effect {e : State} (o : Order) (h : e.tb.index = 0) :
    (e.mergeEdge o).tb.counts = ({ e.tb with divider := 0 } : Timebase).counts ∧ (e.mergeEdge o).params = e.params ∧
      e.saysFrom (e.mergeEdge o) fun u => u.handOut o { TbEvent.plain e.params.frameLen with sync := true } := by
  have hmerge := State.mergeEdge_still o h
  have hclock : (e.mergeEdge o).clock = e.clearDivider.clock := by simp [hmerge]
  exact ⟨State.counts_of_clock hclock, show (e.mergeEdge o).params = e.clearDivider.params from State.params_of_clock hclock,
    ⟨_, hmerge, hclock, rfl⟩⟩

/-- The Timebase takes a state, and its notice names that state, the mode and the lengths. -/
theorem State.restated_effect (e : State) (st : TbState) (event : TbEventKind) :
    let t := (e.setTbState st).tbNotice event none
    t.tb.counts = ({ e.tb with state := st } : Timebase).counts ∧ t.params = e.params ∧
      e.saysFrom t fun u => u.produce (u.tbBody event) := by
  intro t
  have hclock : t.clock = (e.setTbState st).clock := by simp [t]
  exact ⟨(State.counts_of_clock hclock).trans (e.setTbState_counts st),
    (State.params_of_clock hclock).trans (e.setTbState_params st),
    ⟨_, rfl, hclock, e.setTbState_notices st⟩⟩

/-- A resume in GATED: the Timebase takes RUNNING, and its notice stands before the hand-out. -/
theorem State.resumed_effect (e : State) (o : Order) :
    let ev := { TbEvent.plain e.params.frameLen with sync := true, unpause := true }
    let t := ((e.setTbState .running).tbNotice .unpaused none).handOut o ev
    t.tb.counts = ({ e.tb with state := .running } : Timebase).counts ∧ t.params = e.params ∧
      e.saysFrom t fun u => (u.produce (u.tbBody .unpaused)).handOut o ev := by
  intro ev t
  have hclock : t.clock = (e.setTbState .running).clock := by simp [t]
  exact ⟨(State.counts_of_clock hclock).trans (e.setTbState_counts .running),
    (State.params_of_clock hclock).trans (e.setTbState_params .running), ⟨_, rfl, hclock, e.setTbState_notices .running⟩⟩

/-- Any other active edge is handed out and moves no count. -/
theorem State.handedOut_effect (e : State) (o : Order) :
    let ev := { TbEvent.plain e.params.frameLen with sync := true }
    (e.handOut o ev).tb.counts = e.tb.counts ∧ (e.handOut o ev).params = e.params ∧
      e.saysFrom (e.handOut o ev) fun u => u.handOut o ev := by
  intro ev
  have hclock := e.handOut_clock o ev
  exact ⟨State.counts_of_clock hclock, State.params_of_clock hclock, ⟨e, rfl, hclock, rfl⟩⟩

/-- Settles O30: each case of the edge acts on the counts with the new level recorded, after what was due and owed. -/
theorem syncInEdgeActsAsStateAndModeGive : Obligations.SyncInEdgeActsAsStateAndModeGive := by
  intro s level o
  refine ⟨fun hlive hsame => ?_, fun hlive => ?_, fun hlive hnew => ⟨_, exec_syncInEdge_new o hlive hnew, ?_⟩⟩
  · change execSyncInEdge level o s = _
    simp only [execSyncInEdge, hlive, State.live_live hlive, State.syncChange, if_pos hsame]
  · change execSyncInEdge level o s = _
    cases hphase : s.phase with
    | live => exact absurd hphase hlive
    | off => simp only [execSyncInEdge, hphase]
    | held => simp only [execSyncInEdge, hphase]
  · obtain ⟨e, he⟩ : ∃ e, e = s.syncSampled level o := ⟨_, rfl⟩
    have hcounts : e.tb.counts = ({ s.tb with syncIn := level } : Timebase).counts := he ▸ s.syncSampled_counts level o
    have hparams : e.params = s.params := he ▸ s.syncSampled_params level o
    have hn : s.quiet → e.notices = s.notices := fun hq => he ▸ hq.syncSampled_notices level o
    obtain ⟨(hstate : e.tb.state = s.tb.state), (hposition : e.tb.position = s.tb.position),
      (hindex : e.tb.index = s.tb.index), (hnumber : e.tb.number = s.tb.number),
      (hframe : e.tb.pendFrameLen = s.tb.pendFrameLen), (hsuper : e.tb.pendSuperLen = s.tb.pendSuperLen),
      (hdivider : e.tb.divider = s.tb.divider), hlevel⟩ := Timebase.fields_of_counts hcounts
    have hcommitted : e.committedParams = s.committedParams := State.committedParams_congr hparams hframe hsuper
    have hcommit : ∀ u : State, u.sayCommit e = u.sayCommit s := fun u => State.sayCommit_congr u hparams hframe hsuper
    rw [State.edgeActed, ← he]
    simp only [State.transmit_tb, State.transmit_params]
    cases hactive : s.syncActive level
    · simp only [Bool.false_eq_true, if_false, false_and, and_false, true_and]
      by_cases hgated : s.params.syncMode = .gated ∧ s.tb.state = .running
      · obtain ⟨hmode, hrun⟩ := hgated
        rw [if_pos ⟨hmode, hrun⟩, State.inactiveEdge_pauses (hstate.trans hrun) (hparams ▸ hmode)]
        obtain ⟨hcount, hp, hsays⟩ := e.restated_effect .paused .paused
        obtain ⟨hstate', hposition', hindex', hnumber', hframe', hsuper', hdivider', hlevel'⟩ := Timebase.fields_of_counts hcount
        exact ⟨hlevel'.trans hlevel, hposition'.trans hposition, hindex'.trans hindex, hdivider'.trans hdivider,
          hnumber'.trans hnumber, ⟨hp.trans hparams, hframe'.trans hframe, hsuper'.trans hsuper⟩, hstate',
          hsays.transmit.into hn⟩
      · rw [if_neg hgated, State.inactiveEdge_other (by rw [hstate, hparams]; exact fun ⟨hrun, hmode⟩ => hgated ⟨hmode, hrun⟩)]
        exact ⟨hlevel, hposition, hindex, hdivider, hnumber, ⟨hparams, hframe, hsuper⟩, hstate,
          State.saysFrom.into (State.saysFrom.transmit ⟨e, rfl, rfl, rfl⟩) hn⟩
    · simp only [if_true, true_and, Bool.true_eq_false, false_and, and_false, if_false]
      by_cases htriggered : s.tb.state = .awaitSync ∧ s.params.syncMode = .triggered
      · obtain ⟨hawait, hmode⟩ := htriggered
        rw [if_pos ⟨hawait, hmode⟩, State.activeEdge_triggered o (hstate.trans hawait) (hparams ▸ hmode)]
        obtain ⟨hcount, hp, hsays⟩ := e.beginTbRun_effect o .running true
        obtain ⟨hstate', hposition', hindex', hnumber', hframe', hsuper', hdivider', hlevel'⟩ := Timebase.fields_of_counts hcount
        simp only [hcommit, hparams] at hsays
        exact ⟨hlevel'.trans hlevel, hstate', hposition', hindex', hdivider', hnumber'.trans (congrArg (· + 1) hnumber),
          ⟨hp.trans hcommitted, hframe', hsuper'⟩,
          hsays.transmit.into hn⟩
      rw [if_neg htriggered]
      by_cases haligned : s.tb.state = .running ∧ s.params.syncMode = .aligned
      · obtain ⟨hrun, hmode⟩ := haligned
        rw [if_pos ⟨hrun, hmode⟩]
        by_cases hzero : s.tb.position = 0
        · rw [if_pos hzero, State.activeEdge_merged o (hstate.trans hrun) (hparams ▸ hmode) (hposition.trans hzero)]
          by_cases hfirst : s.tb.index = 0
          · rw [if_pos hfirst]
            obtain ⟨hcount, hp, hsays⟩ := State.mergeEdge_still_effect o (hindex.trans hfirst)
            obtain ⟨hstate', hposition', hindex', hnumber', hframe', hsuper', hdivider', hlevel'⟩ := Timebase.fields_of_counts hcount
            simp only [hparams] at hsays
            exact ⟨hlevel'.trans hlevel, hstate'.trans (hstate.trans hrun), hposition'.trans (hposition.trans hzero),
              hindex'.trans (hindex.trans hfirst), hdivider', hnumber'.trans hnumber,
              ⟨hp.trans hparams, hframe'.trans hframe, hsuper'.trans hsuper⟩, hsays.transmit.into hn⟩
          · rw [if_neg hfirst]
            obtain ⟨hcount, hp, hsays⟩ := State.mergeEdge_super_effect (e := e) o (by rw [hindex]; exact hfirst)
            obtain ⟨hstate', hposition', hindex', hnumber', hframe', hsuper', hdivider', hlevel'⟩ := Timebase.fields_of_counts hcount
            simp only [hcommit, hparams] at hsays
            exact ⟨hlevel'.trans hlevel, hstate'.trans (hstate.trans hrun), hposition'.trans (hposition.trans hzero),
              hindex', hdivider', hnumber'.trans hnumber, ⟨hp.trans hcommitted, hframe', hsuper'⟩, hsays.transmit.into hn⟩
        · rw [if_neg hzero, State.activeEdge_forced o (hstate.trans hrun) (hparams ▸ hmode) (by rw [hposition]; exact hzero)]
          obtain ⟨hcount, hp, hsays⟩ := e.forcedFrame_effect o
          obtain ⟨hstate', hposition', hindex', hnumber', hframe', hsuper', hdivider', hlevel'⟩ := Timebase.fields_of_counts hcount
          simp only [hcommit, hparams] at hsays
          exact ⟨hlevel'.trans hlevel, hstate'.trans (hstate.trans hrun), hposition', hindex', hdivider',
            hnumber'.trans (congrArg (· + 1) hnumber),
            ⟨hp.trans hcommitted, hframe', hsuper'⟩, hsays.transmit.into hn⟩
      rw [if_neg haligned]
      by_cases hgated : s.params.syncMode = .gated ∧ s.tb.state = .paused
      · obtain ⟨hmode, hpaused⟩ := hgated
        rw [if_pos ⟨hmode, hpaused⟩, State.activeEdge_resumes o (hstate.trans hpaused) (hparams ▸ hmode)]
        obtain ⟨hcount, hp, hsays⟩ := e.resumed_effect o
        simp only [hparams] at hcount hp hsays ⊢
        obtain ⟨hstate', hposition', hindex', hnumber', hframe', hsuper', hdivider', hlevel'⟩ := Timebase.fields_of_counts hcount
        exact ⟨hlevel'.trans hlevel, hposition'.trans hposition, hindex'.trans hindex, hdivider'.trans hdivider,
          hnumber'.trans hnumber, ⟨hp, hframe'.trans hframe, hsuper'.trans hsuper⟩, hstate',
          hsays.transmit.into hn⟩
      · rw [if_neg hgated, State.activeEdge_other o (by rw [hstate, hparams]; exact htriggered)
          (by rw [hstate, hparams]; exact haligned)
          (by rw [hstate, hparams]; exact fun ⟨hpaused, hmode⟩ => hgated ⟨hmode, hpaused⟩)]
        obtain ⟨hcount, hp, hsays⟩ := e.handedOut_effect o
        simp only [hparams] at hcount hp hsays ⊢
        obtain ⟨hstate', hposition', hindex', hnumber', hframe', hsuper', hdivider', hlevel'⟩ := Timebase.fields_of_counts hcount
        exact ⟨hlevel'.trans hlevel, hposition'.trans hposition, hindex'.trans hindex, hdivider'.trans hdivider,
          hnumber'.trans hnumber, ⟨hp, hframe'.trans hframe, hsuper'.trans hsuper⟩, hstate'.trans hstate,
          hsays.transmit.into hn⟩

end Sys2Proof.Machine

/-! PROOFS. A phase end ends the player's step, and the step after it begins (R47, R49, R64). -/

namespace Sys2Proof.Machine

/-! ### A player's record stands apart from notices and SYNC_OUT -/

theorem State.setPlayer_produce (s : State) (p : PlayerId) (r : Player) (body : NoticeBody) :
    (s.setPlayer p r).produce body = (s.produce body).setPlayer p r := by
  have hroom : (s.setPlayer p r).noticeRoom body = s.noticeRoom body := rfl
  have hadmits : (s.setPlayer p r).admits body = s.admits body := rfl
  unfold State.produce
  rw [hroom, hadmits, State.setPlayer_notices]
  cases s.admits body with
  | false => rfl
  | true =>
    by_cases hroom : s.notices.queue.length < s.noticeRoom body
    · simp only [if_true, if_pos hroom]; rfl
    · have hstamp : (s.setPlayer p r).stamp = s.stamp := rfl
      simp only [if_true, if_neg hroom, hstamp]
      cases mergeNewest body s.stamp s.notices.queue <;> rfl

theorem State.setPlayer_raiseIf (s : State) (p : PlayerId) (r : Player) (src : SyncOutSrc) :
    (s.setPlayer p r).raiseIf src = (s.raiseIf src).setPlayer p r := by
  unfold State.raiseIf
  rw [State.setPlayer_params]
  split <;> rfl

theorem State.setPlayer_writeLines (s : State) (p : PlayerId) (r : Player) (lines levels : LineSet) :
    (s.setPlayer p r).writeLines lines levels = (s.writeLines lines levels).setPlayer p r := rfl

theorem State.setPlayer_rest (s : State) (p : PlayerId) (r : Player) (activity : Activity) (remaining : Nat) :
    (s.setPlayer p r).rest p activity remaining =
      s.setPlayer p { r with activity := activity, remaining := remaining, deferred := false, due := false } := by
  rw [State.rest, State.setPlayer_setPlayer, State.setPlayer_player_same]

/-! ### The row of a phase end (R49, R51, R52, R55) -/

/-- In CLEAR a row of a phase end is the phase end of its own player alone. -/
theorem State.phaseRow_clear {s : State} {p : PlayerId} (o : Order) {activity : Activity} {ofRow : StepAction → Bool}
    (hlive : s.phase = .live) (hdue : s.dueOn p activity ofRow = true) (hclear : (s.phaseEnd p).safe.state = .clear) :
    s.phaseRow p o activity ofRow = (s.phaseEnd p).transmit := by
  have hsafe : (s.phaseEnd p).safeClear = true := (State.safeClear_iff _).mpr hclear
  have hlater : ∀ a ∈ laterPlayers o p, ∃ p', p' ≠ p ∧ a = .player p' := by
    intro a ha
    obtain ⟨p', hmem, rfl⟩ := List.mem_map.mp ha
    exact ⟨p', by simpa using (Bool.and_eq_true_iff.mp (List.mem_filter.mp hmem).2).2, rfl⟩
  rw [State.phaseRow, State.live_live hlive, if_pos hdue, runActors]
  simp only [true_or, if_true, State.reachPlayers_clear hclear]
  refine congrArg State.transmit (runActors_still (State.reachPlayers_clear hclear) _ fun a ha => ?_)
  obtain ⟨p', hne, rfl⟩ := hlater a ha
  simp only [hne, hsafe, Bool.true_eq_false, or_self, if_false]

/-- The step of such a row ends with its phase. -/
theorem State.phaseOver.phaseEnd_eq {s : State} {c : Instr} {p : PlayerId} {o : Order} {st : Step} (h : s.phaseOver c p o st) :
    s.phaseEnd p = (s.setPlayer p { s.player p with remaining := 0, due := false }).endStep p st := by
  obtain ⟨-, hrun, hdue, hstep, hrow⟩ := h
  simp only [State.phaseEnd, hrun, hdue, hstep]
  rcases hrow with ⟨-, -, hact⟩ | ⟨-, -, hact⟩ | ⟨-, -, hact, hfault⟩
  · rw [hact]
  · rw [hact]
  · rw [hact]
    simp [State.expire, hfault]

theorem State.phaseOver.exec_eq {s : State} {c : Instr} {p : PlayerId} {o : Order} {st : Step} (h : s.phaseOver c p o st)
    (hclear : (s.phaseEnd p).safe.state = .clear) : exec c s = .next (s.phaseEnd p).transmit := by
  obtain ⟨hlive, hrun, hdue, hstep, hrow⟩ := h
  have hon : ∀ (activity : Activity) (ofRow : StepAction → Bool), (s.player p).activity = activity → ofRow st.action = true →
      s.dueOn p activity ofRow = true := fun activity ofRow hact hof => by
    simp [State.dueOn, hrun, hdue, hstep, hact, hof]
  rcases hrow with ⟨rfl, hof, hact⟩ | ⟨rfl, hof, hact⟩ | ⟨rfl, hof, hact, -⟩
  all_goals exact congrArg Host.Outcome.next (State.phaseRow_clear o hlive (hon _ _ hact hof) hclear)

/-! ### The step after it (R47, R51) -/

/-- Within a pass, with no stop at the step, no HALT on it and no hold pending, the next step is admitted. -/
theorem State.endStep_next {s : State} {p : PlayerId} {st : Step} (hstop : (s.player p).stopIndex ≠ some (s.player p).index)
    (hhalt : st.halt = false) (hhold : (s.player p).holdPending = false) (hmore : (s.player p).index + 1 < s.boundCount p) :
    s.endStep p st = (s.setPlayer p { s.player p with index := (s.player p).index + 1 }).admitChain p := by
  simp [State.endStep, State.resolve, hstop, Nat.not_le.mpr hmore, State.holdQuestion, hhalt, hhold]

/-- A SET with a dwell that begins at an index other than 0, without FIT, is where the chain rests. -/
theorem State.admitChain_set {s : State} {p : PlayerId} {next : Step} {lines levels : LineSet} {dwell : BitVec 16}
    (hindex : (s.player p).index ≠ 0) (hstep : s.currentStep p = some next) (haction : next.action = .set lines levels dwell)
    (hdwell : dwell ≠ 0) (hfit : next.fit = false) :
    s.admitChain p = ((s.noteBegin p next).writeLines lines levels).rest p .stepping dwell.toNat := by
  have hguarded : next.guarded = false := by simp [Step.guarded, haction, hfit]
  have hadmit : s.admitNext p = (((s.noteBegin p next).writeLines lines levels).rest p .stepping dwell.toNat, .rests) := by
    simp only [State.admitNext, if_neg hindex, State.admitStep, hstep, hguarded, Bool.false_eq_true, if_false, State.beginStep,
      haction, if_neg hdwell]
  simp only [State.admitChain, Config.chainFuel, chain, hadmit]

/-- SYNC_OUT and the notice of a step's note, said of the state in which the row began. -/
def State.noted (s : State) (p : PlayerId) (l : Option ListId) (index pass : Nat) : State :=
  (s.produce (.stepNote p l index pass)).raiseIf (.note p)

/-- A phase end within a pass leads on to a SET with NOTE and a dwell. -/
theorem State.phaseOver.phaseEnd_noted {s : State} {c : Instr} {p : PlayerId} {o : Order} {l : ListId} {st next : Step}
    {lines levels : LineSet} {dwell : BitVec 16} (h : s.phaseOver c p o st) (hhalt : st.halt = false)
    (hstop : (s.player p).stopIndex ≠ some (s.player p).index) (hhold : (s.player p).holdPending = false)
    (hbound : (s.player p).boundList = some l) (hnext : (s.list l).steps[(s.player p).index + 1]? = some next)
    (haction : next.action = .set lines levels dwell) (hdwell : dwell ≠ 0) (hfit : next.fit = false)
    (hnote : next.note = true) :
    s.phaseEnd p = ((s.noted p (some l) ((s.player p).index + 1) (s.player p).passCount).writeLines lines levels).setPlayer p
      ((s.player p).goneOn dwell) := by
  have hcount : (s.player p).index + 1 < (s.list l).steps.length := (List.getElem?_eq_some_iff.mp hnext).1
  rw [h.phaseEnd_eq, State.endStep_next (by simpa using hstop) hhalt (by simpa using hhold)
    (by simpa [State.boundCount, hbound] using hcount),
    State.admitChain_set (by simp) (by simpa [State.currentStep, hbound] using hnext) haction hdwell hfit]
  simp only [State.noteBegin, hnote, if_true, State.setPlayer_player_same, State.setPlayer_setPlayer, State.setPlayer_produce,
    State.setPlayer_raiseIf, State.setPlayer_writeLines, State.setPlayer_rest, ← hbound]
  rfl

end Sys2Proof.Machine

/-! PROOFS. SYNC_OUT follows its source (O31). -/

namespace Sys2Proof.Machine

/-- Under a source of the Timebase no note moves SYNC_OUT, so the clock holds it. -/
theorem State.tb_of_clock_source {s t : State} (h : t.clock = s.clock)
    (hsource : s.params.syncOutSrc = .frame ∨ s.params.syncOutSrc = .superframe ∨ s.params.syncOutSrc = .running) :
    t.tb = s.tb := by
  refine State.tb_of_clock h fun p hnote => ?_
  rw [hnote] at hsource
  rcases hsource with hsource | hsource | hsource <;> cases hsource

theorem State.raiseIf_source {s : State} {src : SyncOutSrc} (h : s.params.syncOutSrc = src) : s.raiseIf src = s.raiseSyncOut :=
  if_pos h

/-! ### At a tick (R41) -/

theorem State.syncOutAtTick_low {s : State} (h : s.params.syncOutSrc = .frame ∨ s.params.syncOutSrc = .superframe) :
    s.syncOutAtTick.tb.syncOut = false := by
  rcases h with h | h <;> simp only [State.syncOutAtTick, h, State.lowerSyncOut]

theorem State.tickStart_low {s : State} (o : Order) (h : s.params.syncOutSrc = .frame ∨ s.params.syncOutSrc = .superframe) :
    (s.tickStart o).tb.syncOut = false := by
  have hp : (s.catchUp o).params = s.params := State.params_of_clock (s.catchUp_clock o)
  exact State.syncOutAtTick_low (s := s.catchUp o) (by rw [hp]; exact h)

theorem State.countFrame_syncOut (s : State) (index : Nat) : (s.countFrame index).tb.syncOut = s.tb.syncOut := by
  by_cases h : index = 0
  · rw [h]; rfl
  · rw [s.countFrame_frame_start h]; rfl

theorem State.countFrame_source (s : State) (index : Nat) :
    (s.countFrame index).params.syncOutSrc = s.params.syncOutSrc := by
  by_cases h : index = 0
  · rw [h]; rfl
  · rw [s.countFrame_frame_start h]

theorem State.syncOutAtFrame_high {s : State} (super : Bool) (h : s.params.syncOutSrc = .frame) :
    s.syncOutAtFrame super = s.raiseSyncOut := by
  simp only [State.syncOutAtFrame, h]

theorem State.syncOutAtFrame_super {s : State} (super : Bool) (h : s.params.syncOutSrc = .superframe) :
    s.syncOutAtFrame super = if super then s.raiseSyncOut else s := by
  simp only [State.syncOutAtFrame, h]

/-- A superframe start raises SYNC_OUT under both of its sources. -/
theorem State.superStarted_high {s : State} (h : s.params.syncOutSrc = .frame ∨ s.params.syncOutSrc = .superframe) :
    s.superStarted.tb.syncOut = true ∧ s.superStarted.tb.syncHold = !s.ticking := by
  have hsource := s.countFrame_source 0
  have hraise : s.superStarted = (s.countFrame 0).raiseSyncOut := by
    rcases h with h | h
    · exact State.syncOutAtFrame_high true (hsource.trans h)
    · exact State.syncOutAtFrame_super true (hsource.trans h)
  rw [hraise]
  exact ⟨rfl, rfl⟩

theorem State.syncOutAtFrame_running {s : State} (super : Bool) (h : s.params.syncOutSrc = .running) :
    s.syncOutAtFrame super = s := by
  simp only [State.syncOutAtFrame, h]

/-- A tick without a frame start leaves SYNC_OUT low under FRAME and SUPERFRAME. -/
theorem State.tick_low {s : State} (o : Order) (h : ¬s.frameDue)
    (hsource : s.params.syncOutSrc = .frame ∨ s.params.syncOutSrc = .superframe) : (s.tick o).tb.syncOut = false := by
  have hclock : (s.tick o).clock = (s.tickStart o).advance.clock := by
    rw [State.tick_advances o (Nat.lt_of_not_le h), State.handOut_clock]
  have hp : (s.tickStart o).advance.params = s.params := s.tickStart_params o
  rw [State.tb_of_clock_source hclock (by rw [hp]; exact hsource.imp_right .inl)]
  exact State.tickStart_low o hsource

/-- A tick with one leaves it as that frame start does. -/
theorem State.tick_framed {s : State} (o : Order) (h : s.frameDue)
    (hsource : s.params.syncOutSrc = .frame ∨ s.params.syncOutSrc = .superframe) :
    ∃ d : State, d.params.syncOutSrc = s.params.syncOutSrc ∧ d.tb.syncOut = false ∧
      (s.tick o).tb = (d.syncOutAtFrame (decide ((s.tb.index + 1) % s.params.superLen = 0))).tb := by
  let d := (s.tickStart o).countFrame ((s.tb.index + 1) % s.params.superLen)
  have hd : d.params.syncOutSrc = s.params.syncOutSrc :=
    ((s.tickStart o).countFrame_source _).trans (congrArg Params.syncOutSrc (s.tickStart_params o))
  refine ⟨d, hd, ((s.tickStart o).countFrame_syncOut _).trans (State.tickStart_low o hsource), ?_⟩
  refine State.tb_of_clock_source ?_ (by rw [State.syncOutAtFrame_params, hd]; exact hsource.imp_right .inl)
  rw [State.tick_starts_frame o h, State.frameStart_clock (first := id) _ o _ true false fun _ => rfl]

theorem State.tick_frame_iff {s : State} (o : Order) (h : s.params.syncOutSrc = .frame) :
    (s.tick o).tb.syncOut = true ↔ s.frameDue := by
  by_cases hframe : s.frameDue
  · obtain ⟨d, hd, -, htb⟩ := State.tick_framed o hframe (.inl h)
    rw [htb, State.syncOutAtFrame_high _ (hd.trans h)]
    exact iff_of_true rfl hframe
  · rw [State.tick_low o hframe (.inl h)]
    exact iff_of_false nofun hframe

theorem State.tick_super_iff {s : State} (o : Order) (h : s.params.syncOutSrc = .superframe) :
    (s.tick o).tb.syncOut = true ↔ s.superDue := by
  by_cases hframe : s.frameDue
  · obtain ⟨d, hd, hlow, htb⟩ := State.tick_framed o hframe (.inr h)
    rw [htb, State.syncOutAtFrame_super _ (hd.trans h), State.superDue]
    by_cases hsuper : (s.tb.index + 1) % s.params.superLen = 0
    · rw [decide_eq_true hsuper]
      exact iff_of_true rfl ⟨hframe, hsuper⟩
    · rw [decide_eq_false hsuper, if_neg Bool.false_ne_true, hlow]
      exact iff_of_false Bool.false_ne_true fun h => hsuper h.2
  · rw [State.tick_low o hframe (.inr h)]
    exact iff_of_false nofun fun hsuper => hframe hsuper.1

/-! ### When a run begins and ends (R41) -/

theorem State.runBegun_state (s : State) (st : TbState) : (s.runBegun st).tb.state = st :=
  (Timebase.state_of_counts (s.runBegun_counts st) :)

/-- The frame start that begins a run raises SYNC_OUT under its two sources, held for one microsecond without a run. -/
theorem State.runBegun_high {s : State} (st : TbState)
    (h : s.params.syncOutSrc = .frame ∨ s.params.syncOutSrc = .superframe) :
    (s.runBegun st).tb.syncOut = true ∧ ((s.runBegun st).tb.syncHold = true ↔ st ≠ .running) := by
  have hp : (s.setTbState st).clearDivider.params = s.params := s.setTbState_params st
  obtain ⟨hout, hhold⟩ := State.superStarted_high (s := (s.setTbState st).clearDivider) (by rw [hp]; exact h)
  have hticking : (s.setTbState st).clearDivider.ticking = decide (st = .running) :=
    congrArg (fun x => decide (x = TbState.running)) (s.setTbState_state st)
  refine ⟨hout, ?_⟩
  rw [State.runBegun, hhold, hticking]
  simp

/-- Under RUNNING it leaves SYNC_OUT as the new state does. -/
theorem State.runBegun_running {s : State} (st : TbState) (h : s.params.syncOutSrc = .running) (hlow : s.tb.syncOut = false) :
    (s.runBegun st).tb.syncOut = true ↔ st = .running := by
  have hsource : ((s.setTbState st).clearDivider.countFrame 0).params.syncOutSrc = .running := by
    rw [State.countFrame_source]
    exact (congrArg Params.syncOutSrc (s.setTbState_params st)).trans h
  have hout : (s.runBegun st).tb.syncOut = (s.setTbState st).tb.syncOut := by
    rw [State.runBegun, State.superStarted, State.syncOutAtFrame_running true hsource, State.countFrame_syncOut]
    rfl
  rw [hout]
  by_cases hst : st = .running
  · simp [State.setTbState, hst, h]
  · by_cases hrun : s.tb.state = .running <;> simp [State.setTbState, hst, hrun, hlow, State.lowerSyncOut]

/-- A run that TB_START begins. -/
theorem State.beginTbRun_tb {s : State} (o : Order) (st : TbState) (sync : Bool)
    (hsource : s.params.syncOutSrc = .frame ∨ s.params.syncOutSrc = .superframe ∨ s.params.syncOutSrc = .running) :
    (s.beginTbRun o st sync).tb = (s.runBegun st).tb :=
  State.tb_of_clock_source (s.beginTbRun_clock o st sync) (by rw [State.runBegun_params]; exact hsource)

/-- TB_STOP lowers SYNC_OUT under every source but NOTE. -/
theorem State.tbStopAction_low {s : State} (h : ∀ p, s.params.syncOutSrc ≠ .note p) : s.tbStopAction.tb.syncOut = false := by
  rw [s.tbStopAction_eq, State.tbNotice, State.produce_tb]
  cases hsource : s.params.syncOutSrc with
  | note p => exact absurd hsource (h p)
  | off | frame | superframe | running => simp only [State.tbStopped, hsource, State.lowerSyncOut]

/-! ### At an edge of SYNC_IN (R33 to R35, R41) -/

theorem State.forcedFrame_high {e : State} (o : Order)
    (hsource : e.params.syncOutSrc = .frame ∨ e.params.syncOutSrc = .superframe) :
    (e.clearDivider.frameStart o 0 id false true).tb.syncOut = true := by
  have hclock := State.frameStart_clock (first := id) e.clearDivider o 0 false true fun _ => rfl
  have hp : e.clearDivider.superStarted.params.syncOutSrc = e.params.syncOutSrc := by
    rw [State.superStarted_params]; rfl
  have htb : (e.clearDivider.frameStart o 0 id false true).tb = e.clearDivider.superStarted.tb :=
    State.tb_of_clock_source (s := e.clearDivider.superStarted) hclock (by rw [hp]; exact hsource.imp_right .inl)
  rw [htb]
  exact (State.superStarted_high (s := e.clearDivider) hsource).1

theorem State.mergeEdge_high {e : State} (o : Order) (h : e.tb.index ≠ 0) (hsource : e.params.syncOutSrc = .superframe) :
    (e.mergeEdge o).tb.syncOut = true := by
  have hclock : (e.mergeEdge o).clock = e.edgeMerged.clock := by simp [State.mergeEdge_super o h]
  have hp : e.edgeMerged.params.syncOutSrc = .superframe := by rw [State.edgeMerged_params]; exact hsource
  rw [State.tb_of_clock_source hclock (.inr (.inl hp)), State.edgeMerged, State.raiseIf_source (by exact hsource)]
  rfl

/-- A pause in GATED takes SYNC_OUT low under every source. -/
theorem State.inactiveEdge_low {e : State} (hrun : e.tb.state = .running) (hmode : e.params.syncMode = .gated) :
    e.inactiveEdge.tb.syncOut = false := by
  rw [State.inactiveEdge_pauses hrun hmode, State.tbNotice, State.produce_tb]
  simp [State.setTbState, hrun, State.lowerSyncOut]

/-- The note of a step, written out (R64). -/
theorem State.noted_eq (s : State) (p : PlayerId) (l : Option ListId) (index pass : Nat) :
    s.noted p l index pass = if s.params.syncOutSrc = .note p then
      { s.produce (.stepNote p l index pass) with
        tb := { s.tb with syncOut := true, syncHold := decide (s.tb.state ≠ .running) } }
    else s.produce (.stepNote p l index pass) := by
  rw [State.noted, State.raiseIf, State.produce_params]
  by_cases h : s.params.syncOutSrc = .note p
  · rw [if_pos h, if_pos h, State.raiseSyncOut, State.ticking, State.produce_tb, decide_not]
  · rw [if_neg h, if_neg h]

/-- Settles O31: at ticks, TB_START, TB_STOP, edges of SYNC_IN, and where a step with NOTE begins. -/
theorem syncOutFollowsItsSource : Obligations.SyncOutFollowsItsSource := by
  refine ⟨fun s c o htick => ?_, fun s q rest o => ⟨fun h hstop hmode => ?_, fun h hrun hsource => ?_⟩,
    fun s level o hlive hnew => ⟨_, exec_syncInEdge_new o hlive hnew, fun hactive hrun hmode => ⟨fun hposition hsource => ?_,
      fun hposition hindex hsource => ?_⟩, fun hactive hrun hmode => ?_⟩, fun s c p o l st next lines levels dwell h hclear
    hhalt hstop hhold hbound hnext haction hdwell hfit hnote => ?_⟩
  · obtain ⟨d, hexec, hd, hp, -⟩ := htick.exec_eq
    obtain ⟨-, hposition, hindex, -⟩ := Timebase.fields_of_counts hd
    have hframe : d.frameDue ↔ s.frameDue := by
      rw [State.frameDue, State.frameDue, hposition, hp]
    have hsuper : d.superDue ↔ s.superDue := by
      rw [State.superDue, State.superDue, hframe, hindex, hp]
    refine ⟨_, hexec, fun hsource => ?_, fun hsource => ?_⟩
    · rw [State.transmit_tb, State.tick_frame_iff o (by rw [hp]; exact hsource), hframe]
    · rw [State.transmit_tb, State.tick_super_iff o (by rw [hp]; exact hsource), hsuper]
  · refine ⟨_, State.take_answered h rfl rfl (serveTbStart_begins (s := s.taking rest) o q hstop hmode), ?_⟩
    have hcatch : ((s.taking rest).catchUp o).clock = s.clock := (s.taking rest).catchUp_clock o
    have hp : ((s.taking rest).catchUp o).params = s.params := State.params_of_clock hcatch
    rw [State.transmit_tb, State.queueReply_tb]
    refine ⟨fun hsource => ?_, fun hsource hlow => ?_⟩
    · rw [State.beginTbRun_tb o _ false (by rw [hp]; exact hsource.imp_right .inl), State.runBegun_state]
      exact State.runBegun_high _ (by rw [hp]; exact hsource)
    · have htb : ((s.taking rest).catchUp o).tb = s.tb := State.tb_of_clock_source hcatch (.inr (.inr hsource))
      rw [State.beginTbRun_tb o _ false (by rw [hp]; exact .inr (.inr hsource)), State.runBegun_state]
      exact State.runBegun_running _ (by rw [hp]; exact hsource) (by rw [htb]; exact hlow)
  · refine ⟨_, State.take_answered h rfl rfl (serveTbStop_stops (s := s.taking rest) o q hrun), ?_⟩
    have hp : ((s.taking rest).catchUp o).params = s.params := State.params_of_clock ((s.taking rest).catchUp_clock o)
    rw [State.transmit_tb, State.queueReply_tb]
    exact State.tbStopAction_low fun p => by rw [hp]; exact hsource p
  · obtain ⟨hstate, hpos, -⟩ := Timebase.fields_of_counts (s.syncSampled_counts level o)
    have hp := s.syncSampled_params level o
    rw [State.transmit_tb, State.edgeActed, if_pos hactive, State.activeEdge_forced o (hstate.trans hrun) (hp ▸ hmode)
      (by rw [hpos]; exact hposition)]
    exact State.forcedFrame_high o (by rw [hp]; exact hsource)
  · obtain ⟨hstate, hpos, hidx, -⟩ := Timebase.fields_of_counts (s.syncSampled_counts level o)
    have hp := s.syncSampled_params level o
    rw [State.transmit_tb, State.edgeActed, if_pos hactive, State.activeEdge_merged o (hstate.trans hrun) (hp ▸ hmode)
      (hpos.trans hposition)]
    exact State.mergeEdge_high o (by rw [hidx]; exact hindex) (by rw [hp]; exact hsource)
  · have hstate := Timebase.state_of_counts (r := { s.tb with syncIn := level }) (s.syncSampled_counts level o)
    have hp := s.syncSampled_params level o
    rw [State.transmit_tb, State.edgeActed, hactive, if_neg Bool.false_ne_true]
    exact State.inactiveEdge_low (hstate.trans hrun) (by rw [hp]; exact hmode)
  · have hend := h.phaseEnd_noted hhalt hstop hhold hbound hnext haction hdwell hfit hnote
    rw [State.noted_eq] at hend
    have hsafe : (s.phaseEnd p).safe.state = .clear := by
      rw [hend]
      split <;> simpa using hclear
    rw [h.exec_eq hsafe, hend]

end Sys2Proof.Machine

/-! PROOFS. The parameters of the Timebase, and the link's rate (O41). -/

namespace Sys2Proof.Machine

/-! ### A value and its code in a request (R152, R160) -/

theorem be16_toNat (c : BitVec 16) : be16 c.toNat = countBytes c := by
  have hhigh : BitVec.ofNat 8 (c.toNat / 256) = c.extractLsb' 8 8 :=
    BitVec.eq_of_toNat_eq (by simp [Nat.shiftRight_eq_div_pow])
  have hlow : BitVec.ofNat 8 c.toNat = c.extractLsb' 0 8 := BitVec.eq_of_toNat_eq (by simp)
  rw [be16, hhigh, hlow, countBytes]

theorem be16_word16 (hi lo : Byte) : be16 (word16 hi lo).toNat = [hi, lo] := by
  rw [be16_toNat, countBytes_word16]

/-- A code of one byte, as the last of the two bytes of a value. -/
theorem word16_byteOf {n : Nat} (h : n < 256) : (word16 0 (byteOf n)).toNat = n := by
  rw [word16, byteOf, BitVec.toNat_append]
  simpa using h

theorem TickSource.ofCode_code (x : TickSource) : ofCode x.code = x := by cases x <;> rfl
theorem SyncMode.ofCode_code (x : SyncMode) : ofCode x.code = x := by cases x <;> rfl
theorem SyncEdge.ofCode_code (x : SyncEdge) : ofCode x.code = x := by cases x <;> rfl
theorem LinkRate.ofCode_code (x : LinkRate) : ofCode x.code = x := by cases x <;> rfl

theorem SyncOutSrc.ofCode_code (x : SyncOutSrc) : ofCode x.code = x := by
  cases x with
  | note p => fin_cases p <;> rfl
  | off | frame | superframe | running => rfl

theorem TickSource.code_le (x : TickSource) : x.code ≤ 1 := by cases x <;> decide
theorem SyncMode.code_le (x : SyncMode) : x.code ≤ 3 := by cases x <;> decide
theorem SyncEdge.code_le (x : SyncEdge) : x.code ≤ 1 := by cases x <;> decide
theorem LinkRate.code_le (x : LinkRate) : x.code ≤ 3 := by cases x <;> decide

theorem SyncOutSrc.code_le (x : SyncOutSrc) : x.code ≤ 9 := by
  cases x with
  | note p => exact Nat.add_le_add_left (Nat.le_of_lt_succ p.isLt) 4
  | off | frame | superframe | running => decide

theorem TickSource.word16_code (x : TickSource) : (word16 0 (byteOf x.code)).toNat = x.code :=
  word16_byteOf (Nat.lt_of_le_of_lt x.code_le (by decide))
theorem SyncMode.word16_code (x : SyncMode) : (word16 0 (byteOf x.code)).toNat = x.code :=
  word16_byteOf (Nat.lt_of_le_of_lt x.code_le (by decide))
theorem SyncEdge.word16_code (x : SyncEdge) : (word16 0 (byteOf x.code)).toNat = x.code :=
  word16_byteOf (Nat.lt_of_le_of_lt x.code_le (by decide))
theorem LinkRate.word16_code (x : LinkRate) : (word16 0 (byteOf x.code)).toNat = x.code :=
  word16_byteOf (Nat.lt_of_le_of_lt x.code_le (by decide))
theorem SyncOutSrc.word16_code (x : SyncOutSrc) : (word16 0 (byteOf x.code)).toNat = x.code :=
  word16_byteOf (Nat.lt_of_le_of_lt x.code_le (by decide))

/-- The fields of a reply to a set that leaves no value pending (R162). -/
theorem State.paramFields_settled {s : State} {id index hi lo : Byte} (hvalue : s.paramValue id index = (word16 hi lo).toNat)
    (hpending : s.paramPending id = none) : s.paramFields id index = [id, index, hi, lo, 0, 0, 0] := by
  rw [State.paramFields, State.paramFieldsWith, hpending, hvalue, be16_word16]
  rfl

/-- The fields of a reply to a set that becomes the pending value. -/
theorem State.paramFields_pending {s : State} {id index hi lo : Byte}
    (hpending : s.paramPending id = some (word16 hi lo).toNat) :
    s.paramFields id index = [id, index] ++ be16 (s.paramValue id index) ++ [1, hi, lo] := by
  rw [State.paramFields, State.paramFieldsWith, hpending, Option.getD_some, be16_word16]
  simp [markByte]

/-! ### A PARAM_SET by its row (R162) -/

theorem State.asked.kind_eq {s : State} {kind : Byte} {payload : List Byte} {q : Frame} {rest : List Frame}
    (h : s.asked kind payload q rest) : q.kind = kind := by
  obtain ⟨-, -, hkind, -⟩ := h
  exact hkind

/-- A set of a named parameter to one of its values is its row's own. -/
theorem State.take_set {s : State} {ids : List Byte} {own : Byte → Byte → Nat → State → State × Reply}
    {id index hi lo : Byte} {q : Frame} {rest : List Frame} (h : s.asked 0x49 [id, index, hi, lo] q rest)
    (hid : ids.contains id = true) (hnamed : paramNamed id index = true) (hrange : paramInRange id (word16 hi lo).toNat = true) :
    s.take (setsParam ids) (serveParamSet own) =
      ((own id index (word16 hi lo).toNat (s.taking rest)).1.queueReply q
        (own id index (word16 hi lo).toNat (s.taking rest)).2).transmit := by
  have hpayload := h.payload_eq
  have hkind := h.kind_eq
  have hmine : setsParam ids q = true := by
    simp only [setsParam, hkind, hpayload, hid, decide_true, Bool.and_true]
  have hserve : serveParamSet own q (s.taking rest) = own id index (word16 hi lo).toNat (s.taking rest) := by
    simp [serveParamSet, hpayload, hnamed, hrange]
  rw [State.take_asked h hmine rfl rfl, hserve]

/-- Such a set while STOPPED puts its value in force. -/
theorem exec_paramSetStoppedClass {s : State} {id hi lo : Byte} {q : Frame} {rest : List Frame} {params : Params}
    (h : s.asked 0x49 [id, 0, hi, lo] q rest) (hid : [0x01, 0x02, 0x05, 0x06].contains id = true)
    (hnamed : paramNamed id 0 = true) (hrange : paramInRange id (word16 hi lo).toNat = true)
    (hown : ownStoppedClass id 0 (word16 hi lo).toNat (s.taking rest) = if s.tb.state = .stopped then
      ({ s.taking rest with params := params } : State).paramReply .ok id 0 else refuse (s.taking rest) .wrongState)
    (hvalue : ({ s.taking rest with params := params } : State).paramValue id 0 = (word16 hi lo).toNat)
    (hpending : ({ s.taking rest with params := params } : State).paramPending id = none) :
    exec .paramSetStoppedClass s = if s.tb.state = .stopped then
      ({ s.taking rest with params := params } : State).answered q .ok [id, 0, hi, lo, 0, 0, 0]
    else (s.taking rest).answered q .wrongState [] := by
  change Host.Outcome.next (s.take (setsParam [0x01, 0x02, 0x05, 0x06]) (serveParamSet ownStoppedClass)) = _
  rw [State.take_set h hid hnamed hrange, hown]
  by_cases hstop : s.tb.state = .stopped
  · simp only [if_pos hstop, State.paramReply, State.paramFields_settled hvalue hpending]
    rfl
  · simp only [if_neg hstop]
    rfl

/-- FRAME_LEN and SUPER_LEN: the state that the set leaves, and the reply that names what is in force and what is pending. -/
theorem exec_paramSetStaged {s t : State} {id hi lo : Byte} {q : Frame} {rest : List Frame} {status : Status}
    (h : s.asked 0x49 [id, 0, hi, lo] q rest) (hid : [0x03, 0x04].contains id = true)
    (hnamed : paramNamed id 0 = true) (hrange : paramInRange id (word16 hi lo).toNat = true)
    (hown : ownStaged id 0 (word16 hi lo).toNat (s.taking rest) = t.paramReply status id 0) :
    exec .paramSetStaged s = t.answered q status (t.paramFields id 0) := by
  change Host.Outcome.next (s.take (setsParam [0x03, 0x04]) (serveParamSet ownStaged)) = _
  rw [State.take_set h hid hnamed hrange, hown]
  rfl

theorem ownStaged_stopped {s : State} (id index : Byte) (v : Nat) (h : s.tb.state = .stopped) : ownStaged id index v s =
    (if id = 0x03 then
      { s with params := { s.params with frameLen := v }, tb := { s.tb with pendFrameLen := none } }
    else
      { s with params := { s.params with superLen := v }, tb := { s.tb with pendSuperLen := none } }).paramReply .ok id index :=
  if_pos h

theorem ownStaged_pends {s : State} (id index : Byte) (v : Nat) (h : s.tb.state ≠ .stopped) : ownStaged id index v s =
    (if id = 0x03 then { s with tb := { s.tb with pendFrameLen := some v } }
    else { s with tb := { s.tb with pendSuperLen := some v } }).paramReply .pending id index :=
  if_neg h

/-- The state that a set of SYNC_OUT_SRC leaves (R42; log 37). -/
def State.sourceSet (s : State) (src : SyncOutSrc) : State :=
  if src = s.params.syncOutSrc then s
  else { s with
    params := { s.params with syncOutSrc := src }
    tb := { s.tb with syncOut := decide (src = SyncOutSrc.running ∧ s.tb.state = .running), syncHold := false } }

theorem ownSyncOutSrc_eq {s : State} {v : Nat} {src : SyncOutSrc} (id index : Byte) (h : SyncOutSrc.ofCode v = src) :
    ownSyncOutSrc id index v s = (s.sourceSet src).paramReply .ok id index := by
  simp only [ownSyncOutSrc, h, State.sourceSet, Bool.decide_and, State.ticking]

theorem State.sourceSet_source (s : State) (src : SyncOutSrc) : (s.sourceSet src).params.syncOutSrc = src := by
  unfold State.sourceSet
  split
  case isTrue h => exact h.symm
  case isFalse => rfl

theorem exec_paramSetSyncOutSrc {s : State} {src : SyncOutSrc} {q : Frame} {rest : List Frame}
    (h : s.asked 0x49 [0x07, 0, 0, byteOf src.code] q rest) : exec .paramSetSyncOutSrc s =
      ((s.taking rest).sourceSet src).answered q .ok [0x07, 0, 0, byteOf src.code, 0, 0, 0] := by
  have hown := ownSyncOutSrc_eq (s := s.taking rest) 0x07 0 src.ofCode_code
  have hvalue : ((s.taking rest).sourceSet src).paramValue 0x07 0 = (word16 0 (byteOf src.code)).toNat :=
    (congrArg SyncOutSrc.code (State.sourceSet_source _ src)).trans src.word16_code.symm
  have hfields := State.paramFields_settled hvalue rfl
  change Host.Outcome.next (s.take (setsParam [0x07]) (serveParamSet ownSyncOutSrc)) = _
  rw [State.take_set h rfl rfl (by rw [src.word16_code]; exact decide_eq_true src.code_le), src.word16_code, hown,
    State.paramReply, hfields]
  rfl

/-- Settles O41: each set in its row, and the end of a SYNC_OUT pulse. -/
theorem timebaseParametersAndLinkRateAreSet : Obligations.TimebaseParametersAndLinkRateAreSet := by
  refine ⟨fun s q rest hi lo => ⟨fun hmin h => ⟨fun hstop => ?_, fun hrun => ?_⟩,
    fun hmin hmax h => ⟨fun hstop => ?_, fun hrun => ?_⟩, fun hmin h => ⟨fun hstop => ?_, fun hrun => ?_⟩,
    fun source mode edge => ⟨fun h => ?_, fun h => ?_, fun h => ?_⟩⟩,
    fun s q rest => ⟨fun src h => ?_, fun rate h => ?_⟩, fun s hlive => ⟨fun hhold => ?_, fun hhold => ?_⟩⟩
  · rw [exec_paramSetStaged h rfl rfl (by simpa [paramInRange] using hmin) (ownStaged_stopped _ _ _ hstop),
      if_pos rfl, State.paramFields_settled rfl rfl]
    rfl
  · rw [exec_paramSetStaged h rfl rfl (by simpa [paramInRange] using hmin) (ownStaged_pends _ _ _ hrun),
      if_pos rfl, State.paramFields_pending rfl]
    rfl
  · rw [exec_paramSetStaged h rfl rfl (by simpa [paramInRange] using ⟨hmin, hmax⟩) (ownStaged_stopped _ _ _ hstop),
      if_neg (by decide), State.paramFields_settled rfl rfl]
    rfl
  · rw [exec_paramSetStaged h rfl rfl (by simpa [paramInRange] using ⟨hmin, hmax⟩) (ownStaged_pends _ _ _ hrun),
      if_neg (by decide), State.paramFields_pending rfl]
    rfl
  · rw [exec_paramSetStoppedClass h rfl rfl (by simpa [paramInRange] using hmin) rfl rfl rfl, if_pos hstop]
    rfl
  · rw [exec_paramSetStoppedClass h rfl rfl (by simpa [paramInRange] using hmin) rfl rfl rfl, if_neg hrun]
  · refine exec_paramSetStoppedClass h rfl rfl (by rw [source.word16_code]; exact decide_eq_true source.code_le) ?_
      source.word16_code.symm rfl
    rw [source.word16_code]
    simp only [ownStoppedClass, source.ofCode_code]
    rfl
  · refine exec_paramSetStoppedClass h rfl rfl (by rw [mode.word16_code]; exact decide_eq_true mode.code_le) ?_
      mode.word16_code.symm rfl
    rw [mode.word16_code]
    simp only [ownStoppedClass, mode.ofCode_code]
    rfl
  · refine exec_paramSetStoppedClass h rfl rfl (by rw [edge.word16_code]; exact decide_eq_true edge.code_le) ?_
      edge.word16_code.symm rfl
    rw [edge.word16_code]
    simp only [ownStoppedClass, edge.ofCode_code]
    rfl
  · exact exec_paramSetSyncOutSrc h
  · change Host.Outcome.next (s.take (setsParam [0x30]) (serveParamSet ownLinkRate)) = _
    rw [State.take_set h rfl rfl (by rw [rate.word16_code]; exact decide_eq_true rate.code_le), rate.word16_code, ownLinkRate,
      rate.ofCode_code]
    rfl
  · change Host.Outcome.next (s.live _) = _
    rw [State.live_live hlive]
    exact congrArg (fun u : State => Host.Outcome.next u.transmit) (if_pos hhold)
  · change Host.Outcome.next (s.live _) = _
    rw [State.live_live hlive]
    exact congrArg (fun u : State => Host.Outcome.next u.transmit) (if_neg (hhold ▸ Bool.false_ne_true))

end Sys2Proof.Machine

/-! PROOFS. With no command waiting, a step is a microsecond (O2). -/

namespace Sys2Proof.Machine

theorem step_of_pending_nil {s : State} (h : s.pending = []) : step s = .next s.microsecond := by
  simp only [step, h]

theorem State.microsecond_live {s : State} (h : s.phase = .live) :
    s.microsecond = (s.passMicrosecond Order.unasked).transmit :=
  State.live_live h _

/-! ### What ends in a microsecond (R26, R144) -/

theorem State.ticksFrom_iff (s : State) (source : TickSource) :
    s.ticksFrom source = true ↔ s.tb.state = .running ∧ s.params.tickSource = source := by
  simp [State.ticksFrom, State.ticking]

theorem State.dividerExpires_iff (s : State) : s.dividerExpires = true ↔
    (s.tb.state = .running ∧ s.params.tickSource = .internal) ∧ s.params.tickDiv ≤ s.tb.divider + 1 := by
  rw [State.dividerExpires, Bool.and_eq_true, s.ticksFrom_iff, decide_eq_true_iff]

theorem Receiver.inFrame_iff (rx : Receiver) : rx.inFrame = true ↔ rx ≠ .hunt := by
  cases rx <;> simp [Receiver.inFrame]

theorem State.timerExpires_iff (s : State) : s.timerExpires = true ↔
    s.link.rx ≠ .hunt ∧ ∃ n, s.link.timer = some n ∧ 5000 ≤ n + 1 := by
  rw [State.timerExpires, Bool.and_eq_true, Receiver.inFrame_iff]
  cases s.link.timer with
  | none => simp
  | some n => simp [Config.interByteLimit]

/-- The microsecond in which the inter-byte timer expires leaves the link as the receive error does. -/
theorem State.passMicrosecond_timeout {s : State} (o : Order) (h : s.timerExpires = true) :
    (s.passMicrosecond o).link = { s.link with rx := .hunt, timer := none } := by
  have hbyte : (s.passMicrosecond o).link = s.timeByte.link := congrArg Fixed.link (s.passMicrosecond_fixed o)
  rw [hbyte, State.timeByte, if_pos h, State.linkError, State.produce_link]
  rfl

/-! ### Any other microsecond -/

theorem State.timeByte_counts {s : State} (h : s.timerExpires = false) : s.timeByte =
    { s with link := { s.link with timer := s.link.timer.map fun n => min (n + 1) 5000 } } :=
  if_neg (by rw [h]; exact Bool.false_ne_true)

theorem State.endSyncHold_eq (s : State) : s.endSyncHold =
    { s with tb := { s.tb with syncOut := s.tb.syncOut && !s.tb.syncHold, syncHold := false } } := by
  unfold State.endSyncHold
  cases h : s.tb.syncHold with
  | true => simp [State.lowerSyncOut]
  | false =>
    simp only [Bool.false_eq_true, if_false, Bool.not_false, Bool.and_true]
    rw [← h]

theorem State.divide_counts {s : State} (o : Order) (h : s.dividerExpires = false) : s.divide o =
    { s with tb := { s.tb with
        divider := s.tb.divider + (if s.tb.state = .running ∧ s.params.tickSource = .internal then 1 else 0) } } := by
  unfold State.divide
  simp only [h, Bool.false_eq_true, if_false, s.ticksFrom_iff]
  split <;> rfl

/-- A state in which nobody is RUNNING or ARMED unless it is CLEAR has nobody for a safe entry to reach. -/
theorem State.reachPlayers_nobody {s : State}
    (h : s.safe.state ≠ .clear → ∀ p, (s.player p).state ≠ .running ∧ (s.player p).state ≠ .armed)
    (players exempt : List PlayerId) : s.reachPlayers players exempt = s := by
  by_cases hclear : s.safe.state = .clear
  · exact State.reachPlayers_clear hclear players exempt
  · exact State.reachPlayers_still (h hclear) players exempt

/-- Settles O2: the microsecond is an INTERNAL_TICK, a receive error, or moves three counts alone. -/
theorem emptyQueueLetsAMicrosecondPass : Obligations.EmptyQueueLetsAMicrosecondPass := by
  intro s hempty
  rw [step_of_pending_nil hempty]
  refine ⟨fun hlive => ?_, fun hlive htick => ?_, fun hlive hbyte => ?_, fun hlive htick hbyte hdue howed hnobody => ?_⟩
  · rw [State.microsecond, State.live_other hlive]
  · change _ = execInternalTick Order.unasked s
    rw [execInternalTick, State.microsecond_live hlive, State.live_live hlive, if_pos (s.dividerExpires_iff.mpr htick)]
  · rw [State.microsecond_live hlive]
    have hlink := State.passMicrosecond_timeout Order.unasked (s.timerExpires_iff.mpr hbyte)
    refine ⟨_, rfl, ?_⟩
    simp only [State.transmit_rx, State.transmit_timer, State.transmit_inbox, State.transmit_replies, State.transmit_cache,
      hlink, and_self]
  · have htimer : s.timerExpires = false := Bool.eq_false_iff.mpr fun h => hbyte (s.timerExpires_iff.mp h)
    have hdivider : s.dividerExpires = false := Bool.eq_false_iff.mpr fun h => htick (s.dividerExpires_iff.mp h)
    have hcatch : s.timeByte.endSyncHold.catchUp Order.unasked = s.timeByte.endSyncHold := by
      rw [State.timeByte_counts htimer, State.endSyncHold_eq]
      exact State.catchUp_still _ hdue howed (State.reachPlayers_nobody hnobody)
    rw [State.microsecond_live hlive, State.passMicrosecond, hcatch, State.timeByte_counts htimer, State.endSyncHold_eq]
    exact congrArg (fun u : State => Host.Outcome.next u.transmit) (State.divide_counts Order.unasked hdivider)

end Sys2Proof.Machine

/-! PROOFS. A step that ends leads on to the next step of its list: what that step's admission makes of the player, kind by kind (R47,
R51 to R53, R56, R58, R59, R84, R86). -/

namespace Sys2Proof.Machine

/-! ### The steps of lists under play -/

/-- What play never touches holds the steps of every list. -/
theorem State.steps_of_fixed {s t : State} (h : t.fixed = s.fixed) (l : ListId) : (t.list l).steps = (s.list l).steps := by
  have hlists := congrArg (fun f : Fixed => f.lists[l.val].steps) h
  simpa only [State.fixed, Vector.getElem_map, State.list] using hlists

theorem State.currentStep_congr {s t : State} {p : PlayerId} (hsteps : ∀ l, (t.list l).steps = (s.list l).steps)
    (hlist : (t.player p).boundList = (s.player p).boundList) (hindex : (t.player p).index = (s.player p).index) :
    t.currentStep p = s.currentStep p := by
  simp only [State.currentStep, hlist, hindex, hsteps]

/-! ### A step that leads on to another (R84, R86) -/

/-- The end of the player's step `st` admits `next`: `st` is not at the stop index and carries no HALT, no hold is pending, and
`next` is the step after it in its list. -/
structure State.LeadsOn (s : State) (p : PlayerId) (st next : Step) : Prop where
  stop : (s.player p).stopIndex ≠ some (s.player p).index
  halt : st.halt = false
  hold : (s.player p).holdPending = false
  step : ∃ l, (s.player p).boundList = some l ∧ (s.list l).steps[(s.player p).index + 1]? = some next

/-- Whether a step leads on to another depends on four fields of the record and on the steps of lists. -/
theorem State.LeadsOn.congr {s t : State} {p : PlayerId} {st next : Step} (h : s.LeadsOn p st next)
    (hsteps : ∀ l, (t.list l).steps = (s.list l).steps) (hstop : (t.player p).stopIndex = (s.player p).stopIndex)
    (hindex : (t.player p).index = (s.player p).index)
    (hhold : (t.player p).holdPending = (s.player p).holdPending)
    (hlist : (t.player p).boundList = (s.player p).boundList) : t.LeadsOn p st next := by
  refine ⟨by rw [hstop, hindex]; exact h.stop, h.halt, hhold.trans h.hold, ?_⟩
  simpa only [hlist, hindex, hsteps] using h.step

theorem State.goesOn.leadsOn {s : State} {p : PlayerId} {lines levels : LineSet} {dwell : BitVec 16} {st : Step}
    (h : s.goesOn p lines levels dwell) (hstep : s.currentStep p = some st) :
    ∃ next, s.LeadsOn p st next ∧ next.plainSet lines levels dwell := by
  obtain ⟨hstop, hhalt, hhold, l, next, hlist, hnext, hplain⟩ := h
  exact ⟨next, ⟨hstop, hhalt st hstep, hhold, l, hlist, hnext⟩, hplain⟩

/-- The state whose player stands at the index after its step's. -/
def State.onNext (s : State) (p : PlayerId) : State := s.setPlayer p { s.player p with index := (s.player p).index + 1 }

@[simp] theorem State.onNext_player (s : State) (p : PlayerId) :
    (s.onNext p).player p = { s.player p with index := (s.player p).index + 1 } := s.setPlayer_player_same p _

theorem State.onNext_index (s : State) (p : PlayerId) : ((s.onNext p).player p).index ≠ 0 := by simp

theorem State.LeadsOn.resolve_eq {s : State} {p : PlayerId} {st next : Step} (h : s.LeadsOn p st next) :
    s.resolve p st = (s.onNext p, true) := by
  obtain ⟨hstop, hhalt, hhold, l, hlist, hnext⟩ := h
  have hmore : (s.player p).index + 1 < s.boundCount p := by
    simpa [State.boundCount, hlist] using (List.getElem?_eq_some_iff.mp hnext).1
  simp [State.resolve, hstop, Nat.not_le.mpr hmore, State.holdQuestion, hhalt, hhold, State.onNext]

theorem State.LeadsOn.onNext_step {s : State} {p : PlayerId} {st next : Step} (h : s.LeadsOn p st next) :
    (s.onNext p).currentStep p = some next := by
  obtain ⟨-, -, -, l, hlist, hnext⟩ := h
  simpa [State.currentStep, State.onNext, hlist] using hnext

theorem State.LeadsOn.endStep_eq {s : State} {p : PlayerId} {st next : Step} (h : s.LeadsOn p st next) :
    s.endStep p st = (s.onNext p).admitChain p := by
  rw [State.endStep, h.resolve_eq]

/-! ### The chain of admissions (R50) -/

theorem chain_rests {s u : State} {p : PlayerId} (h : s.admitNext p = (u, .rests)) (fuel : Nat) : chain (fuel + 1) p s = u := by
  rw [chain, h]

theorem chain_leadsOn {s u : State} {p : PlayerId} {st next : Step} (h : s.admitNext p = (u, .ended st))
    (hleads : u.LeadsOn p st next) (fuel : Nat) : chain (fuel + 1) p s = chain fuel p (u.onNext p) := by
  rw [chain, h]
  simp only [hleads.resolve_eq]

/-- An admission at which the player rests is the whole chain. -/
theorem State.admitChain_rests {s u : State} {p : PlayerId} (h : s.admitNext p = (u, .rests)) : s.admitChain p = u :=
  chain_rests h 1023

/-! ### Admissions and begins (R47, R51 to R53, R56) -/

/-- A step without the guard begins at its admission. -/
theorem State.admitStep_begins {s : State} {p : PlayerId} {st : Step} (hstep : s.currentStep p = some st)
    (hguard : st.guarded = false) : s.admitStep p = s.beginStep p st := by
  simp only [State.admitStep, hstep, hguard, Bool.false_eq_true, if_false]

theorem State.admitNext_later {s : State} {p : PlayerId} (h : (s.player p).index ≠ 0) : s.admitNext p = s.admitStep p := if_neg h

theorem State.admitNext_begins {s : State} {p : PlayerId} {st : Step} (hindex : (s.player p).index ≠ 0)
    (hstep : s.currentStep p = some st) (hguard : st.guarded = false) : s.admitNext p = s.beginStep p st :=
  (State.admitNext_later hindex).trans (State.admitStep_begins hstep hguard)

theorem State.noteBegin_silent {st : Step} (h : st.note = false) (s : State) (p : PlayerId) : s.noteBegin p st = s := by
  simp [State.noteBegin, h]

theorem Step.plainSet.guarded_eq {st : Step} {lines levels : LineSet} {dwell : BitVec 16} (h : st.plainSet lines levels dwell) :
    st.guarded = false := by
  obtain ⟨haction, -, hfit, -⟩ := h
  simp [Step.guarded, haction, hfit]

theorem State.beginStep_set {s : State} {p : PlayerId} {st : Step} {lines levels : LineSet} {dwell : BitVec 16}
    (haction : st.action = .set lines levels dwell) (hdwell : dwell ≠ 0) (hnote : st.note = false) :
    s.beginStep p st = ((s.writeLines lines levels).rest p .stepping dwell.toNat, .rests) := by
  simp only [State.beginStep, State.noteBegin_silent hnote, haction, if_neg hdwell]

theorem State.beginStep_pulse {s : State} {p : PlayerId} {st : Step} {lines levels : LineSet} {width dwell : BitVec 16}
    (haction : st.action = .pulse lines levels width dwell) (hnote : st.note = false) :
    s.beginStep p st = ((s.writeLines lines levels).rest p .pulseWidth width.toNat, .rests) := by
  simp only [State.beginStep, State.noteBegin_silent hnote, haction]

theorem State.beginStep_wait {s : State} {p : PlayerId} {st : Step} {n : InputId} {timeout : BitVec 16}
    (haction : st.action = .waitEdge n timeout) (hnote : st.note = false) :
    s.beginStep p st = s.beginWait p st n timeout := by
  simp only [State.beginStep, State.noteBegin_silent hnote, haction]

theorem State.beginStep_align {s : State} {p : PlayerId} {st : Step} {offset : BitVec 16}
    (haction : st.action = .align offset) (hnote : st.note = false) :
    s.beginStep p st = if s.alignedAt offset then (s, .ended st) else (s.rest p .alignWait 0, .rests) := by
  simp only [State.beginStep, State.noteBegin_silent hnote, haction]

/-- The player rests on the step after its own. -/
theorem State.onNext_rest (s : State) (p : PlayerId) (activity : Activity) (remaining : Nat) :
    (s.onNext p).rest p activity remaining = s.setPlayer p { s.player p with
      index := (s.player p).index + 1, activity := activity, remaining := remaining, deferred := false, due := false } :=
  s.setPlayer_rest p _ activity remaining

/-- A chain that comes to a plain SET rests there. -/
theorem State.LeadsOn.chain_plainSet {s : State} {p : PlayerId} {st next : Step} {lines levels : LineSet} {dwell : BitVec 16}
    (h : s.LeadsOn p st next) (hplain : next.plainSet lines levels dwell) (fuel : Nat) :
    chain (fuel + 1) p (s.onNext p) = (s.writeLines lines levels).setPlayer p ((s.player p).goneOn dwell) := by
  have hadmit := State.admitNext_begins (s.onNext_index p) h.onNext_step hplain.guarded_eq
  obtain ⟨haction, hdwell, -, hnote⟩ := hplain
  rw [State.beginStep_set haction hdwell hnote] at hadmit
  rw [chain_rests hadmit]
  exact (s.writeLines lines levels).onNext_rest p .stepping dwell.toNat

/-- A step that leads on to a plain SET has gone on to it when it has ended (R51). -/
theorem State.LeadsOn.endStep_plainSet {s : State} {p : PlayerId} {st next : Step} {lines levels : LineSet} {dwell : BitVec 16}
    (h : s.LeadsOn p st next) (hplain : next.plainSet lines levels dwell) :
    s.endStep p st = (s.writeLines lines levels).setPlayer p ((s.player p).goneOn dwell) := by
  rw [h.endStep_eq]
  exact h.chain_plainSet hplain 1023

/-- A step that leads on to one at whose admission the player rests. -/
theorem State.LeadsOn.endStep_rests {s u : State} {p : PlayerId} {st next : Step} (h : s.LeadsOn p st next)
    (hadmit : (s.onNext p).admitStep p = (u, .rests)) : s.endStep p st = u := by
  rw [h.endStep_eq]
  exact State.admitChain_rests ((State.admitNext_later (s.onNext_index p)).trans hadmit)

/-- A step that leads on to one that ends at its admission, which leads on to a plain SET in turn (R50). -/
theorem State.LeadsOn.endStep_through {s u : State} {p : PlayerId} {st via next : Step} {lines levels : LineSet}
    {dwell : BitVec 16} (h : s.LeadsOn p st via) (hguard : via.guarded = false)
    (hbegin : (s.onNext p).beginStep p via = (u, .ended via)) (hleads : u.LeadsOn p via next)
    (hplain : next.plainSet lines levels dwell) :
    s.endStep p st = (u.writeLines lines levels).setPlayer p ((u.player p).goneOn dwell) := by
  have hadmit := (State.admitNext_begins (s.onNext_index p) h.onNext_step hguard).trans hbegin
  rw [h.endStep_eq]
  exact (chain_leadsOn hadmit hleads 1023).trans (hleads.chain_plainSet hplain 1022)

/-! ### Faults (R89) -/

/-- What a fault makes of the state before the Safe Unit hears of it. -/
def State.faulted (s : State) (p : PlayerId) (cause : FaultCause) : State :=
  let r := s.player p
  (((s.idleLines r.claimed).setPlayer p (r.faultedBy cause)).useDownOpt r.pendingList).produce
    (.fault p r.boundList r.index cause r.pendingList)

@[simp] theorem State.useDownOpt_params (s : State) (l : Option ListId) : (s.useDownOpt l).params = s.params := by
  cases l <;> rfl

@[simp] theorem State.useDownOpt_safe (s : State) (l : Option ListId) : (s.useDownOpt l).safe = s.safe := by
  cases l <;> rfl

@[simp] theorem State.faulted_params (s : State) (p : PlayerId) (cause : FaultCause) : (s.faulted p cause).params = s.params := by
  simp [State.faulted]

@[simp] theorem State.faulted_safe (s : State) (p : PlayerId) (cause : FaultCause) : (s.faulted p cause).safe = s.safe := by
  simp [State.faulted]

theorem State.faulted_lines (s : State) (p : PlayerId) (cause : FaultCause) :
    (s.faulted p cause).lines = (s.idleLines (s.player p).claimed).lines := by
  rw [State.faulted, State.produce_lines]
  cases (s.player p).pendingList <;> rfl

@[simp] theorem State.faulted_player (s : State) (p : PlayerId) (cause : FaultCause) :
    (s.faulted p cause).player p = (s.player p).faultedBy cause := by
  simp [State.faulted]

theorem State.faultPlayer_eq (s : State) (p : PlayerId) (cause : FaultCause) :
    s.faultPlayer p cause = if s.params.faultToSafe then (s.faulted p cause).escalate p else s.faulted p cause := by
  rw [← s.faulted_params p cause]
  rfl

theorem State.faultPlayer_eq_faulted {s : State} (h : s.params.faultToSafe = false) (p : PlayerId) (cause : FaultCause) :
    s.faultPlayer p cause = s.faulted p cause := by
  simp [State.faultPlayer_eq, h]

/-- A fault that follows a change of the player's own record. -/
theorem State.setPlayer_faulted (s : State) (p : PlayerId) (r : Player) (cause : FaultCause) : (s.setPlayer p r).faulted p cause =
    (((s.idleLines r.claimed).setPlayer p (r.faultedBy cause)).useDownOpt r.pendingList).produce
      (.fault p r.boundList r.index cause r.pendingList) := by
  simp only [State.faulted, State.setPlayer_player_same, State.idleLines, State.setPlayer_writeLines, State.setPlayer_setPlayer,
    State.setPlayer_params]

/-! ### Rows that end a step -/

/-- The state in which the step of a phase that is over ends: its count has reached 0. -/
def State.counted (s : State) (p : PlayerId) : State := s.setPlayer p { s.player p with remaining := 0, due := false }

@[simp] theorem State.counted_player (s : State) (p : PlayerId) :
    (s.counted p).player p = { s.player p with remaining := 0, due := false } := s.setPlayer_player_same p _

theorem State.counted_fixed (s : State) (p : PlayerId) : (s.counted p).fixed = s.fixed := s.setPlayer_fixed p _ rfl

theorem State.counted_setPlayer (s : State) (p : PlayerId) (r : Player) : (s.counted p).setPlayer p r = s.setPlayer p r :=
  s.setPlayer_setPlayer p _ r

theorem State.LeadsOn.counted {s : State} {p : PlayerId} {st next : Step} (h : s.LeadsOn p st next) :
    (s.counted p).LeadsOn p st next :=
  h.congr (State.steps_of_fixed (s.counted_fixed p)) (by simp) (by simp) (by simp) (by simp)

/-- Such a row is the end of the step, if that makes no safe entry. -/
theorem State.phaseOver.exec_endStep {s t : State} {c : Instr} {p : PlayerId} {o : Order} {st : Step} (h : s.phaseOver c p o st)
    (hend : (s.counted p).endStep p st = t) (hclear : t.safe.state = .clear) : exec c s = .next t.transmit := by
  have hphase : s.phaseEnd p = t := h.phaseEnd_eq.trans hend
  rw [← hphase]
  exact h.exec_eq (hphase ▸ hclear)

end Sys2Proof.Machine

/-! PROOFS. The end of a step admits the next one within the same event (O20). -/

namespace Sys2Proof.Machine

/-! ### The step after one whose phase is over -/

/-- The record of a player whose phase is over and whose step has led on to the next. -/
def Player.steppedOn (r : Player) : Player := { r with index := r.index + 1, remaining := 0, due := false }

/-- The state in which the step after the ended one is admitted. -/
def State.steppedOn (s : State) (p : PlayerId) : State := s.setPlayer p (s.player p).steppedOn

theorem State.counted_onNext (s : State) (p : PlayerId) : (s.counted p).onNext p = s.steppedOn p := by
  rw [State.onNext, s.counted_player]
  exact s.counted_setPlayer p _

@[simp] theorem State.steppedOn_player (s : State) (p : PlayerId) : (s.steppedOn p).player p = (s.player p).steppedOn :=
  s.setPlayer_player_same p _

theorem State.steppedOn_fixed (s : State) (p : PlayerId) : (s.steppedOn p).fixed = s.fixed := s.setPlayer_fixed p _ rfl

theorem State.steppedOn_setPlayer (s : State) (p : PlayerId) (r : Player) : (s.steppedOn p).setPlayer p r = s.setPlayer p r :=
  s.setPlayer_setPlayer p _ r

theorem State.steppedOn_rest (s : State) (p : PlayerId) (activity : Activity) (remaining : Nat) :
    (s.steppedOn p).rest p activity remaining = s.setPlayer p { s.player p with
      index := (s.player p).index + 1, activity := activity, remaining := remaining, deferred := false, due := false } :=
  s.setPlayer_rest p _ activity remaining

/-- The step after the ended one faults at its admission. -/
theorem State.steppedOn_faultPlayer {s : State} {p : PlayerId} {l : ListId} (hcalm : s.params.faultToSafe = false)
    (hlist : (s.player p).boundList = some l) (cause : FaultCause) : (s.steppedOn p).faultPlayer p cause =
      (((s.idleLines (s.player p).claimed).setPlayer p ((s.player p).steppedOn.faultedBy cause)).useDownOpt
        (s.player p).pendingList).produce
        (.fault p (some l) ((s.player p).index + 1) cause (s.player p).pendingList) := by
  rw [State.faultPlayer_eq_faulted (s := s.steppedOn p) hcalm, ← hlist]
  exact s.setPlayer_faulted p _ cause

/-- The row leads on to a plain SET, which begins (R47, R51). -/
theorem State.phaseOver.exec_plainSet {s : State} {c : Instr} {p : PlayerId} {o : Order} {st next : Step}
    {lines levels : LineSet} {dwell : BitVec 16} (h : s.phaseOver c p o st) (hclear : s.safe.state = .clear)
    (hleads : s.LeadsOn p st next) (hplain : next.plainSet lines levels dwell) :
    exec c s = .next ((s.writeLines lines levels).setPlayer p ((s.player p).goneOn dwell)).transmit := by
  refine h.exec_endStep ?_ hclear
  rw [hleads.counted.endStep_plainSet hplain, s.counted_player]
  exact (s.writeLines lines levels).counted_setPlayer p _

theorem State.LeadsOn.steppedOn_step {s : State} {p : PlayerId} {st next : Step} (h : s.LeadsOn p st next) :
    (s.steppedOn p).currentStep p = some next := s.counted_onNext p ▸ h.counted.onNext_step

/-- The row leads on to a step at whose admission the player rests. -/
theorem State.phaseOver.exec_admits {s t : State} {c : Instr} {p : PlayerId} {o : Order} {st next : Step}
    (h : s.phaseOver c p o st) (hleads : s.LeadsOn p st next) (hadmit : (s.steppedOn p).admitStep p = (t, .rests))
    (hclear : t.safe.state = .clear) : exec c s = .next t.transmit :=
  h.exec_endStep (hleads.counted.endStep_rests ((s.counted_onNext p).symm ▸ hadmit)) hclear

/-- The row leads on to a step without the guard at whose begin the player rests. -/
theorem State.phaseOver.exec_rests {s t : State} {c : Instr} {p : PlayerId} {o : Order} {st next : Step}
    (h : s.phaseOver c p o st) (hleads : s.LeadsOn p st next) (hguard : next.guarded = false)
    (hbegin : (s.steppedOn p).beginStep p next = (t, .rests)) (hclear : t.safe.state = .clear) : exec c s = .next t.transmit :=
  h.exec_admits hleads ((State.admitStep_begins hleads.steppedOn_step hguard).trans hbegin) hclear

/-- The row leads on to a step that ends at its begin, which leads on to a plain SET in turn. -/
theorem State.phaseOver.exec_through {s t : State} {c : Instr} {p : PlayerId} {o : Order} {st via : Step}
    {lines levels : LineSet} {dwell : BitVec 16} (h : s.phaseOver c p o st) (hleads : s.LeadsOn p st via)
    (hguard : via.guarded = false) (hbegin : (s.steppedOn p).beginStep p via = (t.steppedOn p, .ended via))
    (hfixed : t.fixed = s.fixed) (hplayer : t.player p = s.player p) (hclear : t.safe.state = .clear)
    (hstop : (s.player p).stopIndex ≠ some ((s.player p).index + 1)) (hhalt : via.halt = false)
    (hplain : s.plainAt p ((s.player p).index + 2) lines levels dwell) :
    exec c s = .next ((t.writeLines lines levels).setPlayer p ((s.player p).steppedOn.goneOn dwell)).transmit := by
  obtain ⟨l, next, hlist, hnext, hset⟩ := hplain
  have hon : (t.steppedOn p).LeadsOn p via next := by
    refine ⟨?_, hhalt, ?_, l, ?_, ?_⟩
    · simpa [hplayer, Player.steppedOn] using hstop
    · simpa [hplayer, Player.steppedOn] using hleads.hold
    · simpa [hplayer, Player.steppedOn] using hlist
    · rw [State.steps_of_fixed ((t.steppedOn_fixed p).trans hfixed), t.steppedOn_player, hplayer]
      exact hnext
  refine h.exec_endStep ?_ hclear
  rw [hleads.counted.endStep_through hguard ((s.counted_onNext p).symm ▸ hbegin) hon hset, t.steppedOn_player, hplayer]
  exact (t.writeLines lines levels).steppedOn_setPlayer p _

/-! ### The begin of a WAIT_EDGE (R53, R124) -/

theorem State.beginWait_waits {s : State} {n : InputId} (h : (s.input n).pending = false) (p : PlayerId) (st : Step)
    (timeout : BitVec 16) : s.beginWait p st n timeout = (s.rest p .edgeWait timeout.toNat, .rests) := by
  simp [State.beginWait, h]

theorem State.beginWait_fresh {s : State} {n : InputId} {st : Step} (h : (s.input n).pending = true) (hfresh : st.fresh = true)
    (p : PlayerId) (timeout : BitVec 16) :
    s.beginWait p st n timeout = ((s.clearLatch n).rest p .edgeWait timeout.toNat, .rests) := by
  simp [State.beginWait, h, hfresh]

theorem State.beginWait_ends {s : State} {n : InputId} {st : Step} (h : (s.input n).pending = true) (hfresh : st.fresh = false)
    (hstrict : (st.strict && (s.input n).doubled) = false) (p : PlayerId) (timeout : BitVec 16) :
    s.beginWait p st n timeout = (s.clearLatch n, .ended st) := by
  simp [State.beginWait, h, hfresh, hstrict]

theorem State.beginWait_doubled {s : State} {n : InputId} {st : Step} (h : (s.input n).pending = true)
    (hfresh : st.fresh = false) (hstrict : st.strict = true) (hdoubled : (s.input n).doubled = true) (p : PlayerId)
    (timeout : BitVec 16) : s.beginWait p st n timeout = ((s.clearLatch n).faultPlayer p .edgeDoubled, .rests) := by
  simp [State.beginWait, h, hfresh, hstrict, hdoubled]

/-- Settles O20: the step after the ended one is a plain SET, or a WAIT_EDGE in each of the four cases of its latch. -/
theorem stepEndMovesToTheNextStep : Obligations.StepEndMovesToTheNextStep := by
  refine ⟨fun s c p o l st next lines levels dwell h hclear hstop hhalt hhold hlist hnext haction hfit hnote hdwell => ?_,
    fun s c p o l st wait n timeout h hclear hstop hhalt hhold hlist hwait haction hnote => ?_⟩
  · exact h.exec_plainSet hclear ⟨hstop, hhalt, hhold, l, hlist, hnext⟩ ⟨haction, hdwell, hfit, hnote⟩
  · have hleads : s.LeadsOn p st wait := ⟨hstop, hhalt, hhold, l, hlist, hwait⟩
    have hguard : wait.guarded = false := by simp [Step.guarded, haction]
    have hbegin : (s.steppedOn p).beginStep p wait = (s.steppedOn p).beginWait p wait n timeout :=
      State.beginStep_wait haction hnote
    refine ⟨fun hpending => ?_, fun hpending hfresh => ?_,
      fun lines levels dwell hpending hfresh hstrict hstop' hhalt' hplain => ?_,
      fun hpending hfresh hstrict hdoubled hcalm => ?_⟩
    · rw [State.beginWait_waits (s := s.steppedOn p) hpending, s.steppedOn_rest] at hbegin
      exact h.exec_rests hleads hguard hbegin hclear
    · rw [State.beginWait_fresh (s := s.steppedOn p) hpending hfresh] at hbegin
      refine h.exec_rests hleads hguard (hbegin.trans ?_) hclear
      exact congrArg (·, Admission.rests) ((s.clearLatch n).steppedOn_rest p .edgeWait timeout.toNat)
    · rw [State.beginWait_ends (s := s.steppedOn p) hpending hfresh hstrict] at hbegin
      exact h.exec_through (t := s.clearLatch n) hleads hguard hbegin rfl rfl hclear hstop' hhalt' hplain
    · rw [State.beginWait_doubled (s := s.steppedOn p) hpending hfresh hstrict hdoubled] at hbegin
      refine h.exec_rests hleads hguard (hbegin.trans ?_) (by simpa using hclear)
      exact congrArg (·, Admission.rests) (State.steppedOn_faultPlayer (s := s.clearLatch n) hcalm hlist .edgeDoubled)

end Sys2Proof.Machine

/-! PROOFS. Trailing edges, timeouts that fault, and the safe entry that such a fault makes (O22). -/

namespace Sys2Proof.Machine

/-! ### Phases that end without ending their step (R52, R55) -/

/-- A PULSE with a dwell takes the opposite levels at its trailing edge, and dwells (R52). -/
theorem State.phaseEnd_pulse {s : State} {p : PlayerId} {st : Step} {lines levels : LineSet} {width dwell : BitVec 16}
    (hrun : (s.player p).state = .running) (hdue : (s.player p).due = true) (hact : (s.player p).activity = .pulseWidth)
    (hstep : s.currentStep p = some st) (haction : st.action = .pulse lines levels width dwell) (hdwell : dwell ≠ 0) :
    s.phaseEnd p = (s.writeLines lines (~~~levels)).setPlayer p
      { s.player p with activity := .stepping, remaining := dwell.toNat, deferred := false, due := false } := by
  simp only [State.phaseEnd, hrun, hdue, hact, hstep, haction, if_neg hdwell, State.trailingEdge]
  exact (s.writeLines lines (~~~levels)).setPlayer_rest p _ .stepping dwell.toNat

/-- A count that has reached 0 is forgotten in a fault. -/
theorem State.counted_faultPlayer (s : State) (p : PlayerId) (cause : FaultCause) :
    (s.counted p).faultPlayer p cause = s.faultPlayer p cause := by
  have hfaulted : (s.counted p).faulted p cause = s.faulted p cause := s.setPlayer_faulted p _ cause
  rw [State.faultPlayer_eq, State.faultPlayer_eq, hfaulted]
  rfl

theorem State.phaseEnd_wait {s : State} {p : PlayerId} {st : Step} (hrun : (s.player p).state = .running)
    (hdue : (s.player p).due = true) (hact : (s.player p).activity = .edgeWait) (hstep : s.currentStep p = some st) :
    s.phaseEnd p = (s.counted p).expire p st := by
  simp only [State.phaseEnd, State.counted, hrun, hdue, hact, hstep]

/-- A WAIT_EDGE with TIMEOUT_FAULT faults at its timeout (R55). -/
theorem State.phaseEnd_timeout {s : State} {p : PlayerId} {st : Step} (hrun : (s.player p).state = .running)
    (hdue : (s.player p).due = true) (hact : (s.player p).activity = .edgeWait) (hstep : s.currentStep p = some st)
    (hfault : st.timeoutFault = true) : s.phaseEnd p = s.faultPlayer p .waitTimeout := by
  rw [State.phaseEnd_wait hrun hdue hact hstep, State.expire, if_pos hfault, s.counted_faultPlayer]

/-! ### A fault tells the Safe Unit (R132) -/

theorem State.changeSafe_safe (s : State) (state : SafeState) (causes : Causes) (players : BitVec 6) :
    (s.changeSafe state causes players).safe =
      { s.safe with state := state, causes := causes, faultPlayers := players, lastChange := s.stamp } :=
  State.produce_safe _ _

/-- In CLEAR it is an entry. -/
theorem State.escalate_enters {s : State} (h : s.safe.state = .clear) (p : PlayerId) :
    s.escalate p = s.changeSafe .latched { Causes.empty with fault := true } (1#6 <<< p.val) := by
  simp [State.escalate, State.safeClear, h]

/-- Outside CLEAR the cause and the player join what is there. -/
theorem State.escalate_joins {s : State} (h : s.safe.state ≠ .clear) (p : PlayerId) :
    (s.escalate p).safe.state = s.safe.state ∧ (s.escalate p).safe.causes = { s.safe.causes with fault := true } ∧
      (s.escalate p).safe.faultPlayers = s.safe.faultPlayers ||| (1#6 <<< p.val) := by
  have hclear : s.safeClear = false := Bool.eq_false_iff.mpr fun hc => h (s.safeClear_iff.mp hc)
  by_cases hfault : s.safe.causes.fault = true
  · have hcauses : ({ s.safe.causes with fault := true } : Causes) = s.safe.causes := by rw [← hfault]
    rw [hcauses]
    by_cases hin : s.safe.faultPlayers ||| (1#6 <<< p.val) = s.safe.faultPlayers
    · simp [State.escalate, hclear, hfault, hin]
    · simp [State.escalate, hclear, hfault, hin, State.safeNotice]
  · simp [State.escalate, hclear, hfault, State.changeSafe_safe]

@[simp] theorem State.escalate_player (s : State) (p p' : PlayerId) : (s.escalate p).player p' = s.player p' := by
  rw [s.escalate_frame]; rfl

@[simp] theorem State.faultPlayer_player (s : State) (p : PlayerId) (cause : FaultCause) :
    (s.faultPlayer p cause).player p = (s.player p).faultedBy cause := by
  rw [State.faultPlayer_eq]
  split <;> simp

theorem State.faultPlayer_escalates {s : State} (h : s.params.faultToSafe = true) (p : PlayerId) (cause : FaultCause) :
    s.faultPlayer p cause = (s.faulted p cause).escalate p := by
  simp [State.faultPlayer_eq, h]

/-- A fault made in CLEAR with FAULT_TO_SAFE is an entry. -/
theorem State.faultPlayer_enters {s : State} (h : s.params.faultToSafe = true) (hclear : s.safe.state = .clear) (p : PlayerId)
    (cause : FaultCause) : s.faultPlayer p cause =
      (s.faulted p cause).changeSafe .latched { Causes.empty with fault := true } (1#6 <<< p.val) := by
  rw [State.faultPlayer_escalates h]
  exact State.escalate_enters ((congrArg Safe.state (s.faulted_safe p cause)).trans hclear) p

/-! ### The players in the order of a row -/

theorem addActor_nodup {acc : List Actor} (h : acc.Nodup) (a : Actor) : (addActor acc a).Nodup := by
  unfold addActor
  split
  case isTrue => exact h
  case isFalse hnew =>
    have hother : ∀ b ∈ acc, b ≠ a := fun b hb e => hnew (e ▸ hb)
    exact List.nodup_append.mpr ⟨h, List.nodup_singleton a, by simpa using hother⟩

theorem foldl_addActor_nodup : ∀ (l acc : List Actor), acc.Nodup → (l.foldl addActor acc).Nodup
  | [], _, h => h
  | a :: l, _, h => foldl_addActor_nodup l _ (addActor_nodup h a)

/-- Every agent acts once. -/
theorem actorsOf_nodup (o : Order) : (actorsOf o).Nodup := foldl_addActor_nodup _ _ List.nodup_nil

theorem playersOf_nodup (o : Order) : (playersOf o).Nodup := by
  refine List.Nodup.filterMap (fun a a' p ha ha' => ?_) (actorsOf_nodup o)
  cases a <;> cases a' <;> simp_all [actorPlayer]

theorem laterPlayers_none {o : Order} (h : o.late = []) (p : PlayerId) : laterPlayers o p = [] := by
  simp [laterPlayers, h]

theorem laterPlayers_one {o : Order} {p p' : PlayerId} (h : o.late = [p']) (hne : p' ≠ p) :
    laterPlayers o p = [.player p'] := by
  have honly : ∀ q : PlayerId, (decide (q ∈ o.late) && decide (q ≠ p)) = (q == p') := fun q => by
    by_cases hq : q = p' <;> simp [h, hq, hne]
  have hcount : (playersOf o).count p' = 1 := List.count_eq_one_of_mem (playersOf_nodup o) (mem_playersOf o p')
  simp only [laterPlayers, honly, List.filter_beq, hcount, List.replicate_one, List.map_cons, List.map_nil]

/-! ### Notices alone, apart from the rest of the state -/

/-- What the production of a notice reads stands alike in both states. -/
def State.noticesAlike (s t : State) : Prop :=
  t.notices = s.notices ∧ t.boot = s.boot ∧ t.params = s.params ∧ t.stamp = s.stamp

theorem State.noticesAlike.produce {s t : State} (h : s.noticesAlike t) (body : NoticeBody) :
    (s.produce body).noticesAlike (t.produce body) := by
  obtain ⟨hnotices, hboot, hparams, hstamp⟩ := h
  have hst : ∀ u : State, (u.produce body).stamp = u.stamp := fun u => by simp [State.stamp]
  refine ⟨?_, by simpa using hboot, by simpa using hparams, by rw [hst, hst, hstamp]⟩
  have hroom : t.noticeRoom body = s.noticeRoom body := by simp only [State.noticeRoom, hboot]
  have hadmits : t.admits body = s.admits body := by simp only [State.admits, hparams]
  unfold State.produce
  rw [hroom, hadmits, hnotices, hstamp]
  split
  · split
    · rfl
    · split <;> rfl
  · exact hnotices

theorem State.noticesAlike.foldl_produce {α : Type} {s t : State} (h : s.noticesAlike t) (body : α → NoticeBody) (l : List α) :
    (l.foldl (fun u a => u.produce (body a)) s).noticesAlike (l.foldl (fun u a => u.produce (body a)) t) := by
  induction l generalizing s t with
  | nil => exact h
  | cons a l ih => exact ih (h.produce (body a))

theorem State.noticesAlike.trans {s t u : State} (h1 : s.noticesAlike t) (h2 : t.noticesAlike u) : s.noticesAlike u := by
  obtain ⟨hnotices1, hboot1, hparams1, hstamp1⟩ := h1
  obtain ⟨hnotices2, hboot2, hparams2, hstamp2⟩ := h2
  exact ⟨hnotices2.trans hnotices1, hboot2.trans hboot1, hparams2.trans hparams1, hstamp2.trans hstamp1⟩

/-- A change of the safe record says no more than SAFE. -/
theorem State.changeSafe_noticesAlike (s : State) (state : SafeState) (causes : Causes) (players : BitVec 6) :
    (s.produce (.safe state causes players)).noticesAlike (s.changeSafe state causes players) :=
  State.noticesAlike.produce (s := s) (t := { s with safe := { s.safe with
    state := state, causes := causes, faultPlayers := players, lastChange := s.stamp } }) ⟨rfl, rfl, rfl, rfl⟩ _

/-- A fault says no more than FAULT. -/
theorem State.faulted_noticesAlike (s : State) (p : PlayerId) (cause : FaultCause) :
    (s.produce (.fault p (s.player p).boundList (s.player p).index cause (s.player p).pendingList)).noticesAlike
      (s.faulted p cause) := by
  refine State.noticesAlike.produce ?_ _
  cases (s.player p).pendingList <;> exact ⟨rfl, rfl, rfl, rfl⟩

/-! ### The reach of an entry (R133) -/

/-- Players that the order lets act first are left out. -/
theorem State.reachPlayers_exempt (s : State) (players exempt : List PlayerId) :
    s.reachPlayers players exempt = s.reachPlayers (players.filter fun p => decide (p ∉ exempt)) [] := by
  have hfold : ∀ (l : List PlayerId) (u : State), l.foldl (fun u p => if p ∈ exempt then u else u.enterPlayer p) u =
      (l.filter fun p => decide (p ∉ exempt)).foldl (fun u p => if p ∈ ([] : List PlayerId) then u else u.enterPlayer p) u := by
    intro l
    induction l with
    | nil => intro u; rfl
    | cons p ps ih =>
      intro u
      by_cases hp : p ∈ exempt <;> simp [hp, ih]
  unfold State.reachPlayers
  rw [hfold]

/-- The notices of an entry: one START_CANCELLED for each ARMED player, in the order of the players. -/
theorem foldl_enterPlayer_noticesAlike : ∀ (players : List PlayerId), players.Nodup → ∀ u v : State, v.noticesAlike u →
    ((players.filter fun p => decide ((u.player p).state = .armed)).foldl (fun w p => w.produce (.startCancelled p)) v).noticesAlike
      (players.foldl State.enterPlayer u)
  | [], _, _, _, h => h
  | p :: ps, hnodup, u, v, h => by
    obtain ⟨hp, hps⟩ := List.nodup_cons.mp hnodup
    have hrest : (ps.filter fun q => decide ((u.player q).state = .armed)) =
        ps.filter fun q => decide (((u.enterPlayer p).player q).state = .armed) := by
      refine List.filter_congr fun q hq => ?_
      rw [(u.enterPlayer_acts p).others q fun e => hp (e ▸ hq)]
    have ih := foldl_enterPlayer_noticesAlike ps hps (u.enterPlayer p)
    rw [List.foldl_cons]
    by_cases harmed : (u.player p).state = .armed
    · rw [List.filter_cons_of_pos (by simpa using harmed), List.foldl_cons, hrest]
      refine ih _ ?_
      simp only [State.enterPlayer, harmed]
      exact State.noticesAlike.produce (t := u.setPlayer p _) h _
    · rw [List.filter_cons_of_neg (by simpa using harmed), hrest]
      refine ih _ ?_
      cases hstate : (u.player p).state with
      | armed => exact absurd hstate harmed
      | idle | bound | running | held | faulted => simp only [State.enterPlayer, hstate]; exact h

theorem State.reachPlayers_notices {s : State} (h : s.safe.state ≠ .clear) {players : List PlayerId} (hnodup : players.Nodup) :
    (s.reachPlayers players []).notices =
      ((players.filter fun p => decide ((s.player p).state = .armed)).foldl
        (fun u p => u.produce (.startCancelled p)) s).notices := by
  have hclear : s.safeClear = false := Bool.eq_false_iff.mpr fun hc => h (s.safeClear_iff.mp hc)
  simp only [State.reachPlayers, hclear, List.not_mem_nil, if_false, Bool.false_eq_true]
  exact (foldl_enterPlayer_noticesAlike players hnodup s s ⟨rfl, rfl, rfl, rfl⟩).1

/-! ### The row of a phase end that makes an entry (R132, R133) -/

/-- With nobody late in the order the entry reaches every player after the phase end. -/
theorem State.phaseRow_alone {s : State} {p : PlayerId} {o : Order} {activity : Activity} {ofRow : StepAction → Bool}
    (hlive : s.phase = .live) (hdue : s.dueOn p activity ofRow = true) (hlate : o.late = []) :
    s.phaseRow p o activity ofRow = ((s.phaseEnd p).reachPlayers (playersOf o) []).transmit := by
  rw [State.phaseRow, State.live_live hlive, if_pos hdue, laterPlayers_none hlate]
  simp only [runActors, true_or, if_true, List.filterMap_nil, List.filter_nil]

/-- With one late player the entry reaches the others first, and all after that player's own phase end. -/
theorem State.phaseRow_late {s : State} {p p' : PlayerId} {o : Order} {activity : Activity} {ofRow : StepAction → Bool}
    (hlive : s.phase = .live) (hdue : s.dueOn p activity ofRow = true) (hlate : o.late = [p']) (hne : p' ≠ p)
    (hentered : ((s.phaseEnd p).reachPlayers (playersOf o) [p']).safeClear = false) :
    s.phaseRow p o activity ofRow =
      (((((s.phaseEnd p).reachPlayers (playersOf o) [p']).phaseEnd p').reachPlayers (playersOf o) [])).transmit := by
  rw [State.phaseRow, State.live_live hlive, if_pos hdue, laterPlayers_one hlate hne]
  simp [runActors, actorPlayer, hlate, hentered]

theorem State.dueOn_of {s : State} {p : PlayerId} {st : Step} {activity : Activity} {ofRow : StepAction → Bool}
    (hrun : (s.player p).state = .running) (hdue : (s.player p).due = true) (hact : (s.player p).activity = activity)
    (hstep : s.currentStep p = some st) (hrow : ofRow st.action = true) : s.dueOn p activity ofRow = true := by
  simp [State.dueOn, hrun, hdue, hact, hstep, hrow]

/-! ### What an entry by a fault leaves -/

theorem State.reachPlayers_safe (s : State) (players : List PlayerId) : (s.reachPlayers players []).safe = s.safe := by
  by_cases h : s.safe.state = .clear
  · rw [State.reachPlayers_clear h]
  · rw [(State.reachPlayers_all h players).1]

theorem State.reachPlayers_lines (s : State) (players : List PlayerId) : (s.reachPlayers players []).lines = s.lines := by
  by_cases h : s.safe.state = .clear
  · rw [State.reachPlayers_clear h]
  · rw [(State.reachPlayers_all h players).1]

/-- A faulted player is not frozen. -/
theorem Player.faultedBy_frozen (r : Player) (cause : FaultCause) : (r.faultedBy cause).frozen = r.faultedBy cause := rfl

theorem State.faultPlayer_player_ne (s : State) {p p' : PlayerId} (h : p' ≠ p) (cause : FaultCause) :
    (s.faultPlayer p cause).player p' = s.player p' := (s.faultPlayer_acts p cause).others p' h

/-- The entry of a fault: its record, its lines, the other players and the notices (R132, R133). -/
theorem State.faultPlayer_entered {s : State} (hsafe : s.params.faultToSafe = true) (hclear : s.safe.state = .clear)
    (p : PlayerId) (o : Order) (cause : FaultCause) :
    let r := s.player p
    let causes : Causes := { Causes.empty with fault := true }
    let t := (s.faultPlayer p cause).reachPlayers (playersOf o) []
    t.safe = { s.safe with state := .latched, causes := causes, faultPlayers := 1#6 <<< p.val, lastChange := s.stamp } ∧
      t.player p = r.faultedBy cause ∧ (∀ p', p' ≠ p → t.player p' = (s.player p').frozen) ∧
      t.lines = (s.idleLines r.claimed).lines ∧
      t.notices = (((playersOf o).filter fun p' => decide (p' ≠ p) && decide ((s.player p').state = .armed)).foldl
        (fun u p' => u.produce (.startCancelled p'))
        ((s.produce (.fault p r.boundList r.index cause r.pendingList)).produce
          (.safe .latched causes (1#6 <<< p.val)))).notices := by
  intro r causes t
  have hstamp : (s.faulted p cause).stamp = s.stamp :=
    State.stamp_of_clock (by simp [State.faulted])
  have hentry := State.faultPlayer_enters hsafe hclear p cause
  have hrecord : (s.faultPlayer p cause).safe =
      { s.safe with state := .latched, causes := causes, faultPlayers := 1#6 <<< p.val, lastChange := s.stamp } := by
    rw [hentry, State.changeSafe_safe, hstamp, s.faulted_safe]
  have hlatched : (s.faultPlayer p cause).safe.state ≠ .clear := by rw [hrecord]; nofun
  have hreached : ∀ p', t.player p' = ((s.faultPlayer p cause).player p').frozen := fun p' =>
    State.settle_player o hlatched p'
  refine ⟨(State.reachPlayers_safe _ _).trans hrecord, ?_, fun p' hne => ?_, ?_, ?_⟩
  · rw [hreached, s.faultPlayer_player, Player.faultedBy_frozen]
  · rw [hreached, s.faultPlayer_player_ne hne]
  · have hlines : (s.faultPlayer p cause).lines = (s.faulted p cause).lines := by rw [hentry, State.changeSafe_frame]
    exact (State.reachPlayers_lines _ _).trans (hlines.trans (s.faulted_lines p cause))
  · have harmed : ∀ p' : PlayerId, decide (((s.faultPlayer p cause).player p').state = .armed) =
        (decide (p' ≠ p) && decide ((s.player p').state = .armed)) := fun p' => by
      by_cases hne : p' = p
      · subst hne
        simp [Player.faultedBy]
      · simp [s.faultPlayer_player_ne hne, hne]
    rw [State.reachPlayers_notices hlatched (playersOf_nodup o)]
    simp only [harmed]
    rw [hentry]
    have halike := ((s.faulted_noticesAlike p cause).produce (.safe .latched causes (1#6 <<< p.val))).trans
      ((s.faulted p cause).changeSafe_noticesAlike .latched causes (1#6 <<< p.val))
    exact (halike.foldl_produce NoticeBody.startCancelled _).1

/-- The entry of one player's fault, joined by the fault of a second player that the order lets act first (R132; log 6). -/
theorem State.faultPlayer_joined {s : State} (hsafe : s.params.faultToSafe = true) (hclear : s.safe.state = .clear)
    {p p' : PlayerId} (hne : p' ≠ p) (o : Order) (cause cause' : FaultCause) :
    let u := (s.faultPlayer p cause).reachPlayers (playersOf o) [p']
    let t := (u.faultPlayer p' cause').reachPlayers (playersOf o) []
    u.safe.state ≠ .clear ∧ u.player p' = s.player p' ∧ u.fixed = s.fixed ∧
      t.player p = (s.player p).faultedBy cause ∧ t.player p' = (s.player p').faultedBy cause' ∧ t.safe.state = .latched ∧
      t.safe.faultPlayers = (1#6 <<< p.val) ||| (1#6 <<< p'.val) ∧
      ∀ p'', p'' ≠ p → p'' ≠ p' → t.player p'' = (s.player p'').frozen := by
  intro u t
  have hrecord : (s.faultPlayer p cause).safe.state = .latched ∧ (s.faultPlayer p cause).safe.faultPlayers = 1#6 <<< p.val := by
    rw [State.faultPlayer_enters hsafe hclear, State.changeSafe_safe]
    exact ⟨rfl, rfl⟩
  obtain ⟨hlatched, hplayers⟩ := hrecord
  have hu : u = (s.faultPlayer p cause).reachPlayers ((playersOf o).filter fun q => decide (q ∉ [p'])) [] :=
    State.reachPlayers_exempt _ _ _
  have husafe : u.safe = (s.faultPlayer p cause).safe := by rw [hu, State.reachPlayers_safe]
  have huplayer : ∀ q, u.player q = if q ≠ p' then ((s.faultPlayer p cause).player q).frozen else
      (s.faultPlayer p cause).player q := fun q => by
    rw [hu, (State.reachPlayers_all (by rw [hlatched]; nofun) _).2]
    simp [mem_playersOf]
  have hufixed : u.fixed = s.fixed := (State.reachPlayers_fixed _ _ _).trans (s.faultPlayer_fixed p cause)
  have huclear : u.safe.state ≠ .clear := by rw [husafe, hlatched]; nofun
  have huparams : u.params.faultToSafe = true :=
    (congrArg (fun f : Fixed => f.params.faultToSafe) hufixed).trans hsafe
  obtain ⟨hstate, -, hjoined⟩ := State.escalate_joins (s := u.faulted p' cause') (by rw [u.faulted_safe]; exact huclear) p'
  rw [← State.faultPlayer_escalates huparams, u.faulted_safe, husafe] at hstate hjoined
  have htclear : (u.faultPlayer p' cause').safe.state ≠ .clear := by rw [hstate, hlatched]; nofun
  have htplayer : ∀ q, t.player q = ((u.faultPlayer p' cause').player q).frozen := fun q => State.settle_player o htclear q
  have htsafe : t.safe = (u.faultPlayer p' cause').safe := State.reachPlayers_safe _ _
  have hother : ∀ q, q ≠ p' → t.player q = ((s.faultPlayer p cause).player q).frozen := fun q hq => by
    rw [htplayer, u.faultPlayer_player_ne hq, huplayer, if_pos hq, Player.frozen_frozen]
  have hup' : u.player p' = s.player p' := by
    rw [huplayer, if_neg (not_not_intro rfl), s.faultPlayer_player_ne hne]
  refine ⟨huclear, hup', hufixed, ?_, ?_, ?_, ?_, fun q hqp hqp' => ?_⟩
  · rw [hother p hne.symm, s.faultPlayer_player, Player.faultedBy_frozen]
  · rw [htplayer, u.faultPlayer_player, Player.faultedBy_frozen, hup']
  · rw [htsafe, hstate, hlatched]
  · rw [htsafe, hjoined, hplayers]
  · rw [hother q hqp', s.faultPlayer_player_ne hqp]

/-- Settles O22: the trailing edge of a PULSE, a timeout that faults without and with an entry, and a fault outside CLEAR. -/
theorem trailingEdgeWritesAndTimeoutFaults : Obligations.TrailingEdgeWritesAndTimeoutFaults := by
  refine ⟨fun s p o st lines levels width dwell hlive hrun hdue hact hstep haction hdwell hclear => ?_,
    fun s p o st hlive hrun hdue hact hstep hwait hfault hclear hcalm => ?_,
    fun s p o st hlive hrun hdue hact hstep hwait hfault hclear hsafe => ?_,
    fun s p hunsafe => State.escalate_joins hunsafe p⟩
  · have hend := State.phaseEnd_pulse hrun hdue hact hstep haction hdwell
    have hon : s.dueOn p .pulseWidth isPulse = true := State.dueOn_of hrun hdue hact hstep (by rw [haction]; rfl)
    have hrow := State.phaseRow_clear o hlive hon (by rw [hend]; exact hclear)
    rw [hend] at hrow
    exact congrArg Host.Outcome.next hrow
  · have hend := State.phaseEnd_timeout hrun hdue hact hstep hfault
    rw [State.faultPlayer_eq_faulted hcalm] at hend
    have hon : s.dueOn p .edgeWait isWait = true := State.dueOn_of hrun hdue hact hstep hwait
    have hrow := State.phaseRow_clear o hlive hon (by rw [hend, s.faulted_safe]; exact hclear)
    rw [hend] at hrow
    exact congrArg Host.Outcome.next hrow
  · have hend := State.phaseEnd_timeout hrun hdue hact hstep hfault
    have hon : s.dueOn p .edgeWait isWait = true := State.dueOn_of hrun hdue hact hstep hwait
    refine ⟨fun hlate => ?_, fun p' st' hne hlate hrun' hdue' hact' hstep' hwait' hfault' => ?_⟩
    · have hrow := State.phaseRow_alone hlive hon hlate
      rw [hend] at hrow
      exact ⟨_, congrArg Host.Outcome.next hrow, State.faultPlayer_entered hsafe hclear p o .waitTimeout⟩
    · obtain ⟨hentered, hrecord, hfixed, hafter⟩ := State.faultPlayer_joined hsafe hclear hne o .waitTimeout .waitTimeout
      have hrow := State.phaseRow_late hlive hon hlate hne (by
        rw [hend]
        exact Bool.eq_false_iff.mpr fun hc => hentered ((State.safeClear_iff _).mp hc))
      rw [hend] at hrow
      rw [State.phaseEnd_timeout (by rw [hrecord]; exact hrun') (by rw [hrecord]; exact hdue') (by rw [hrecord]; exact hact')
        ((State.currentStep_congr (State.steps_of_fixed hfixed) (by rw [hrecord]) (by rw [hrecord])).trans hstep') hfault'] at hrow
      refine ⟨_, congrArg Host.Outcome.next hrow, ?_⟩
      simp only [State.transmit_player, State.transmit_safe]
      exact hafter

end Sys2Proof.Machine

/-! PROOFS. A player's turn in an event of the Timebase: where FAULT_TO_SAFE is off, what the other agents do in the same event does not
reach it (R25, R28, R60, R133). -/

namespace Sys2Proof.Machine

/-! ### Without FAULT_TO_SAFE the safe record stays (R132) -/

/-- Where FAULT_TO_SAFE is off, it stays off and the safe record stays. -/
def Calm (s t : State) : Prop := s.params.faultToSafe = false → t.params.faultToSafe = false ∧ t.safe = s.safe

theorem Calm.refl (s : State) : Calm s s := fun h => ⟨h, rfl⟩

theorem Calm.trans {s t u : State} (h1 : Calm s t) (h2 : Calm t u) : Calm s u := fun h => by
  obtain ⟨hoff, hsafe⟩ := h1 h
  obtain ⟨hoff', hsafe'⟩ := h2 hoff
  exact ⟨hoff', hsafe'.trans hsafe⟩

/-- `Calm.trans` with the later operation first, which fixes the state between. -/
theorem Calm.after {s t u : State} (h2 : Calm t u) (h1 : Calm s t) : Calm s u := h1.trans h2

theorem Calm.same {s t : State} (hsafe : t.safe = s.safe) (hclock : t.clock = s.clock) : Calm s t := fun h =>
  ⟨by rw [State.params_of_clock hclock]; exact h, hsafe⟩

theorem State.setPlayer_calm (s : State) (p : PlayerId) (r : Player) : Calm s (s.setPlayer p r) := .same rfl rfl

theorem State.produce_calm (s : State) (body : NoticeBody) : Calm s (s.produce body) := .same (by simp) (by simp)

theorem State.rest_calm (s : State) (p : PlayerId) (a : Activity) (n : Nat) : Calm s (s.rest p a n) := s.setPlayer_calm p _

theorem State.clearLatch_calm (s : State) (n : InputId) : Calm s (s.clearLatch n) := .same rfl rfl

theorem State.writeLines_calm (s : State) (lines levels : LineSet) : Calm s (s.writeLines lines levels) := .same rfl rfl

theorem State.noteBegin_calm (s : State) (p : PlayerId) (st : Step) : Calm s (s.noteBegin p st) :=
  .same (by rw [s.noteBegin_frame]) (s.noteBegin_clock p st)

theorem State.trailingEdge_calm (s : State) (st : Step) : Calm s (s.trailingEdge st) :=
  .same (by rw [s.trailingEdge_frame]) (s.trailingEdge_clock st)

theorem State.commitRecord_calm (s : State) (p : PlayerId) (new : ListId) (point : CommitPoint) :
    Calm s (s.commitRecord p new point) := .same (by simp [State.commitRecord]) (s.commitRecord_clock p new point)

theorem State.commitAtPassEnd_calm (s : State) (p : PlayerId) : Calm s (s.commitAtPassEnd p) := by
  unfold State.commitAtPassEnd
  split
  · exact s.commitRecord_calm p _ _
  · exact .refl s

theorem State.faultPlayer_calm (s : State) (p : PlayerId) (cause : FaultCause) : Calm s (s.faultPlayer p cause) := fun h => by
  rw [State.faultPlayer_eq_faulted h, s.faulted_params, s.faulted_safe]
  exact ⟨h, rfl⟩

/-! ### The end of a step -/

theorem State.endRun_calm (s : State) (p : PlayerId) (cause : RunEndCause) : Calm s (s.endRun p cause) :=
  .same (by simp [State.endRun]) (s.endRun_clock p cause)

theorem State.holdQuestion_calm (s : State) (p : PlayerId) (st : Step) : Calm s (s.holdQuestion p st).1 := by
  unfold State.holdQuestion
  simp only
  split
  · exact .after (State.produce_calm _ _) (s.setPlayer_calm p _)
  · exact .refl s

theorem State.passEnd_calm (s : State) (p : PlayerId) (st : Step) : Calm s (s.passEnd p st).1 := by
  have hcount : ∀ body r, Calm s ((s.produce body).setPlayer p r) := fun body r =>
    (s.produce_calm body).trans (State.setPlayer_calm _ p r)
  unfold State.passEnd
  simp only
  split
  · exact ((hcount _ _).trans (State.commitRecord_calm _ p _ _)).trans (State.holdQuestion_calm _ p st)
  · split
    · exact ((hcount _ _).trans (State.setPlayer_calm _ p _)).trans
        ((State.produce_calm _ _).trans (State.holdQuestion_calm _ p st))
    · split
      · exact ((hcount _ _).trans (State.setPlayer_calm _ p _)).trans (State.holdQuestion_calm _ p st)
      · exact (hcount _ _).trans (State.endRun_calm _ p _)

theorem State.resolve_calm (s : State) (p : PlayerId) (st : Step) : Calm s (s.resolve p st).1 := by
  unfold State.resolve
  simp only
  split
  · exact (s.endRun_calm p _).trans (State.commitAtPassEnd_calm _ p)
  · split
    · exact s.passEnd_calm p st
    · exact (s.setPlayer_calm p _).trans (State.holdQuestion_calm _ p st)

/-! ### Admissions -/

theorem State.beginWait_calm (s : State) (p : PlayerId) (st : Step) (n : InputId) (timeout : BitVec 16) :
    Calm s (s.beginWait p st n timeout).1 := by
  unfold State.beginWait
  simp only
  split
  · split
    · exact (s.clearLatch_calm n).trans (State.rest_calm _ p _ _)
    · split
      · exact (s.clearLatch_calm n).trans (State.faultPlayer_calm _ p _)
      · exact s.clearLatch_calm n
  · exact s.rest_calm p _ _

theorem State.beginStep_calm (s : State) (p : PlayerId) (st : Step) : Calm s (s.beginStep p st).1 := by
  refine (s.noteBegin_calm p st).trans ?_
  unfold State.beginStep
  simp only
  split
  · split
    · exact State.writeLines_calm _ _ _
    · exact (State.writeLines_calm _ _ _).trans (State.rest_calm _ p _ _)
  · exact (State.writeLines_calm _ _ _).trans (State.rest_calm _ p _ _)
  · exact State.beginWait_calm _ p st _ _
  · split
    · exact .refl _
    · exact State.rest_calm _ p _ _

theorem State.admitStep_calm (s : State) (p : PlayerId) : Calm s (s.admitStep p).1 := by
  unfold State.admitStep
  split
  · exact .refl s
  · split
    · split
      · exact s.faultPlayer_calm p _
      · exact s.beginStep_calm p _
      · exact s.rest_calm p _ _
    · exact s.beginStep_calm p _

theorem State.admitNext_calm (s : State) (p : PlayerId) : Calm s (s.admitNext p).1 := by
  unfold State.admitNext
  simp only
  split
  · split
    · exact s.setPlayer_calm p _
    · exact (s.setPlayer_calm p _).trans (State.admitStep_calm _ p)
  · exact s.admitStep_calm p

theorem chain_calm : ∀ (fuel : Nat) (p : PlayerId) (s : State), Calm s (chain fuel p s)
  | 0, _, s => .refl s
  | fuel + 1, p, s => by
    have hadmit := s.admitNext_calm p
    unfold chain
    split
    case h_1 s1 h => rw [h] at hadmit; exact hadmit
    case h_2 s1 st h =>
      rw [h] at hadmit
      have hres := s1.resolve_calm p st
      split
      case h_1 s2 h2 => rw [h2] at hres; exact (hadmit.trans hres).trans (chain_calm fuel p s2)
      case h_2 s2 h2 => rw [h2] at hres; exact hadmit.trans hres

theorem State.admitChain_calm (s : State) (p : PlayerId) : Calm s (s.admitChain p) := chain_calm _ p s

theorem State.endStep_calm (s : State) (p : PlayerId) (st : Step) : Calm s (s.endStep p st) := by
  have hres := s.resolve_calm p st
  unfold State.endStep
  split
  case h_1 s1 h => rw [h] at hres; exact hres.trans (s1.admitChain_calm p)
  case h_2 s1 h => rw [h] at hres; exact hres

theorem State.follow_calm (a : State × Admission) (p : PlayerId) : Calm a.1 (State.follow a p) := by
  unfold State.follow
  split
  · exact .refl _
  · exact State.endStep_calm _ p _

theorem State.beginRun_calm (s : State) (p : PlayerId) (cause : StartCause) : Calm s (s.beginRun p cause) :=
  ((s.setPlayer_calm p _).trans (State.produce_calm _ _)).trans (State.admitChain_calm _ p)

/-! ### Events of the Timebase -/

theorem State.expire_calm (s : State) (p : PlayerId) (st : Step) : Calm s (s.expire p st) := by
  unfold State.expire
  split
  · exact s.faultPlayer_calm p _
  · exact s.endStep_calm p st

theorem State.phaseEnd_calm (s : State) (p : PlayerId) : Calm s (s.phaseEnd p) := by
  unfold State.phaseEnd
  simp only
  split
  · split
    · exact .after (State.endStep_calm _ p _) (s.setPlayer_calm p _)
    · split
      · exact .after (State.endStep_calm _ p _) (.after (State.trailingEdge_calm _ _) (s.setPlayer_calm p _))
      · exact .after (State.rest_calm _ p _ _) (.after (State.trailingEdge_calm _ _) (s.setPlayer_calm p _))
    · exact .after (State.expire_calm _ p _) (s.setPlayer_calm p _)
    · exact s.setPlayer_calm p _
  · exact .refl s

theorem State.abandonStep_calm (s : State) (p : PlayerId) : Calm s (s.abandonStep p) := by
  unfold State.abandonStep
  simp only
  refine .after (State.setPlayer_calm _ p _) ?_
  split
  · exact s.trailingEdge_calm _
  · exact .refl s

theorem State.commitSuper_calm (s : State) (p : PlayerId) : Calm s (s.commitSuper p) := by
  unfold State.commitSuper
  split
  case h_1 new h =>
    have hcommit := (s.abandonStep_calm p).trans (State.commitRecord_calm _ p new .superframe)
    simp only
    split
    · exact hcommit.trans (State.admitChain_calm _ p)
    all_goals exact hcommit
  case h_2 => exact .refl s

theorem State.countTick_calm (s : State) (o : Order) (p : PlayerId) : Calm s (s.countTick o p) := by
  unfold State.countTick
  simp only
  split
  · split
    · exact (s.setPlayer_calm p _).trans (State.phaseEnd_calm _ p)
    · exact s.setPlayer_calm p _
  · exact s.setPlayer_calm p _

theorem State.alignEvent_calm (s : State) (p : PlayerId) (ev : TbEvent) : Calm s (s.alignEvent p ev) := by
  unfold State.alignEvent
  split
  · split
    · split
      · exact s.endStep_calm p _
      · exact .refl s
    all_goals exact .refl s
  · exact .refl s

theorem State.fitEvent_calm (s : State) (p : PlayerId) (ev : TbEvent) : Calm s (s.fitEvent p ev) := by
  unfold State.fitEvent
  split
  · split
    · exact s.faultPlayer_calm p _
    · exact (s.beginStep_calm p _).trans (State.follow_calm _ p)
    · exact .refl s
  · exact .refl s

theorem State.runningEvent_calm (s : State) (o : Order) (p : PlayerId) (ev : TbEvent) : Calm s (s.runningEvent o p ev) := by
  unfold State.runningEvent
  simp only
  split
  · split
    · exact (s.setPlayer_calm p _).trans (State.admitChain_calm _ p)
    · exact .refl s
  · split
    · split
      · exact s.countTick_calm o p
      · exact .refl s
    · split
      · exact s.countTick_calm o p
      · exact .refl s
    · split
      · exact s.countTick_calm o p
      · exact .refl s
    · exact s.alignEvent_calm p ev
    · exact s.fitEvent_calm p ev
    · exact .refl s

theorem State.superEvent_calm (s : State) (o : Order) (p : PlayerId) (ev : TbEvent) : Calm s (s.superEvent o p ev) := by
  unfold State.superEvent
  split
  · split
    · exact (s.beginRun_calm p _).trans (State.commitSuper_calm _ p)
    · exact (s.commitSuper_calm p).trans (State.beginRun_calm _ p _)
  · exact s.commitSuper_calm p

theorem State.playerEvent_calm (s : State) (o : Order) (ev : TbEvent) (before : PlayerState) (p : PlayerId) :
    Calm s (s.playerEvent o ev before p) := by
  unfold State.playerEvent
  simp only
  split
  · exact s.superEvent_calm o p ev
  · split
    · exact s.runningEvent_calm o p ev
    · split
      · exact s.beginRun_calm p _
      · exact .refl s
    · exact .refl s

theorem State.handTo_calm (s : State) (o : Order) (ev : TbEvent) (before : Player) (p : PlayerId) :
    Calm s (s.handTo o ev before p) := by
  unfold State.handTo
  simp only
  split
  · split
    · exact s.setPlayer_calm p _
    · exact .refl s
  · exact s.playerEvent_calm o ev _ p

/-! ### One player's turn among the agents -/

/-- `t` differs from `s` in nothing that the player's turn depends on but inputs, lines and notices. -/
structure Beside (p : PlayerId) (s t : State) : Prop where
  player : t.player p = s.player p
  fixed : t.fixed = s.fixed
  clock : t.clock = s.clock
  safe : t.safe = s.safe

theorem Beside.refl (p : PlayerId) (s : State) : Beside p s s := ⟨rfl, rfl, rfl, rfl⟩

theorem Beside.trans {p : PlayerId} {s t u : State} (h1 : Beside p s t) (h2 : Beside p t u) : Beside p s u :=
  ⟨h2.player.trans h1.player, h2.fixed.trans h1.fixed, h2.clock.trans h1.clock, h2.safe.trans h1.safe⟩

/-- In CLEAR and without FAULT_TO_SAFE no entry is made. -/
def State.calm (s : State) : Prop := s.safe.state = .clear ∧ s.params.faultToSafe = false

theorem Calm.calm {s t : State} (h : Calm s t) (hs : s.calm) : t.calm := by
  obtain ⟨hoff, hsafe⟩ := h hs.2
  exact ⟨by rw [hsafe]; exact hs.1, hoff⟩

theorem Beside.calm {p : PlayerId} {s t : State} (h : Beside p s t) (hs : s.calm) : t.calm :=
  Calm.calm (.same h.safe h.clock) hs

section Turn

variable {o : Order} {act : Actor → State → State} {p : PlayerId}

/-- Agents other than the player stand beside it. -/
theorem runActors_beside (hother : ∀ a u, a ≠ .player p → u.calm → Beside p u (act a u)) :
    ∀ (actors : List Actor) {s : State}, .player p ∉ actors → s.calm → Beside p s (runActors o act actors s)
  | [], s, _, _ => .refl p s
  | a :: rest, s, hnot, hs => by
    obtain ⟨hne, hrest⟩ := not_or.mp (List.mem_cons.not.mp hnot)
    have ha := hother a s (Ne.symm hne) hs
    have hcalm := ha.calm hs
    unfold runActors
    simp only [State.reachPlayers_clear hcalm.1]
    exact ha.trans (runActors_beside hother rest hrest hcalm)

/-- A player that acts once among agents beside it ends as its own turn leaves it. -/
theorem runActors_turn (hother : ∀ a u, a ≠ .player p → u.calm → Beside p u (act a u))
    (hown : ∀ u, Calm u (act (.player p) u)) (actors : List Actor) {s : State} (hnodup : actors.Nodup)
    (hmem : .player p ∈ actors) (hs : s.calm) :
    ∃ u, Beside p s u ∧ (runActors o act actors s).player p = (act (.player p) u).player p := by
  induction actors generalizing s with
  | nil => cases hmem
  | cons a rest ih =>
    obtain ⟨hnot, hrest⟩ := List.nodup_cons.mp hnodup
    unfold runActors
    by_cases ha : a = .player p
    · subst ha
      have hcalm := (hown s).calm hs
      simp only [State.reachPlayers_clear hcalm.1]
      exact ⟨s, .refl p s, (runActors_beside hother rest hnot hcalm).player⟩
    · have hbeside := hother a s ha hs
      have hcalm := hbeside.calm hs
      simp only [State.reachPlayers_clear hcalm.1]
      obtain ⟨u, hu, hturn⟩ := ih hrest ((List.mem_cons.mp hmem).resolve_left (Ne.symm ha)) hcalm
      exact ⟨u, hbeside.trans hu, hturn⟩

end Turn

theorem mem_actorsOf (o : Order) (p : PlayerId) : .player p ∈ actorsOf o := by
  obtain ⟨a, ha, hp⟩ := List.mem_filterMap.mp (mem_playersOf o p)
  cases a with
  | player q => rwa [← Option.some.inj hp]
  | safeUnit | superframeNotice => cases hp

theorem State.produce_beside (s : State) (p : PlayerId) (body : NoticeBody) : Beside p s (s.produce body) :=
  ⟨by simp, by simp, by simp, by simp⟩

theorem State.handTo_beside {s : State} (h : s.calm) (o : Order) (ev : TbEvent) (before : Player) {p p' : PlayerId} (hne : p' ≠ p) :
    Beside p s (s.handTo o ev before p') :=
  ⟨(s.handTo_acts o ev before p').others p hne.symm, s.handTo_fixed o ev before p', s.handTo_clock o ev before p',
    (s.handTo_calm o ev before p' h.2).2⟩

/-- In CLEAR there is nothing to release (R136). -/
theorem State.autoRelease_clear {s : State} (h : s.safe.state = .clear) (o : Order) : s.autoRelease o = s := by
  simp [State.autoRelease, h]

/-- An event that is handed out reaches a player in a state beside the one it was handed out in. -/
theorem State.handOut_turn {s : State} (h : s.calm) (o : Order) (ev : TbEvent) (p : PlayerId) :
    ∃ u, Beside p s u ∧ (s.handOut o ev).player p = (u.handTo o ev (s.player p) p).player p := by
  refine runActors_turn (fun a u hne hu => ?_) (fun u => u.handTo_calm o ev _ p) _ (actorsOf_nodup o) (mem_actorsOf o p) h
  cases a with
  | player p' => exact State.handTo_beside hu o ev _ fun e => hne (congrArg Actor.player e)
  | safeUnit =>
    simp only
    split
    · rw [State.autoRelease_clear hu.1]
      exact .refl p u
    · exact .refl p u
  | superframeNotice =>
    simp only
    split
    · exact u.produce_beside p _
    · exact .refl p u

/-- A player that the order does not make late has its turn at once. -/
theorem State.handOut_playerEvent {s : State} (h : s.calm) {o : Order} {p : PlayerId} (hlate : p ∉ o.lateEvent) (ev : TbEvent) :
    ∃ u, Beside p s u ∧ (s.handOut o ev).player p = (u.playerEvent o ev (u.player p).state p).player p := by
  obtain ⟨u, hu, hturn⟩ := State.handOut_turn h o ev p
  refine ⟨u, hu, hturn.trans ?_⟩
  rw [State.handTo, if_neg hlate, hu.player]

end Sys2Proof.Machine

/-! PROOFS. What a tick hands to a player, and what a RUNNING player makes of it: counts go down and phases end (O29). -/

namespace Sys2Proof.Machine

/-! ### The state and the event that a tick hands out (R25, R28, R39) -/

/-- In the state `u` the tick's event `ev` reaches the player: its record as before but for the pass-begun flag, the steps of lists as
before, and the Timebase as the tick has moved it. -/
structure State.TickReaches (s u : State) (p : PlayerId) (ev : TbEvent) : Prop where
  player : u.player p = { s.player p with passBegun := false }
  steps : ∀ l, (u.list l).steps = (s.list l).steps
  safe : u.safe = s.safe
  running : u.tb.state = .running
  position : u.tb.position = if s.params.frameLen ≤ s.tb.position + 1 then 0 else s.tb.position + 1
  frameLen : s.frameDue → u.params.frameLen = s.nextFrameLen
  fitMargin : u.params.fitMargin = s.params.fitMargin
  toSafe : u.params.faultToSafe = s.params.faultToSafe
  tick : ev.tick = true
  frame : ev.frame = true ↔ s.frameDue
  super : ev.super = true ↔ s.superDue
  oldLen : ev.oldLen = s.params.frameLen

theorem State.TickReaches.beside {s e u : State} {p : PlayerId} {ev : TbEvent} (h : s.TickReaches e p ev) (hu : Beside p e u) :
    s.TickReaches u p ev := by
  obtain ⟨hstate, hposition, -⟩ := Timebase.fields_of_counts (State.counts_of_clock hu.clock)
  have hparams := State.params_of_clock hu.clock
  exact { h with
    player := hu.player.trans h.player
    steps := fun l => (State.steps_of_fixed hu.fixed l).trans (h.steps l)
    safe := hu.safe.trans h.safe
    running := hstate.trans h.running
    position := hposition.trans h.position
    frameLen := fun hframe => (congrArg Params.frameLen hparams).trans (h.frameLen hframe)
    fitMargin := (congrArg Params.fitMargin hparams).trans h.fitMargin
    toSafe := (congrArg Params.faultToSafe hparams).trans h.toSafe }

/-- A row that makes a tick leaves the steps of every list. -/
theorem State.tickedBy.steps_eq {s t : State} {c : Instr} {o : Order} (h : s.tickedBy c o) (ht : exec c s = .next t)
    (l : ListId) : (t.list l).steps = (s.list l).steps := by
  obtain ⟨hlive, -, ⟨rfl, -, -⟩ | ⟨rfl, -⟩⟩ := h
  · obtain rfl : s.live (fun s => if s.dividerExpires then s.passMicrosecond o else s) = t := Host.Outcome.next.inj ht
    rw [State.live_live hlive, State.transmit_list]
    split
    · rw [State.steps_of_fixed (s.passMicrosecond_fixed o), s.timeByte_frame]
      rfl
    · rfl
  · obtain rfl : s.live (fun s => if s.ticksFrom .tickIn then s.tick o else s) = t := Host.Outcome.next.inj ht
    rw [State.live_live hlive, State.transmit_list]
    split
    · exact State.steps_of_fixed (s.tick_fixed o) l
    · rfl

/-- The state that a frame start is handed out in (R28, R43). -/
def State.frameStarted (s : State) (index : Nat) : State :=
  ((s.countFrame index).syncOutAtFrame (decide (index = 0))).commitNotice s

theorem State.frameStart_eq (s : State) (o : Order) (index : Nat) (tick sync : Bool) :
    s.frameStart o index id tick sync = (s.frameStarted index).handOut o
      { tick := tick, frame := true, super := decide (index = 0), sync := sync, unpause := false, oldLen := s.params.frameLen } :=
  rfl

/-- A frame start moves the Timebase's record and the staged parameters, and says no more than COMMIT. -/
theorem State.frameStarted_frame (s : State) (index : Nat) : s.frameStarted index = { s with
    tb := (s.frameStarted index).tb, params := (s.frameStarted index).params, notices := (s.frameStarted index).notices } := by
  have hnotice : ∀ u : State, u.commitNotice s = { u with notices := (u.commitNotice s).notices } := fun u => by
    unfold State.commitNotice
    split
    · rfl
    · exact u.produce_frame _
  rw [State.frameStarted, hnotice, State.syncOutAtFrame_frame, State.countFrame_frame]

theorem State.frameStarted_state (s : State) (index : Nat) : (s.frameStarted index).tb.state = s.tb.state := by
  have hclock := ((s.countFrame index).syncOutAtFrame (decide (index = 0))).commitNotice_clock s
  rw [State.frameStarted, Timebase.state_of_counts ((State.counts_of_clock hclock).trans (State.syncOutAtFrame_counts _ _))]
  unfold State.countFrame
  split <;> rfl

theorem State.frameStarted_position (s : State) (index : Nat) : (s.frameStarted index).tb.position = 0 := by
  have hclock := ((s.countFrame index).syncOutAtFrame (decide (index = 0))).commitNotice_clock s
  rw [State.frameStarted, Timebase.position_of_counts ((State.counts_of_clock hclock).trans (State.syncOutAtFrame_counts _ _))]
  unfold State.countFrame
  split <;> rfl

/-- The parameters that a frame start leaves in force (R39). -/
theorem State.frameStarted_params (s : State) (index : Nat) :
    (s.frameStarted index).params = if index = 0 then s.committedParams else s.params := by
  have hclock := ((s.countFrame index).syncOutAtFrame (decide (index = 0))).commitNotice_clock s
  rw [State.frameStarted, State.params_of_clock hclock, State.syncOutAtFrame_params]
  unfold State.countFrame
  split <;> rfl

/-- `b` is the state in which the tick counts: only the pass-begun flags have moved, and what of the Timebase the players do not see. -/
structure State.TickStarts (s b : State) : Prop where
  player : ∀ p, b.player p = { s.player p with passBegun := false }
  steps : ∀ l, (b.list l).steps = (s.list l).steps
  safe : b.safe = s.safe
  running : b.tb.state = .running
  position : b.tb.position = s.tb.position
  pendFrameLen : b.tb.pendFrameLen = s.tb.pendFrameLen
  params : b.params = s.params

/-- A row that makes a tick, with nothing due or owed before it. -/
theorem State.tickedBy.starts {s : State} {c : Instr} {o : Order} (h : s.tickedBy c o) (hquiet : s.quiet) :
    ∃ d : State, exec c s = .next (d.tick o).transmit ∧ d.params = s.params ∧ d.tb.position = s.tb.position ∧ d.tb.index = s.tb.index ∧
      s.TickStarts (d.tickStart o) := by
  obtain ⟨d, hexec, hcounts, hparams, hstill⟩ := h.exec_eq
  obtain ⟨hplayers, hsafe, -⟩ := hstill hquiet
  obtain ⟨hstate, hposition, hindex, -, hpend, -⟩ := Timebase.fields_of_counts hcounts
  obtain ⟨hstate', hposition', -, -, hpend', -⟩ := Timebase.fields_of_counts (d.tickStart_counts o)
  have hstart : d.tickStart o = d.syncOutAtTick.clearPassBegun := by rw [State.tickStart, hquiet.catchUp hplayers hsafe]
  refine ⟨d, hexec, hparams, hposition, hindex, ?_⟩
  exact {
    player := fun p => by
      rw [hstart, State.clearPassBegun_player, d.syncOutAtTick_frame]
      simp only [State.player, hplayers]
    steps := fun l => by
      have hd := h.steps_eq hexec l
      rw [State.transmit_list, State.steps_of_fixed (d.tick_fixed o)] at hd
      rw [hstart, ← hd]
      exact State.steps_of_fixed ((State.clearPassBegun_fixed _).trans d.syncOutAtTick_fixed) l
    safe := by
      rw [hstart, d.syncOutAtTick_frame]
      exact hsafe
    running := hstate'.trans (hstate.trans h.2.1)
    position := hposition'.trans hposition
    pendFrameLen := hpend'.trans hpend
    params := (d.tickStart_params o).trans hparams }

theorem State.TickStarts.advance {s b : State} (h : s.TickStarts b) (hframe : ¬s.frameDue) (p : PlayerId) :
    s.TickReaches b.advance p { TbEvent.plain s.params.frameLen with tick := true } where
  player := h.player p
  steps := h.steps
  safe := h.safe
  running := h.running
  position := (congrArg (· + 1) h.position).trans (if_neg hframe).symm
  frameLen hdue := absurd hdue hframe
  fitMargin := congrArg Params.fitMargin h.params
  toSafe := congrArg Params.faultToSafe h.params
  tick := rfl
  frame := iff_of_false Bool.false_ne_true hframe
  super := iff_of_false Bool.false_ne_true fun hsuper => hframe hsuper.1
  oldLen := rfl

theorem State.TickStarts.frameStarted {s b : State} (h : s.TickStarts b) (hframe : s.frameDue) (p : PlayerId) :
    let index := (s.tb.index + 1) % s.params.superLen
    s.TickReaches (b.frameStarted index) p
      { tick := true, frame := true, super := decide (index = 0), sync := false, unpause := false, oldLen := b.params.frameLen } := by
  intro index
  have hframed := b.frameStarted_frame index
  exact {
    player := by rw [hframed]; exact h.player p
    steps := by rw [hframed]; exact h.steps
    safe := by rw [hframed]; exact h.safe
    running := (b.frameStarted_state index).trans h.running
    position := (b.frameStarted_position index).trans (if_pos hframe).symm
    frameLen := fun _ => by
      rw [b.frameStarted_params, State.nextFrameLen, State.committedParams, h.pendFrameLen, h.params]
      split <;> rfl
    fitMargin := by
      rw [b.frameStarted_params, State.committedParams, h.params]
      split <;> rfl
    toSafe := by
      rw [b.frameStarted_params, State.committedParams, h.params]
      split <;> rfl
    tick := rfl
    frame := iff_of_true rfl hframe
    super := by simp [State.superDue, hframe, index]
    oldLen := congrArg Params.frameLen h.params }

/-- A tick is handed out in a state that it reaches the players in. -/
theorem State.tickedBy.handsOut {s : State} {c : Instr} {o : Order} (h : s.tickedBy c o) (hquiet : s.quiet) :
    ∃ e ev, exec c s = .next (e.handOut o ev).transmit ∧ ∀ p, s.TickReaches e p ev := by
  obtain ⟨d, hexec, hparams, hposition, hindex, hstart⟩ := h.starts hquiet
  by_cases hframe : s.frameDue
  · have hdue : d.params.frameLen ≤ d.tb.position + 1 := by rw [hparams, hposition]; exact hframe
    rw [State.tick_starts_frame o hdue, State.frameStart_eq, hparams, hindex] at hexec
    exact ⟨_, _, hexec, hstart.frameStarted hframe⟩
  · have hdue : d.tb.position + 1 < d.params.frameLen := by rw [hparams, hposition]; exact Nat.lt_of_not_le hframe
    rw [State.tick_advances o hdue, hparams] at hexec
    exact ⟨_, _, hexec, hstart.advance hframe⟩

/-- A player that the order does not make late has its turn in a state that the tick reaches it in. -/
theorem State.tickedBy.turn {s : State} {c : Instr} {o : Order} {p : PlayerId} (h : s.tickedBy c o) (hquiet : s.quiet)
    (hlate : p ∉ o.lateEvent) : ∃ t u ev, exec c s = .next t ∧ s.TickReaches u p ev ∧
      t.player p = (u.playerEvent o ev (u.player p).state p).player p := by
  obtain ⟨e, ev, hexec, hreaches⟩ := h.handsOut hquiet
  have hcalm : e.calm := ⟨by rw [(hreaches p).safe]; exact hquiet.1, by rw [(hreaches p).toSafe]; exact hquiet.2.1⟩
  obtain ⟨u, hu, hturn⟩ := State.handOut_playerEvent hcalm hlate ev
  exact ⟨_, u, ev, hexec, (hreaches p).beside hu, (State.transmit_player _ p).trans hturn⟩

/-! ### A turn without a commit (R49, R134) -/

theorem State.playerEvent_running {s : State} {p : PlayerId} {ev : TbEvent} (o : Order)
    (hcommit : (ev.super && (s.player p).commitsSuper) = false) (hrun : (s.player p).state = .running) :
    s.playerEvent o ev (s.player p).state p = s.runningEvent o p ev := by
  simp [State.playerEvent, hcommit, hrun]

/-- A player that is neither RUNNING nor ARMED takes no part. -/
theorem State.playerEvent_still {s : State} {p : PlayerId} {ev : TbEvent} (o : Order)
    (hcommit : (ev.super && (s.player p).commitsSuper) = false) (hrun : (s.player p).state ≠ .running)
    (harmed : (s.player p).state ≠ .armed) : s.playerEvent o ev (s.player p).state p = s := by
  cases hstate : (s.player p).state with
  | running => exact absurd hstate hrun
  | armed => exact absurd hstate harmed
  | idle | bound | held | faulted => simp [State.playerEvent, hcommit]

theorem State.TickReaches.noCommit {s u : State} {p : PlayerId} {ev : TbEvent} (h : s.TickReaches u p ev)
    (hcommit : (s.player p).commitsSuper = true → ¬s.superDue) : (ev.super && (u.player p).commitsSuper) = false := by
  have hreplacement : (u.player p).commitsSuper = (s.player p).commitsSuper := by
    rw [h.player]
    rfl
  rw [hreplacement]
  by_cases hc : (s.player p).commitsSuper = true
  · have hsuper : ev.super = false := Bool.eq_false_iff.mpr fun hs => hcommit hc (h.super.mp hs)
    rw [hsuper, Bool.false_and]
  · rw [Bool.eq_false_iff.mpr hc, Bool.and_false]

/-! ### The turn of a RUNNING player (R49, R87) -/

theorem State.runningEvent_counts {s : State} {p : PlayerId} {ev : TbEvent} (o : Order) (htick : ev.tick = true)
    (hdeferred : (s.player p).deferred = false)
    (hact : (s.player p).activity = .stepping ∨ (s.player p).activity = .pulseWidth ∨
      ((s.player p).activity = .edgeWait ∧ (s.player p).remaining ≠ 0)) : s.runningEvent o p ev = s.countTick o p := by
  obtain hact | hact | ⟨hact, hremaining⟩ := hact
  · simp [State.runningEvent, hdeferred, hact, htick]
  · simp [State.runningEvent, hdeferred, hact, htick]
  · simp [State.runningEvent, hdeferred, hact, htick, hremaining]

theorem State.runningEvent_waits {s : State} {p : PlayerId} (o : Order) (ev : TbEvent) (hdeferred : (s.player p).deferred = false)
    (hact : (s.player p).activity = .edgeWait) (hremaining : (s.player p).remaining = 0) : s.runningEvent o p ev = s := by
  simp [State.runningEvent, hdeferred, hact, hremaining]

theorem State.runningEvent_deferred {s : State} {p : PlayerId} {ev : TbEvent} (o : Order) (htick : ev.tick = true)
    (hdeferred : (s.player p).deferred = true) :
    s.runningEvent o p ev = (s.setPlayer p { s.player p with deferred := false }).admitChain p := by
  simp [State.runningEvent, hdeferred, htick]

theorem State.countTick_counts {s : State} {p : PlayerId} (o : Order) (h : (s.player p).remaining ≠ 1) :
    s.countTick o p = s.setPlayer p { s.player p with remaining := (s.player p).remaining - 1 } := by
  simp [State.countTick, h]

theorem State.countTick_last {s : State} {o : Order} {p : PlayerId} (h : (s.player p).remaining = 1) :
    s.countTick o p = if p ∈ o.ends then (s.setPlayer p { s.player p with due := true }).phaseEnd p
      else s.setPlayer p { s.player p with due := true } := by
  simp [State.countTick, h]

end Sys2Proof.Machine

/-! PROOFS. A tick counts down the phase of a RUNNING player, and ends it at 0 (O29). -/

namespace Sys2Proof.Machine

/-! ### A phase whose count reaches 0 in the player's turn (R49, R51, R52, R55) -/

theorem State.phaseEnd_stepping {s : State} {p : PlayerId} {st : Step} (hrun : (s.player p).state = .running)
    (hdue : (s.player p).due = true) (hact : (s.player p).activity = .stepping) (hstep : s.currentStep p = some st) :
    s.phaseEnd p = (s.counted p).endStep p st := by
  simp only [State.phaseEnd, State.counted, hrun, hdue, hact, hstep]

/-- The state in which the tick has fallen due. -/
def State.fallenDue (s : State) (p : PlayerId) : State := s.setPlayer p { s.player p with due := true }

@[simp] theorem State.fallenDue_player (s : State) (p : PlayerId) :
    (s.fallenDue p).player p = { s.player p with due := true } := s.setPlayer_player_same p _

theorem State.fallenDue_steps (s : State) (p : PlayerId) (l : ListId) : ((s.fallenDue p).list l).steps = (s.list l).steps := rfl

theorem State.fallenDue_currentStep (s : State) (p : PlayerId) : (s.fallenDue p).currentStep p = s.currentStep p :=
  State.currentStep_congr (s.fallenDue_steps p) (by simp) (by simp)

theorem State.countTick_ends {s : State} {o : Order} {p : PlayerId} (h : (s.player p).remaining = 1) (hends : p ∈ o.ends) :
    s.countTick o p = (s.fallenDue p).phaseEnd p := by
  rw [State.countTick_last h, if_pos hends]
  rfl

/-- The last phase of a step that leads on to a plain SET. -/
theorem State.countTick_leadsOn {s : State} {o : Order} {p : PlayerId} {st next : Step} {lines levels : LineSet}
    {dwell : BitVec 16} (hrun : (s.player p).state = .running) (hremaining : (s.player p).remaining = 1) (hends : p ∈ o.ends)
    (hstep : s.currentStep p = some st)
    (hphase : (s.player p).activity = .stepping ∨ ((s.player p).activity = .edgeWait ∧ st.timeoutFault = false))
    (hleads : s.LeadsOn p st next) (hplain : next.plainSet lines levels dwell) :
    (s.countTick o p).player p = (s.player p).goneOn dwell := by
  have hstep' := (s.fallenDue_currentStep p).trans hstep
  have hleads' : (s.fallenDue p).LeadsOn p st next :=
    hleads.congr (s.fallenDue_steps p) (by simp) (by simp) (by simp) (by simp)
  have hend : (s.fallenDue p).phaseEnd p = ((s.fallenDue p).counted p).endStep p st := by
    rcases hphase with hact | ⟨hact, hfault⟩
    · exact State.phaseEnd_stepping (by simpa using hrun) (by simp) (by simpa using hact) hstep'
    · rw [State.phaseEnd_wait (by simpa using hrun) (by simp) (by simpa using hact) hstep', State.expire, hfault,
        if_neg Bool.false_ne_true]
  rw [State.countTick_ends hremaining hends, hend, hleads'.counted.endStep_plainSet hplain, State.setPlayer_player_same,
    State.counted_player, State.fallenDue_player]
  rfl

/-- The width phase of a PULSE with a dwell. -/
theorem State.countTick_pulse {s : State} {o : Order} {p : PlayerId} {st : Step} {lines levels : LineSet}
    {width dwell : BitVec 16} (hrun : (s.player p).state = .running) (hremaining : (s.player p).remaining = 1)
    (hends : p ∈ o.ends) (hact : (s.player p).activity = .pulseWidth) (hstep : s.currentStep p = some st)
    (haction : st.action = .pulse lines levels width dwell) (hdwell : dwell ≠ 0) : (s.countTick o p).player p =
      { s.player p with activity := .stepping, remaining := dwell.toNat, deferred := false, due := false } := by
  rw [State.countTick_ends hremaining hends, State.phaseEnd_pulse (s := s.fallenDue p) (by simpa using hrun) (by simp)
    (by simpa using hact) ((s.fallenDue_currentStep p).trans hstep) haction hdwell, State.setPlayer_player_same,
    State.fallenDue_player]

/-! ### The admission of step 0 (R87) -/

/-- The state in which a pass begins (R87). -/
def State.passOpened (s : State) (p : PlayerId) : State :=
  s.setPlayer p { s.player p with passBegun := true, deferred := false }

theorem State.admitNext_opens {s : State} {p : PlayerId} (hindex : (s.player p).index = 0)
    (hbegun : ¬(s.player p).passBegun = true) : s.admitNext p = (s.passOpened p).admitStep p :=
  (if_pos hindex).trans (if_neg hbegun)

theorem State.admitNext_defers {s : State} {p : PlayerId} (hindex : (s.player p).index = 0)
    (hbegun : (s.player p).passBegun = true) : s.admitNext p = (s.setPlayer p { s.player p with
      activity := .stepping, remaining := 0, deferred := true, due := false }, .rests) :=
  (if_pos hindex).trans (if_pos hbegun)

/-- A plain SET at step 0 begins with its pass, or is deferred where a pass has begun in this tick. -/
theorem State.admitChain_stepZero {s : State} {p : PlayerId} {lines levels : LineSet} {dwell : BitVec 16}
    (hindex : (s.player p).index = 0) (hplain : s.plainAt p 0 lines levels dwell) :
    s.admitChain p = (if (s.player p).passBegun then s else s.writeLines lines levels).setPlayer p
      ((s.player p).atStepZero dwell) := by
  by_cases hbegun : (s.player p).passBegun = true
  · rw [State.admitChain_rests (State.admitNext_defers hindex hbegun), if_pos hbegun, Player.atStepZero, if_pos hbegun,
      ← hindex]
  · obtain ⟨l, first, hlist, hfirst, hset⟩ := hplain
    have hstep : (s.passOpened p).currentStep p = some first := by
      simpa [State.passOpened, State.currentStep, hlist, hindex] using hfirst
    have hadmit := (State.admitNext_opens hindex hbegun).trans (State.admitStep_begins hstep hset.guarded_eq)
    obtain ⟨haction, hdwell, -, hnote⟩ := hset
    rw [State.beginStep_set haction hdwell hnote] at hadmit
    rw [State.admitChain_rests hadmit, if_neg hbegun, Player.atStepZero, if_neg hbegun, ← hindex]
    exact (s.writeLines lines levels).setPlayer_rest p _ .stepping dwell.toNat

/-! ### The player's step as the tick reaches it -/

theorem State.TickReaches.currentStep_eq {s u : State} {p : PlayerId} {ev : TbEvent} (h : s.TickReaches u p ev) :
    u.currentStep p = s.currentStep p :=
  State.currentStep_congr h.steps (by rw [h.player]) (by rw [h.player])

theorem State.TickReaches.leadsOn {s u : State} {p : PlayerId} {ev : TbEvent} (h : s.TickReaches u p ev) {st : Step}
    {lines levels : LineSet} {dwell : BitVec 16} (hgoes : s.goesOn p lines levels dwell) (hstep : s.currentStep p = some st) :
    ∃ next, u.LeadsOn p st next ∧ next.plainSet lines levels dwell := by
  obtain ⟨next, hleads, hplain⟩ := hgoes.leadsOn hstep
  exact ⟨next, hleads.congr h.steps (by rw [h.player]) (by rw [h.player]) (by rw [h.player]) (by rw [h.player]), hplain⟩

/-- A player with no admission deferred and no tick due takes a new phase in two fields of its record. -/
theorem Player.phase_eq {r : Player} (hdeferred : r.deferred = false) (hdue : r.due = false) (activity : Activity)
    (remaining : Nat) : ({ r with activity := activity, remaining := remaining, deferred := false, due := false } : Player) =
      { r with activity := activity, remaining := remaining } := by
  cases r
  cases hdeferred
  cases hdue
  rfl

/-- Settles O29: the count, its last tick in each kind of phase, a deferred admission, and players that take no part. -/
theorem tickCountsThePhaseOfARunningPlayer : Obligations.TickCountsThePhaseOfARunningPlayer := by
  intro s c o p htick hquiet hlate hcommit r
  obtain ⟨t, u, ev, hexec, hreach, hturn⟩ := htick.turn hquiet hlate
  have hnone := hreach.noCommit hcommit
  have hu : u.player p = r := hreach.player
  have hrunning : r.state = .running → t.player p = (u.runningEvent o p ev).player p := fun hrun => by
    rw [hturn, State.playerEvent_running o hnone (by rw [hu]; exact hrun)]
  refine ⟨t, hexec, fun hrun hdeferred => ⟨fun hact => ?_, fun hact hremaining => ?_⟩,
    fun lines levels dwell hrun hdeferred hplain hindex => ?_, fun hstate => ?_⟩
  · have hcount : t.player p = (u.countTick o p).player p := by
      rw [hrunning hrun, State.runningEvent_counts o hreach.tick (by rw [hu]; exact hdeferred) (by rw [hu]; exact hact)]
    rw [hcount]
    refine ⟨fun hremaining => ?_, fun hremaining hends => ?_,
      fun st lines levels dwell hremaining hends hstep hphase hgoes => ?_,
      fun st lines levels width dwell hremaining hends hwidth hstep haction hdwell => ?_⟩
    · rw [State.countTick_counts o (by rw [hu]; exact hremaining), State.setPlayer_player_same, hu]
    · rw [State.countTick_last (by rw [hu]; exact hremaining), if_neg hends, State.setPlayer_player_same, hu]
    · obtain ⟨next, hleads, hplain⟩ := hreach.leadsOn hgoes hstep
      rw [State.countTick_leadsOn (by rw [hu]; exact hrun) (by rw [hu]; exact hremaining) hends
        (hreach.currentStep_eq.trans hstep) (by rw [hu]; exact hphase) hleads hplain, hu]
    · rw [State.countTick_pulse (by rw [hu]; exact hrun) (by rw [hu]; exact hremaining) hends (by rw [hu]; exact hwidth)
        (hreach.currentStep_eq.trans hstep) haction hdwell, hu]
      exact Player.phase_eq (r := r) hdeferred (hquiet.2.2.1 p) .stepping dwell.toNat
  · rw [hrunning hrun, State.runningEvent_waits o ev (by rw [hu]; exact hdeferred) (by rw [hu]; exact hact)
      (by rw [hu]; exact hremaining), hu]
  · have hzero : (u.setPlayer p { u.player p with deferred := false }).plainAt p 0 lines levels dwell := by
      obtain ⟨l, first, hlist, hfirst, hset⟩ := hplain
      refine ⟨l, first, ?_, ?_, hset⟩
      · rw [State.setPlayer_player_same, hu]
        exact hlist
      · rw [State.setPlayer_list, hreach.steps]
        exact hfirst
    rw [hrunning hrun, State.runningEvent_deferred o hreach.tick (by rw [hu]; exact hdeferred),
      State.admitChain_stepZero (by rw [State.setPlayer_player_same, hu]; exact hindex) hzero, State.setPlayer_player_same,
      State.setPlayer_player_same, hu]
    rfl
  · have hne : (u.player p).state ≠ .running ∧ (u.player p).state ≠ .armed := by
      rw [hu]
      rcases hstate with hstate | hstate | hstate | hstate <;> rw [hstate] <;> exact ⟨nofun, nofun⟩
    rw [hturn, State.playerEvent_still o hnone hne.1 hne.2, hu]

end Sys2Proof.Machine

/-! PROOFS. An ALIGN ends where the position meets its offset, or at a frame start where it cannot (O24). -/

namespace Sys2Proof.Machine

theorem State.alignedAt_iff (s : State) (offset : BitVec 16) :
    s.alignedAt offset = true ↔ s.tb.state = .running ∧ s.tb.position = offset.toNat := by
  simp [State.alignedAt, State.ticking]

/-! ### The turn of a player in ALIGN_WAIT (R56, R57) -/

theorem State.runningEvent_align {s : State} {p : PlayerId} (o : Order) (ev : TbEvent) (hdeferred : (s.player p).deferred = false)
    (hact : (s.player p).activity = .alignWait) : s.runningEvent o p ev = s.alignEvent p ev := by
  simp [State.runningEvent, hdeferred, hact]

/-- The event ends an ALIGN with the offset: it is one at which the position is asked, and meets the offset; or it is a frame start,
and the offset lay at or above FRAME_LEN. -/
def State.alignEnds (s : State) (ev : TbEvent) (offset : BitVec 16) : Prop :=
  ((ev.tick = true ∨ ev.frame = true ∨ ev.unpause = true) ∧ s.tb.state = .running ∧ s.tb.position = offset.toNat) ∨
    (ev.frame = true ∧ ev.oldLen ≤ offset.toNat)

theorem State.alignEvent_ends {s : State} {p : PlayerId} {ev : TbEvent} {st : Step} {offset : BitVec 16}
    (hstep : s.currentStep p = some st) (haction : st.action = .align offset) (h : s.alignEnds ev offset) :
    s.alignEvent p ev = s.endStep p st := by
  have hends : ((ev.tick || ev.frame || ev.unpause) && s.alignedAt offset) || (ev.frame && decide (ev.oldLen ≤ offset.toNat)) := by
    simpa [s.alignedAt_iff, or_assoc, State.alignEnds] using h
  simp only [State.alignEvent, hstep, haction, hends, if_true]

theorem State.alignEvent_waits {s : State} {p : PlayerId} {ev : TbEvent} {st : Step} {offset : BitVec 16}
    (hstep : s.currentStep p = some st) (haction : st.action = .align offset) (h : ¬s.alignEnds ev offset) :
    s.alignEvent p ev = s := by
  have hends : ¬(((ev.tick || ev.frame || ev.unpause) && s.alignedAt offset) ||
      (ev.frame && decide (ev.oldLen ≤ offset.toNat))) = true := fun hc => h (by
    simpa [s.alignedAt_iff, or_assoc, State.alignEnds] using hc)
  simp only [State.alignEvent, hstep, haction, if_neg hends]

/-- A player in ALIGN_WAIT whose ALIGN leads on to a plain SET has gone on to it, or waits on. -/
theorem State.runningEvent_aligns {s : State} {p : PlayerId} {ev : TbEvent} {st : Step} {offset : BitVec 16} (o : Order)
    (hdeferred : (s.player p).deferred = false) (hact : (s.player p).activity = .alignWait)
    (hstep : s.currentStep p = some st) (haction : st.action = .align offset) :
    (¬s.alignEnds ev offset → (s.runningEvent o p ev).player p = s.player p) ∧
      ∀ next lines levels dwell, s.alignEnds ev offset → s.LeadsOn p st next → next.plainSet lines levels dwell →
        (s.runningEvent o p ev).player p = (s.player p).goneOn dwell := by
  rw [State.runningEvent_align o ev hdeferred hact]
  refine ⟨fun hwaits => ?_, fun next lines levels dwell hends hleads hplain => ?_⟩
  · rw [State.alignEvent_waits hstep haction hwaits]
  · rw [State.alignEvent_ends hstep haction hends, hleads.endStep_plainSet hplain, State.setPlayer_player_same]

/-- What a tick that reaches the player must bring for the ALIGN to end. -/
theorem State.TickReaches.alignEnds_iff {s u : State} {p : PlayerId} {ev : TbEvent} (h : s.TickReaches u p ev)
    (offset : BitVec 16) : u.alignEnds ev offset ↔
      (if s.params.frameLen ≤ s.tb.position + 1 then 0 else s.tb.position + 1) = offset.toNat ∨
        (s.frameDue ∧ s.params.frameLen ≤ offset.toNat) := by
  simp only [State.alignEnds, h.tick, h.running, h.position, h.frame, h.oldLen, true_or, true_and]

/-! ### The end of a pause (R34, R56) -/

/-- In the state `u` the end of a pause reaches the player: its record and the steps of lists as before, and the Timebase running at
the position it was held at. -/
structure State.ResumeReaches (s u : State) (p : PlayerId) : Prop where
  player : u.player p = s.player p
  steps : ∀ l, (u.list l).steps = (s.list l).steps
  running : u.tb.state = .running
  position : u.tb.position = s.tb.position

/-- The state that the end of a pause is handed out in (R34, R43). -/
def State.resumed (s : State) (level : Bool) : State :=
  (({ s with tb := { s.tb with syncIn := level } } : State).setTbState .running).tbNotice .unpaused none

theorem State.resumed_safe (s : State) (level : Bool) : (s.resumed level).safe = s.safe := by
  rw [State.resumed, State.tbNotice, State.produce_safe, State.setTbState_frame]

theorem State.resumed_params (s : State) (level : Bool) : (s.resumed level).params = s.params := by
  rw [State.resumed, State.tbNotice, State.produce_params, State.setTbState_params]

theorem State.resumed_reaches (s : State) (level : Bool) (p : PlayerId) : s.ResumeReaches (s.resumed level) p := by
  obtain ⟨hcounts, -⟩ := State.restated_effect { s with tb := { s.tb with syncIn := level } } .running .unpaused
  have hfixed : (s.resumed level).fixed = s.fixed := by
    rw [State.resumed, State.tbNotice_fixed, State.setTbState_fixed]
    rfl
  exact {
    player := by
      rw [State.resumed, State.tbNotice, State.produce_player, State.setTbState_frame]
      rfl
    steps := State.steps_of_fixed hfixed
    running := Timebase.state_of_counts hcounts
    position := (Timebase.position_of_counts hcounts :) }

theorem State.ResumeReaches.beside {s e u : State} {p : PlayerId} (h : s.ResumeReaches e p) (hu : Beside p e u) :
    s.ResumeReaches u p := by
  obtain ⟨hstate, hposition, -⟩ := Timebase.fields_of_counts (State.counts_of_clock hu.clock)
  exact {
    player := hu.player.trans h.player
    steps := fun l => (State.steps_of_fixed hu.fixed l).trans (h.steps l)
    running := hstate.trans h.running
    position := hposition.trans h.position }

/-- An active edge that ends a pause in GATED, with nothing due or owed before it. -/
theorem State.quiet.resumeTurn {s : State} (h : s.quiet) {level : Bool} {o : Order} {p : PlayerId} (hlive : s.phase = .live)
    (hnew : level ≠ s.tb.syncIn) (hactive : s.syncActive level = true) (hpaused : s.tb.state = .paused)
    (hmode : s.params.syncMode = .gated) (hlate : p ∉ o.lateEvent) :
    ∃ t u, exec (.syncInEdge level o) s = .next t ∧ s.ResumeReaches u p ∧ t.player p = (u.playerEvent o
      { TbEvent.plain s.params.frameLen with sync := true, unpause := true } (u.player p).state p).player p := by
  have hsampled : s.syncSampled level o = { s with tb := { s.tb with syncIn := level } } := by
    rw [State.syncSampled, h.catchUp rfl rfl]
  have hacted : s.edgeActed level o =
      (s.resumed level).handOut o { TbEvent.plain s.params.frameLen with sync := true, unpause := true } := by
    rw [State.edgeActed, if_pos hactive, hsampled]
    exact State.activeEdge_resumes (s := { s with tb := { s.tb with syncIn := level } }) o hpaused hmode
  have hcalm : (s.resumed level).calm := by
    rw [State.calm, s.resumed_safe, s.resumed_params]
    exact ⟨h.1, h.2.1⟩
  obtain ⟨u, hu, hturn⟩ := State.handOut_playerEvent hcalm hlate
    { TbEvent.plain s.params.frameLen with sync := true, unpause := true }
  refine ⟨_, u, exec_syncInEdge_new o hlive hnew, (s.resumed_reaches level p).beside hu, ?_⟩
  rw [State.transmit_player, hacted, hturn]

theorem State.ResumeReaches.alignEnds_iff {s u : State} {p : PlayerId} (h : s.ResumeReaches u p) (offset : BitVec 16) :
    u.alignEnds { TbEvent.plain s.params.frameLen with sync := true, unpause := true } offset ↔ s.tb.position = offset.toNat := by
  simp [State.alignEnds, TbEvent.plain, h.running, h.position]

/-- Settles O24: the begin of an ALIGN at its offset or elsewhere, a tick in ALIGN_WAIT, and the end of a pause. -/
theorem alignStepEndsAtItsOffset : Obligations.AlignStepEndsAtItsOffset := by
  refine ⟨fun s c p o l st align offset h hclear hhalt => ?_,
    fun s c p o st offset hquiet hlate hrun hdeferred hact hstep haction => ⟨fun htick hcommit => ?_,
      fun level hlive hc hnew hactive hpaused hmode => ?_⟩⟩
  · intro r hstop hhold hlist halign haction hnote
    have hleads : s.LeadsOn p st align := ⟨hstop, hhalt, hhold, l, hlist, halign⟩
    have hguard : align.guarded = false := by simp [Step.guarded, haction]
    have hbegin := State.beginStep_align (s := s.steppedOn p) (p := p) haction hnote
    have haligned : (s.steppedOn p).alignedAt offset = true ↔ s.tb.state = .running ∧ s.tb.position = offset.toNat :=
      s.alignedAt_iff offset
    refine ⟨fun hoff => ?_, fun lines levels dwell hrun hposition hhalt' hstop' hplain => ?_⟩
    · rw [if_neg fun hc => hoff (haligned.mp hc), s.steppedOn_rest] at hbegin
      exact h.exec_rests hleads hguard hbegin hclear
    · rw [if_pos (haligned.mpr ⟨hrun, hposition⟩)] at hbegin
      exact h.exec_through hleads hguard hbegin rfl rfl hclear hstop' hhalt' hplain
  · intro r position reached
    obtain ⟨t, u, ev, hexec, hreach, hturn⟩ := htick.turn hquiet hlate
    have hu : u.player p = r := hreach.player
    rw [State.playerEvent_running o (hreach.noCommit hcommit) (by rw [hu]; exact hrun)] at hturn
    obtain ⟨hwaits, hgoesOn⟩ := State.runningEvent_aligns (ev := ev) o (by rw [hu]; exact hdeferred) (by rw [hu]; exact hact)
      (hreach.currentStep_eq.trans hstep) haction
    have hreached : u.alignEnds ev offset ↔ reached := hreach.alignEnds_iff offset
    rw [hreached, ← hturn, hu] at hwaits hgoesOn
    refine ⟨t, hexec, hwaits, fun lines levels dwell hends hgoes => ?_⟩
    obtain ⟨next, hleads, hplain⟩ := hreach.leadsOn hgoes hstep
    exact hgoesOn next lines levels dwell hends hleads hplain
  · intro r
    subst hc
    obtain ⟨t, u, hexec, hreach, hturn⟩ := hquiet.resumeTurn hlive hnew hactive hpaused hmode hlate
    have hu : u.player p = s.player p := hreach.player
    rw [State.playerEvent_running o (Bool.false_and _) (by rw [hu]; exact hrun)] at hturn
    obtain ⟨hwaits, hgoesOn⟩ := State.runningEvent_aligns
      (ev := { TbEvent.plain s.params.frameLen with sync := true, unpause := true }) o (by rw [hu]; exact hdeferred)
      (by rw [hu]; exact hact) ((State.currentStep_congr hreach.steps (by rw [hu]) (by rw [hu])).trans hstep) haction
    rw [hreach.alignEnds_iff, ← hturn, hu] at hwaits hgoesOn
    refine ⟨t, hexec, hwaits, fun lines levels dwell hends hgoes => ?_⟩
    obtain ⟨next, hleads, hplain⟩ := hgoes.leadsOn hstep
    exact hgoesOn next lines levels dwell hends
      (hleads.congr hreach.steps (by rw [hu]) (by rw [hu]) (by rw [hu]) (by rw [hu])) hplain

end Sys2Proof.Machine

/-! PROOFS. A FIT step begins where it fits, waits for a frame start, or faults where it can never fit (O23). -/

namespace Sys2Proof.Machine

/-! ### The steps that take FIT (R7) -/

/-- The step is a SET with a dwell or a PULSE, with its phases of these lengths. -/
def Step.phases (st : Step) (lines levels : LineSet) (first second : BitVec 16) : Prop :=
  (st.action = .set lines levels first ∧ first ≠ 0 ∧ second = 0) ∨ st.action = .pulse lines levels first second

/-- The activity that the step begins in. -/
def Step.firstActivity (st : Step) : Activity :=
  match st.action with
  | .pulse .. => .pulseWidth
  | .set .. | .waitEdge .. | .align .. => .stepping

section Phases

variable {st : Step} {lines levels : LineSet} {first second : BitVec 16}

theorem Step.phases.duration_eq (h : st.phases lines levels first second) : st.duration = first.toNat + second.toNat := by
  rcases h with ⟨haction, -, rfl⟩ | haction <;> simp [Step.duration, haction]

theorem Step.phases.guarded_eq (h : st.phases lines levels first second) (hfit : st.fit = true) : st.guarded = true := by
  rcases h with ⟨haction, -, -⟩ | haction <;> simp [Step.guarded, haction, hfit]

theorem Step.phases.beginStep_eq (h : st.phases lines levels first second) (hnote : st.note = false) (s : State) (p : PlayerId) :
    s.beginStep p st = ((s.writeLines lines levels).rest p st.firstActivity first.toNat, .rests) := by
  rcases h with ⟨haction, hdwell, -⟩ | haction
  · rw [State.beginStep_set haction hdwell hnote, Step.firstActivity, haction]
  · rw [State.beginStep_pulse haction hnote, Step.firstActivity, haction]

end Phases

/-! ### The guard's judgement (R58, R59) -/

theorem State.judgeFit_never {s : State} {st : Step} (h : s.params.frameLen < st.duration + s.params.fitMargin) :
    s.judgeFit st = .never := if_pos h

theorem State.judgeFit_fits {s : State} {st : Step} (h : st.duration + s.params.fitMargin ≤ s.params.frameLen)
    (hrun : s.tb.state = .running) (hroom : st.duration + s.params.fitMargin ≤ s.params.frameLen - s.tb.position) :
    s.judgeFit st = .fits := by
  simp [State.judgeFit, Nat.not_lt.mpr h, State.ticking, hrun, hroom]

theorem State.judgeFit_defers {s : State} {st : Step} (h : st.duration + s.params.fitMargin ≤ s.params.frameLen)
    (hroom : ¬(s.tb.state = .running ∧ st.duration + s.params.fitMargin ≤ s.params.frameLen - s.tb.position)) :
    s.judgeFit st = .defers := by
  simpa [State.judgeFit, Nat.not_lt.mpr h, State.ticking] using hroom

theorem State.admitStep_never {s : State} {p : PlayerId} {st : Step} (hstep : s.currentStep p = some st)
    (hguard : st.guarded = true) (hfit : s.judgeFit st = .never) : s.admitStep p = (s.faultPlayer p .neverFits, .rests) := by
  simp only [State.admitStep, hstep, hguard, if_true, hfit]

theorem State.admitStep_fits {s : State} {p : PlayerId} {st : Step} (hstep : s.currentStep p = some st)
    (hguard : st.guarded = true) (hfit : s.judgeFit st = .fits) : s.admitStep p = s.beginStep p st := by
  simp only [State.admitStep, hstep, hguard, if_true, hfit]

theorem State.admitStep_defers {s : State} {p : PlayerId} {st : Step} (hstep : s.currentStep p = some st)
    (hguard : st.guarded = true) (hfit : s.judgeFit st = .defers) : s.admitStep p = (s.rest p .fitWait 0, .rests) := by
  simp only [State.admitStep, hstep, hguard, if_true, hfit]

/-! ### The turn of a player in FIT_WAIT (R60) -/

theorem State.runningEvent_fit {s : State} {p : PlayerId} (o : Order) (ev : TbEvent) (hdeferred : (s.player p).deferred = false)
    (hact : (s.player p).activity = .fitWait) : s.runningEvent o p ev = s.fitEvent p ev := by
  simp [State.runningEvent, hdeferred, hact]

theorem State.fitEvent_waits {s : State} {p : PlayerId} {ev : TbEvent} (h : ev.frame = false) : s.fitEvent p ev = s := by
  simp [State.fitEvent, h]

theorem State.fitEvent_never {s : State} {p : PlayerId} {ev : TbEvent} {st : Step} (h : ev.frame = true)
    (hstep : s.currentStep p = some st) (hfit : s.judgeFit st = .never) : s.fitEvent p ev = s.faultPlayer p .neverFits := by
  simp [State.fitEvent, h, hstep, hfit]

theorem State.fitEvent_fits {s u : State} {p : PlayerId} {ev : TbEvent} {st : Step} (h : ev.frame = true)
    (hstep : s.currentStep p = some st) (hfit : s.judgeFit st = .fits) (hbegin : s.beginStep p st = (u, .rests)) :
    s.fitEvent p ev = u := by
  simp [State.fitEvent, h, hstep, hfit, hbegin, State.follow]

/-- A fault of a player with no admission deferred, nothing due and nothing owed. -/
theorem Player.faultedBy_eq {r : Player} (hdeferred : r.deferred = false) (hdue : r.due = false) (howed : r.owed = none)
    (cause : FaultCause) : r.faultedBy cause = { r with
      state := .faulted, faultCause := some cause, activity := .none, remaining := 0, relaunch := false, holdPending := false,
      replacement := none } := by
  cases r
  cases hdeferred
  cases hdue
  cases howed
  rfl

/-- Settles O23: the guard at the admission after a step that ends, and at a tick in FIT_WAIT. -/
theorem fitStepBeginsWaitsOrFaults : Obligations.FitStepBeginsWaitsOrFaults := by
  refine ⟨fun s c p o l st next lines levels first second h hclear hhalt => ?_,
    fun s c p o st lines levels first second htick hquiet hlate hcommit => ?_⟩
  · intro r hstop hhold hlist hnext hfit hnote hphases activity total fits onto
    have hkind : next.phases lines levels first second := hphases
    have hactivity : activity = next.firstActivity := by
      cases haction : next.action <;> simp only [activity, Step.firstActivity, haction]
    have htotal : next.duration + s.params.fitMargin = total := congrArg (· + s.params.fitMargin) hkind.duration_eq
    have hleads : s.LeadsOn p st next := ⟨hstop, hhalt, hhold, l, hlist, hnext⟩
    have hguard := hkind.guarded_eq hfit
    refine ⟨fun hnever hcalm => ?_, fun hlen hfits => ?_, fun hlen hfits => ?_⟩
    · have hadmit := State.admitStep_never hleads.steppedOn_step hguard (State.judgeFit_never (by exact htotal ▸ hnever))
      rw [State.steppedOn_faultPlayer hcalm hlist] at hadmit
      exact h.exec_admits hleads hadmit (by simpa using hclear)
    · have hadmit := State.admitStep_fits hleads.steppedOn_step hguard
        (State.judgeFit_fits (by exact htotal ▸ hlen) hfits.1 (by exact htotal ▸ hfits.2))
      rw [hkind.beginStep_eq hnote, ← hactivity] at hadmit
      refine h.exec_admits hleads (hadmit.trans ?_) hclear
      exact congrArg (·, Admission.rests) ((s.writeLines lines levels).steppedOn_rest p activity first.toNat)
    · have hadmit := State.admitStep_defers hleads.steppedOn_step hguard
        (State.judgeFit_defers (by exact htotal ▸ hlen) (by exact htotal ▸ hfits))
      rw [s.steppedOn_rest] at hadmit
      exact h.exec_admits hleads hadmit hclear
  · intro r hrun hdeferred hact hstep hnote hphases activity total
    have hkind : st.phases lines levels first second := hphases
    have hactivity : activity = st.firstActivity := by
      cases haction : st.action <;> simp only [activity, Step.firstActivity, haction]
    obtain ⟨t, u, ev, hexec, hreach, hturn⟩ := htick.turn hquiet hlate
    have hu : u.player p = r := hreach.player
    rw [State.playerEvent_running o (hreach.noCommit hcommit) (by rw [hu]; exact hrun),
      State.runningEvent_fit o ev (by rw [hu]; exact hdeferred) (by rw [hu]; exact hact)] at hturn
    have hstep' := hreach.currentStep_eq.trans hstep
    have htotal : st.duration + u.params.fitMargin = total := by rw [hkind.duration_eq, hreach.fitMargin]
    refine ⟨t, hexec, fun hframe => ?_, fun hframe hnever => ?_, fun hframe hlen => ?_⟩
    · rw [hturn, State.fitEvent_waits (Bool.eq_false_iff.mpr fun hc => hframe (hreach.frame.mp hc)), hu]
    · have hfit : u.judgeFit st = .never := State.judgeFit_never (by rw [htotal, hreach.frameLen hframe]; exact hnever)
      rw [hturn, State.fitEvent_never (hreach.frame.mpr hframe) hstep' hfit, State.faultPlayer_player, hu]
      exact Player.faultedBy_eq (r := r) hdeferred (hquiet.2.2.1 p) (hquiet.2.2.2 p) .neverFits
    · have hstart : u.tb.position = 0 := hreach.position.trans (if_pos hframe)
      have hfit : u.judgeFit st = .fits := by
        have hroom : st.duration + u.params.fitMargin ≤ u.params.frameLen := by
          rw [htotal, hreach.frameLen hframe]
          exact hlen
        exact State.judgeFit_fits hroom hreach.running (by rw [hstart]; exact hroom)
      rw [hturn, State.fitEvent_fits (hreach.frame.mpr hframe) hstep' hfit (hkind.beginStep_eq hnote u p), State.rest,
        State.setPlayer_player_same, State.writeLines_player, hu, hactivity]
      exact Player.phase_eq (r := r) hdeferred (hquiet.2.2.1 p) st.firstActivity first.toNat

end Sys2Proof.Machine

/-! PROOFS. What the requests that name a player answer, and what a bind and an unbind move (O11, O12). -/

namespace Sys2Proof.Machine

/-! ### Requests that name a player (R100, R157, R159) -/

theorem onPlayer_finByte {q : Frame} {p : PlayerId} (h : q.payload = [finByte p]) (s : State)
    (own : PlayerId → State × Reply) : onPlayer q s own = own p := by
  simp only [onPlayer, h, playerOf_finByte]

/-- With nothing owed to the player, its request ends as it has acted. -/
theorem thenOwed_still {a : State × Reply} {p : PlayerId} (h : (a.1.player p).owed = none) : thenOwed p a = a := by
  rw [thenOwed, State.owedNow_still h]

/-! ### The lowest-numbered owned line (R107) -/

theorem allLines_getElem {j : Nat} (h : j < allLines.length) : allLines[j] = ⟨j, by simpa [allLines] using h⟩ := by
  simp only [allLines, List.getElem_ofFn, id]

theorem State.firstOwned_none {s : State} {lines : LineSet}
    (h : ∀ k : LineId, lines.getLsbD k.val = true → s.owner k = none) : s.firstOwned lines = none := by
  refine List.findSome?_eq_none_iff.mpr fun k _ => ?_
  split
  case isTrue hk => rw [h k hk, Option.map_none]
  case isFalse => rfl

theorem State.firstOwned_lowest {s : State} {lines : LineSet} {k : LineId} {p : PlayerId}
    (hk : lines.getLsbD k.val = true) (howner : s.owner k = some p)
    (hlow : ∀ j : LineId, j < k → lines.getLsbD j.val = true → s.owner j = none) :
    s.firstOwned lines = some (k, p) := by
  have hlen : k.val < allLines.length := by simp [allLines]
  refine List.findSome?_eq_some_iff.mpr ⟨allLines.take k.val, k, allLines.drop (k.val + 1), ?_, ?_, fun j hj => ?_⟩
  · have hsplit := List.take_append_drop k.val allLines
    rwa [List.drop_eq_getElem_cons hlen, allLines_getElem, eq_comm] at hsplit
  · rw [if_pos hk, howner, Option.map_some]
  · obtain ⟨i, hi, rfl⟩ := List.mem_take_iff_getElem.mp hj
    rw [allLines_getElem]
    split
    case isTrue hline => rw [hlow _ (show i < k.val by omega) hline, Option.map_none]
    case isFalse => rfl

/-! ### What a bind and an unbind move (R70, R71) -/

/-- Nothing but players, lines and the store moves. -/
def OnlyBinds (s t : State) : Prop := t = { s with players := t.players, lines := t.lines, store := t.store }

theorem OnlyBinds.trans {s t u : State} (h1 : OnlyBinds s t) (h2 : OnlyBinds t u) : OnlyBinds s u := by
  unfold OnlyBinds at h1 h2 ⊢
  rw [h2, h1]

theorem State.useDownOpt_onlyBinds (s : State) (l : Option ListId) : OnlyBinds s (s.useDownOpt l) := by
  cases l <;> rfl

theorem State.bindPlayer_onlyBinds (s : State) (p : PlayerId) (l : ListId) (lines : LineSet) :
    OnlyBinds s (s.bindPlayer p l lines) := rfl

theorem State.unbindPlayer_onlyBinds (s : State) (p : PlayerId) : OnlyBinds s (s.unbindPlayer p) := by
  have hlines : OnlyBinds s ((s.idleLines (s.player p).claimed).releaseLines p) := rfl
  have hplayer : ∀ (u : State) (r : Player), OnlyBinds u (u.setPlayer p r) := fun _ _ => rfl
  exact ((hlines.trans (State.useDownOpt_onlyBinds _ _)).trans (State.useDownOpt_onlyBinds _ _)).trans (hplayer _ _)

/-! ### PLAYER_BIND (R70, R107) -/

/-- A player to which the list may be bound: IDLE, and the list SEALED with a footprint within the lines (R70). -/
structure State.MayBind (s : State) (p : PlayerId) (l : ListId) (lines : LineSet) : Prop where
  idle : (s.player p).state = .idle
  isSealed : (s.list l).state = .sealed
  footprint : ∃ fp d, (s.list l).derived = some (fp, d) ∧ fp &&& ~~~lines = 0

section Bind

variable {s : State} {q : Frame} {p : PlayerId} {l : ListId} {lines : LineSet}

/-- Such a request is decided by the owners of the lines. -/
theorem servePlayerBind_mayBind (hq : q.payload = finByte p :: finByte l :: lineBytes lines) (h : s.MayBind p l lines) :
    (s.firstOwned lines = none →
      servePlayerBind q s = (s.bindPlayer p l lines, Reply.of .ok (finByte p :: finByte l :: lineBytes lines))) ∧
    ∀ k p', s.firstOwned lines = some (k, p') → servePlayerBind q s = refuseOwned s k p' := by
  obtain ⟨hidle, hsealed, fp, d, hderived, hfp⟩ := h
  have hwithin : within fp lines = true := by simpa [within] using hfp
  simp only [servePlayerBind, hq, lineBytes, playerOf_finByte, listOf_finByte, linesOf_lineBytes, hidle, ne_eq,
    not_true_eq_false, if_false, hsealed, hderived, hwithin, Bool.true_eq_false, List.cons_append, List.nil_append]
  exact ⟨fun hfirst => by rw [hfirst], fun k p' hfirst => by rw [hfirst]⟩

theorem servePlayerBind_binds (hq : q.payload = finByte p :: finByte l :: lineBytes lines) (h : s.MayBind p l lines)
    (hfree : ∀ k : LineId, lines.getLsbD k.val = true → s.owner k = none) :
    servePlayerBind q s = (s.bindPlayer p l lines, Reply.of .ok (finByte p :: finByte l :: lineBytes lines)) :=
  (servePlayerBind_mayBind hq h).1 (State.firstOwned_none hfree)

theorem servePlayerBind_owned (hq : q.payload = finByte p :: finByte l :: lineBytes lines) (h : s.MayBind p l lines)
    {k : LineId} {p' : PlayerId} (hk : lines.getLsbD k.val = true) (howner : s.owner k = some p')
    (hlow : ∀ j : LineId, j < k → lines.getLsbD j.val = true → s.owner j = none) :
    servePlayerBind q s = refuseOwned s k p' :=
  (servePlayerBind_mayBind hq h).2 k p' (State.firstOwned_lowest hk howner hlow)

end Bind

theorem State.bindPlayer_player (s : State) (p p' : PlayerId) (l : ListId) (lines : LineSet) :
    (s.bindPlayer p l lines).player p' = if p' = p then (s.player p).boundTo l lines else s.player p' := by
  rw [State.bindPlayer_eq, State.useUp_player, State.claimLines_player, State.setPlayer_player]

theorem State.bindPlayer_list (s : State) (p : PlayerId) (l l' : ListId) (lines : LineSet) :
    (s.bindPlayer p l lines).list l' = if l' = l then { s.list l with useCount := (s.list l).useCount + 1 } else s.list l' := by
  rw [State.bindPlayer_eq, State.useUp, State.setList_list, State.claimLines_list, State.setPlayer_list,
    State.claimLines_list, State.setPlayer_list]

theorem State.bindPlayer_owner (s : State) (p : PlayerId) (l : ListId) (lines : LineSet) (k : LineId) :
    (s.bindPlayer p l lines).owner k = if lines.getLsbD k.val then some p else s.owner k := by
  rw [State.bindPlayer_eq, State.useUp_owner, State.claimLines_owner, State.setPlayer_owner]

theorem State.bindPlayer_logical (s : State) (p : PlayerId) (l : ListId) (lines : LineSet) :
    (s.bindPlayer p l lines).lines.logical = s.lines.logical := by
  rw [State.bindPlayer_eq, State.useUp_lines, State.claimLines_logical, State.setPlayer_lines]

/-- Settles O11: the bind, and the refusal that names the lowest owned line. -/
theorem playerBindAttachesListAndClaims : Obligations.PlayerBindAttachesListAndClaims := by
  intro s q rest p l lines fp d h hidle hsealed hderived hfp
  have hmay : (s.taking rest).MayBind p l lines := ⟨hidle, hsealed, fp, d, hderived, hfp⟩
  refine ⟨fun hfree => ?_, fun k p' hk howner hlow => ?_⟩
  · have hserve := servePlayerBind_binds h.payload_eq hmay hfree
    refine ⟨(s.taking rest).bindPlayer p l lines, State.take_answered h rfl rfl hserve,
      (s.taking rest).bindPlayer_onlyBinds p l lines, ?_, fun p' hne => ?_,
      (s.taking rest).bindPlayer_owner p l lines, (s.taking rest).bindPlayer_logical p l lines, ?_, fun l' hne => ?_,
      rfl, rfl⟩
    · rw [State.bindPlayer_player, if_pos rfl]
      rfl
    · rw [State.bindPlayer_player, if_neg hne, State.taking_player]
    · rw [State.bindPlayer_list, if_pos rfl, State.taking_list]
    · rw [State.bindPlayer_list, if_neg hne, State.taking_list]
  · exact State.take_answered h rfl rfl (servePlayerBind_owned h.payload_eq hmay hk howner hlow)

/-! ### PLAYER_UNBIND (R71) -/

theorem servePlayerUnbind_unbinds {s : State} {q : Frame} {p : PlayerId} (hq : q.payload = [finByte p])
    (h : (s.player p).state = .bound ∨ (s.player p).state = .faulted) :
    servePlayerUnbind q s = (s.unbindPlayer p, Reply.of .ok [finByte p, listByte (s.player p).boundList]) := by
  rw [servePlayerUnbind, onPlayer_finByte hq]
  rcases h with h | h <;> rw [h]

theorem servePlayerUnbind_refused {s : State} {q : Frame} {p : PlayerId} (hq : q.payload = [finByte p])
    (h : (s.player p).state = .idle ∨ (s.player p).state = .armed ∨ (s.player p).state = .running ∨
      (s.player p).state = .held) : servePlayerUnbind q s = refuse s .wrongState := by
  rw [servePlayerUnbind, onPlayer_finByte hq]
  rcases h with h | h | h | h <;> rw [h]

/-- How a use count falls depends on the store alone. -/
theorem State.useDownOpt_store_congr {s t : State} (h : t.store = s.store) (l : Option ListId) :
    (t.useDownOpt l).store = (s.useDownOpt l).store := by
  cases l with
  | none => exact h
  | some l => simp only [State.useDownOpt, State.useDown, State.setList, State.list, h]

@[simp] theorem State.useDownOpt_lines (s : State) (l : Option ListId) : (s.useDownOpt l).lines = s.lines := by
  cases l <;> rfl

theorem State.unbindPlayer_store (s : State) (p : PlayerId) : (s.unbindPlayer p).store =
    ((s.useDownOpt (s.player p).boundList).useDownOpt (s.player p).pendingList).store := by
  have hlines : ((s.idleLines (s.player p).claimed).releaseLines p).store = s.store := by
    rw [State.releaseLines_store, State.idleLines_store]
  rw [State.unbindPlayer, State.setPlayer_store]
  exact State.useDownOpt_store_congr (State.useDownOpt_store_congr hlines _) _

theorem State.unbindPlayer_player (s : State) (p p' : PlayerId) : (s.unbindPlayer p).player p' = if p' = p then
    { Player.blank with passLimit := (s.player p).passLimit, stopIndex := (s.player p).stopIndex } else s.player p' := by
  rw [State.unbindPlayer, State.setPlayer_player, State.useDownOpt_player, State.useDownOpt_player,
    State.releaseLines_player, State.idleLines_player]

theorem State.unbindPlayer_lines (s : State) (p : PlayerId) :
    (s.unbindPlayer p).lines = ((s.idleLines (s.player p).claimed).releaseLines p).lines := by
  rw [State.unbindPlayer, State.setPlayer_lines, State.useDownOpt_lines, State.useDownOpt_lines]

theorem State.unbindPlayer_owner (s : State) (p : PlayerId) (k : LineId) :
    (s.unbindPlayer p).owner k = if s.owner k = some p then none else s.owner k := by
  rw [State.owner, s.unbindPlayer_lines]
  exact (s.idleLines _).releaseLines_owner p k

theorem State.unbindPlayer_level (s : State) (p : PlayerId) (k : LineId) :
    (s.unbindPlayer p).lines.logical.getLsbD k.val =
      if (s.player p).claimed.getLsbD k.val then s.params.lineIdle.getLsbD k.val else s.lines.logical.getLsbD k.val := by
  rw [s.unbindPlayer_lines, State.releaseLines_logical]
  exact s.writeLines_level _ _ k

/-- Settles O12: the unbind by its effects, and its lines by owner where the claim table agrees. -/
theorem playerUnbindReturnsToIdleAndReleases : Obligations.PlayerUnbindReturnsToIdleAndReleases := by
  refine ⟨fun s q rest p h => ⟨fun hstate => ?_, fun hstate => ?_⟩, fun s q rest p h hagree hstate => ?_⟩
  · have hserve := servePlayerUnbind_unbinds (s := s.taking rest) h.payload_eq hstate
    refine ⟨(s.taking rest).unbindPlayer p, State.take_answered h rfl rfl hserve,
      (s.taking rest).unbindPlayer_onlyBinds p,
      (s.taking rest).unbindPlayer_owner p, (s.taking rest).unbindPlayer_level p, ?_, fun p' hne => ?_, ?_⟩
    · rw [State.unbindPlayer_player, if_pos rfl, State.taking_player]
    · rw [State.unbindPlayer_player, if_neg hne, State.taking_player]
    · rw [State.unbindPlayer_store]
      exact State.useDownOpt_store_congr (State.useDownOpt_store_congr (s := s) (t := s.taking rest) rfl _) _
  · exact State.take_answered h rfl rfl (servePlayerUnbind_refused (s := s.taking rest) h.payload_eq hstate)
  · obtain ⟨hclaims, -⟩ := hagree
    have hserve := servePlayerUnbind_unbinds (s := s.taking rest) h.payload_eq hstate
    refine ⟨_, State.take_answered h rfl rfl hserve, fun k => ?_⟩
    rw [State.transmit_owner, State.transmit_lines, State.queueReply_owner, State.queueReply_lines,
      State.unbindPlayer_owner, State.unbindPlayer_level]
    exact ⟨fun howned => ⟨if_pos howned, if_pos ((hclaims k p).mp howned)⟩,
      fun hother => ⟨if_neg hother, if_neg fun hclaim => hother ((hclaims k p).mpr hclaim)⟩⟩

end Sys2Proof.Machine

/-! PROOFS. A run begins at its step 0, and PLAYER_START arms, begins or queues (O13). -/

namespace Sys2Proof.Machine

/-- What a list has at an index depends on the player's bound list and the steps of lists. -/
theorem State.plainAt.congr {s t : State} {p : PlayerId} {i : Nat} {lines levels : LineSet} {dwell : BitVec 16}
    (h : s.plainAt p i lines levels dwell) (hsteps : ∀ l, (t.list l).steps = (s.list l).steps)
    (hlist : (t.player p).boundList = (s.player p).boundList) : t.plainAt p i lines levels dwell := by
  simpa only [State.plainAt, hsteps, hlist] using h

/-- The record of a player whose run begins (R76), before its step 0 is admitted. -/
def Player.begun (r : Player) : Player :=
  { r with state := .running, startPoint := none, passCount := 0, relaunch := false }

/-! ### The record at step 0 (R87) -/

theorem Player.atStepZero_begins {r : Player} (h : r.passBegun = false) (dwell : BitVec 16) : r.atStepZero dwell = { r with
    index := 0, activity := .stepping, remaining := dwell.toNat, deferred := false, due := false, passBegun := true } :=
  if_neg (by rw [h]; exact Bool.false_ne_true)

theorem Player.atStepZero_deferred {r : Player} (h : r.passBegun = true) (dwell : BitVec 16) : r.atStepZero dwell =
    { r with index := 0, activity := .stepping, remaining := 0, deferred := true, due := false } :=
  if_pos h

@[simp] theorem Player.atStepZero_owed (r : Player) (dwell : BitVec 16) : (r.atStepZero dwell).owed = r.owed := by
  unfold Player.atStepZero
  split <;> rfl

/-! ### The begin of a run on a plain SET (R76, R87) -/

/-- The record with which step 0 of a run is admitted (R76). -/
def Player.enteringRun (r : Player) : Player := { r.begun with index := 0, deferred := false, due := false }

theorem Player.enteringRun_atStepZero (r : Player) (dwell : BitVec 16) :
    r.enteringRun.atStepZero dwell = r.begun.atStepZero dwell := rfl

/-- A run begins after a change of the player's own record. -/
theorem State.setPlayer_beginRun {s : State} {p : PlayerId} {r : Player} {lines levels : LineSet} {dwell : BitVec 16}
    (cause : StartCause) (h : (s.setPlayer p r).plainAt p 0 lines levels dwell) :
    let s1 := s.produce (.started p r.boundList cause)
    (s.setPlayer p r).beginRun p cause =
      (if r.passBegun then s1 else s1.writeLines lines levels).setPlayer p (r.begun.atStepZero dwell) := by
  intro s1
  have hrun : (s.setPlayer p r).beginRun p cause = (s1.setPlayer p r.enteringRun).admitChain p := by
    rw [State.beginRun, State.setPlayer_player_same, State.setPlayer_setPlayer, State.setPlayer_produce]
    rfl
  have hplain : (s1.setPlayer p r.enteringRun).plainAt p 0 lines levels dwell := by
    refine h.congr (fun l => ?_) ?_
    · rw [State.setPlayer_list, State.produce_list, State.setPlayer_list]
    · rw [State.setPlayer_player_same, State.setPlayer_player_same]
      rfl
  rw [hrun, State.admitChain_stepZero (by rw [State.setPlayer_player_same]; rfl) hplain, State.setPlayer_player_same,
    Player.enteringRun_atStepZero, show r.enteringRun.passBegun = r.passBegun from rfl]
  split <;> simp only [State.setPlayer_writeLines, State.setPlayer_setPlayer]

/-- The run of a player whose list begins with a plain SET: a STARTED notice, and step 0 begins or is deferred. -/
theorem State.beginRun_stepZero {s : State} {p : PlayerId} {lines levels : LineSet} {dwell : BitVec 16} (cause : StartCause)
    (h : s.plainAt p 0 lines levels dwell) :
    let s1 := s.produce (.started p (s.player p).boundList cause)
    s.beginRun p cause = (if (s.player p).passBegun then s1 else s1.writeLines lines levels).setPlayer p
      ((s.player p).begun.atStepZero dwell) := by
  have hrun := State.setPlayer_beginRun (s := s) (r := s.player p) cause (by rwa [s.setPlayer_self])
  rwa [s.setPlayer_self] at hrun

/-! ### PLAYER_START (R72 to R74) -/

section Start

variable {s t : State} {q : Frame} {p : PlayerId} {sp : StartPoint} {spb inb limit stop : Byte} (o : Order)

theorem servePlayerStart_notClear (hq : q.payload = [finByte p, spb, inb, limit, stop]) (hsp : startPointOf spb inb = .ok sp)
    (hsafe : s.safe.state ≠ .clear) : servePlayerStart o q s = refuse s .safeActive := by
  have hclear : s.safeClear = false := Bool.eq_false_iff.mpr fun hc => hsafe (s.safeClear_iff.mp hc)
  simp only [servePlayerStart, hq, playerOf_finByte, hsp, hclear, if_true]

/-- In CLEAR the request is decided by the player's state. -/
theorem servePlayerStart_clear (hq : q.payload = [finByte p, spb, inb, limit, stop]) (hsp : startPointOf spb inb = .ok sp)
    (hsafe : s.safe.state = .clear) :
    ((s.player p).state = .bound ∨ (s.player p).state = .armed → servePlayerStart o q s =
      thenOwed p ((s.startPlayer p sp limit.toNat (stopOf stop)).settle o, startReply (s.player p).state sp)) ∧
    ((s.player p).state = .running → servePlayerStart o q s = if (s.player p).relaunch then refuse s .already
      else thenOwed p (s.setPlayer p { s.player p with relaunch := true }, Reply.bare .queued)) ∧
    ((s.player p).state = .idle ∨ (s.player p).state = .held ∨ (s.player p).state = .faulted →
      servePlayerStart o q s = refuse s .wrongState) := by
  simp only [servePlayerStart, hq, playerOf_finByte, hsp, s.safeClear_iff.mpr hsafe, Bool.true_eq_false, if_false]
  refine ⟨fun h => ?_, fun h => ?_, fun h => ?_⟩
  · rcases h with h | h <;> rw [h]
  · rw [h]
  · rcases h with h | h | h <;> rw [h]

/-- A BOUND or ARMED player is started as it stands, with no entry and nothing owed after it. -/
theorem servePlayerStart_starts (hq : q.payload = [finByte p, spb, inb, limit, stop]) (hsp : startPointOf spb inb = .ok sp)
    (hsafe : s.safe.state = .clear) (hstate : (s.player p).state = .bound ∨ (s.player p).state = .armed)
    (ht : s.startPlayer p sp limit.toNat (stopOf stop) = t) (hclear : t.safe.state = .clear)
    (howed : (t.player p).owed = none) : servePlayerStart o q s = (t, startReply (s.player p).state sp) := by
  obtain ⟨hstarts, -⟩ := servePlayerStart_clear (limit := limit) (stop := stop) o hq hsp hsafe
  rw [hstarts hstate, ht, State.settle_clear o hclear]
  exact thenOwed_still howed

end Start

/-- The record with the pass limit and stop index of a start (R72). -/
def Player.limited (r : Player) (passLimit : Nat) (stopIndex : Option Nat) : Player :=
  { r with passLimit := passLimit, stopIndex := stopIndex }

theorem State.startPlayer_arms (s : State) (p : PlayerId) {sp : StartPoint} (h : sp ≠ .now) (passLimit : Nat)
    (stopIndex : Option Nat) : s.startPlayer p sp passLimit stopIndex = s.setPlayer p { s.player p with
      state := .armed, startPoint := some sp, passLimit := passLimit, stopIndex := stopIndex } := by
  have harm : ∀ sp, (s.setLimits p passLimit stopIndex).armPlayer p sp = s.setPlayer p { s.player p with
      state := .armed, startPoint := some sp, passLimit := passLimit, stopIndex := stopIndex } := fun sp => by
    rw [State.armPlayer, State.setLimits, State.setPlayer_setPlayer, State.setPlayer_player_same]
  cases sp with
  | now => exact absurd rfl h
  | frame | superframe | sync | input n => exact harm _

/-- The reply to a start point other than NOW tells the state before it. -/
theorem startReply_arms {sp : StartPoint} (h : sp ≠ .now) :
    startReply .bound sp = Reply.of .pending [] ∧ startReply .armed sp = Reply.of .ok [PlayerState.armed.code] := by
  cases sp with
  | now => exact absurd rfl h
  | frame | superframe | sync | input n => exact ⟨rfl, rfl⟩

/-- Settles O13: arming, what the other states make of a start, and NOW on a plain SET. -/
theorem playerStartBeginsArmsOrQueues : Obligations.PlayerStartBeginsArmsOrQueues := by
  refine ⟨fun s q rest o p sp limit stop h hnow hclear howed => ?_, fun s q rest o p sp limit stop h => ?_,
    fun s q rest o p l st lines levels dwell limit stop h hclear howed hstate hlist hst haction hfit hnote hdwell => ?_⟩
  · intro t
    have hserve : ∀ state, state = .bound ∨ state = .armed → (s.player p).state = state →
        servePlayerStart o q (s.taking rest) = (t, startReply state sp) := fun state hor hstate => by
      rw [← hstate]
      exact servePlayerStart_starts (s := s.taking rest) o h.payload_eq (startPointOf_code sp) hclear
        (by rwa [State.taking_player, hstate]) ((s.taking rest).startPlayer_arms p hnow _ _) hclear
        (by rw [State.setPlayer_player_same]; exact howed)
    obtain ⟨hbound, harmed⟩ := startReply_arms hnow
    refine ⟨fun hstate => State.take_answered h rfl rfl ?_, fun hstate => State.take_answered h rfl rfl ?_⟩
    · rw [hserve _ (.inl rfl) hstate, hbound]
    · rw [hserve _ (.inr rfl) hstate, harmed]
  · refine ⟨fun hsafe => ?_, fun hclear hrun => ⟨fun hnone howed => ?_, fun hqueued => ?_⟩, fun hclear hstate => ?_⟩
    · exact State.take_answered h rfl rfl (servePlayerStart_notClear o h.payload_eq (startPointOf_code sp) hsafe)
    all_goals
      obtain ⟨-, hrunning, hrefused⟩ :=
        servePlayerStart_clear (s := s.taking rest) o h.payload_eq (startPointOf_code sp) hclear
    · refine State.take_answered h rfl rfl ?_
      rw [hrunning hrun, State.taking_player, hnone, if_neg Bool.false_ne_true]
      exact thenOwed_still (by rw [State.setPlayer_player_same]; exact howed)
    · refine State.take_answered h rfl rfl ?_
      rw [hrunning hrun, State.taking_player, if_pos hqueued]
      rfl
    · exact State.take_answered h rfl rfl (hrefused hstate)
  · intro begun s1
    have hplain : ((s.taking rest).setLimits p limit.toNat (stopOf stop)).plainAt p 0 lines levels dwell :=
      ⟨l, st, by rw [State.setLimits, State.setPlayer_player_same]; exact hlist, hst, haction, hdwell, hfit, hnote⟩
    have hs1 : s1 = (s.taking rest).produce (.started p (s.player p).boundList .now) := by rw [hlist]
    have hstart : (s.taking rest).startPlayer p .now limit.toNat (stopOf stop) =
        (if (s.player p).passBegun then s1 else s1.writeLines lines levels).setPlayer p (Player.atStepZero
          ((s.player p).limited limit.toNat (stopOf stop)).begun dwell) := by
      rw [hs1]
      exact State.setPlayer_beginRun .now hplain
    have hexec := State.take_answered h rfl rfl (servePlayerStart_starts (s := s.taking rest) o h.payload_eq (sp := .now) rfl
      hclear hstate hstart (by rw [State.setPlayer_safe]; split <;> exact (State.produce_safe _ _).symm ▸ hclear)
      (by rw [State.setPlayer_player_same, Player.atStepZero_owed]; exact howed))
    refine ⟨fun hbegun => ?_, fun hbegun => ?_⟩
    · rw [Player.atStepZero_begins (r := ((s.player p).limited limit.toNat (stopOf stop)).begun) hbegun, hbegun,
        if_neg Bool.false_ne_true] at hexec
      exact hexec
    · rw [Player.atStepZero_deferred (r := ((s.player p).limited limit.toNat (stopOf stop)).begun) hbegun,
        if_pos hbegun] at hexec
      exact hexec

end Sys2Proof.Machine

/-! PROOFS. The requests that move a player's record alone, and PLAYER_STOP (O14, O15). -/

namespace Sys2Proof.Machine

/-! ### PLAYER_CANCEL (R77) -/

section Cancel

variable {s : State} {q : Frame} {p : PlayerId}

theorem servePlayerCancel_armed (hq : q.payload = [finByte p]) (h : (s.player p).state = .armed)
    (howed : (s.player p).owed = none) : servePlayerCancel q s =
      okBare (s.setPlayer p { s.player p with state := .bound, startPoint := none }) := by
  rw [servePlayerCancel, onPlayer_finByte hq, h]
  exact thenOwed_still (by rw [okBare, State.setPlayer_player_same]; exact howed)

theorem servePlayerCancel_bound (hq : q.payload = [finByte p]) (h : (s.player p).state = .bound) :
    servePlayerCancel q s = refuse s .already := by
  rw [servePlayerCancel, onPlayer_finByte hq, h]

theorem servePlayerCancel_refused (hq : q.payload = [finByte p])
    (h : (s.player p).state = .idle ∨ (s.player p).state = .running ∨ (s.player p).state = .held ∨
      (s.player p).state = .faulted) : servePlayerCancel q s = refuse s .wrongState := by
  rw [servePlayerCancel, onPlayer_finByte hq]
  rcases h with h | h | h | h <;> rw [h]

/-! ### PLAYER_CLEAR (R82) -/

theorem servePlayerClear_faulted (hq : q.payload = [finByte p]) (h : (s.player p).state = .faulted) :
    servePlayerClear q s = okBare (s.setPlayer p { s.player p with
      state := .bound, faultCause := none, index := 0, passCount := 0, activity := .none }) := by
  rw [servePlayerClear, onPlayer_finByte hq]
  simp only [h]

theorem servePlayerClear_bound (hq : q.payload = [finByte p]) (h : (s.player p).state = .bound) :
    servePlayerClear q s = refuse s .already := by
  rw [servePlayerClear, onPlayer_finByte hq]
  simp only [h]

theorem servePlayerClear_refused (hq : q.payload = [finByte p])
    (h : (s.player p).state = .idle ∨ (s.player p).state = .armed ∨ (s.player p).state = .running ∨
      (s.player p).state = .held) : servePlayerClear q s = refuse s .wrongState := by
  rw [servePlayerClear, onPlayer_finByte hq]
  rcases h with h | h | h | h <;> simp only [h]

/-! ### PLAYER_HOLD (R79) -/

theorem servePlayerHold_pends (hq : q.payload = [finByte p])
    (h : (s.player p).state = .running ∨ ((s.player p).state = .held ∧ (s.player p).holdCause = some .safe))
    (howed : (s.player p).owed = none) : servePlayerHold q s =
      (s.setPlayer p { s.player p with holdPending := true }, Reply.bare .pending) := by
  rw [servePlayerHold, onPlayer_finByte hq]
  rcases h with hrun | ⟨hheld, hcause⟩
  · simp only [hrun]
    exact thenOwed_still (by rw [State.setPlayer_player_same]; exact howed)
  · simp only [hheld, hcause, if_true]
    exact thenOwed_still (by rw [State.setPlayer_player_same]; exact howed)

theorem servePlayerHold_held (hq : q.payload = [finByte p]) (h : (s.player p).state = .held)
    (hcause : (s.player p).holdCause ≠ some .safe) : servePlayerHold q s = refuse s .already := by
  rw [servePlayerHold, onPlayer_finByte hq]
  simp only [h, if_neg hcause]

theorem servePlayerHold_refused (hq : q.payload = [finByte p])
    (h : (s.player p).state = .idle ∨ (s.player p).state = .bound ∨ (s.player p).state = .armed ∨
      (s.player p).state = .faulted) : servePlayerHold q s = refuse s .wrongState := by
  rw [servePlayerHold, onPlayer_finByte hq]
  rcases h with h | h | h | h <;> simp only [h]

/-! ### PLAYER_SET_STOP (R81) -/

theorem servePlayerSetStop_sets {stop : Byte} (hq : q.payload = [finByte p, stop]) (h : (s.player p).state ≠ .idle)
    (howed : (s.player p).owed = none) : servePlayerSetStop q s =
      (s.setPlayer p { s.player p with stopIndex := stopOf stop }, Reply.of .ok [stopByte (s.player p).stopIndex, stop]) := by
  simp only [servePlayerSetStop, hq, playerOf_finByte, if_neg h]
  exact thenOwed_still (by rw [State.setPlayer_player_same]; exact howed)

theorem servePlayerSetStop_idle {stop : Byte} (hq : q.payload = [finByte p, stop]) (h : (s.player p).state = .idle) :
    servePlayerSetStop q s = refuse s .wrongState := by
  simp only [servePlayerSetStop, hq, playerOf_finByte, if_pos h]

end Cancel

/-- A stop index is reported as its byte, and NONE as FFh. -/
theorem stopByte_eq (i : Option Nat) : stopByte i = (i.map byteOf).getD 0xFF := by
  cases i <;> rfl

/-- Settles O14: each request in the states that it moves and in the others. -/
theorem cancelClearHoldAndSetStopMoveTheRecordAlone : Obligations.CancelClearHoldAndSetStopMoveTheRecordAlone := by
  refine ⟨fun s q rest p h => ⟨fun hstate howed => ?_, fun hstate => ?_, fun hstate => ?_⟩,
    fun s q rest p h => ⟨fun hstate => ?_, fun hstate => ?_, fun hstate => ?_⟩,
    fun s q rest p h => ⟨fun hstate howed => ?_, fun hstate hcause => ?_, fun hstate => ?_⟩,
    fun s q rest p stop h => ⟨fun hstate howed => ?_, fun hstate => ?_⟩⟩
  · exact State.take_answered h rfl rfl (servePlayerCancel_armed (s := s.taking rest) h.payload_eq hstate howed)
  · exact State.take_answered h rfl rfl (servePlayerCancel_bound (s := s.taking rest) h.payload_eq hstate)
  · exact State.take_answered h rfl rfl (servePlayerCancel_refused (s := s.taking rest) h.payload_eq hstate)
  · exact State.take_answered h rfl rfl (servePlayerClear_faulted (s := s.taking rest) h.payload_eq hstate)
  · exact State.take_answered h rfl rfl (servePlayerClear_bound (s := s.taking rest) h.payload_eq hstate)
  · exact State.take_answered h rfl rfl (servePlayerClear_refused (s := s.taking rest) h.payload_eq hstate)
  · exact State.take_answered h rfl rfl (servePlayerHold_pends (s := s.taking rest) h.payload_eq hstate howed)
  · exact State.take_answered h rfl rfl (servePlayerHold_held (s := s.taking rest) h.payload_eq hstate hcause)
  · exact State.take_answered h rfl rfl (servePlayerHold_refused (s := s.taking rest) h.payload_eq hstate)
  · rw [← stopByte_eq]
    exact State.take_answered h rfl rfl (servePlayerSetStop_sets (s := s.taking rest) h.payload_eq hstate howed)
  · exact State.take_answered h rfl rfl (servePlayerSetStop_idle (s := s.taking rest) h.payload_eq hstate)

/-! ### PLAYER_STOP (R78) -/

theorem State.commitAtPassEnd_still {s : State} {p : PlayerId} (h : ∀ l, (s.player p).replacement ≠ some (l, .passEnd)) :
    s.commitAtPassEnd p = s := by
  unfold State.commitAtPassEnd
  split
  case h_1 l hl => exact absurd hl (h l)
  case h_2 => rfl

theorem State.commitAtPassEnd_commits {s : State} {p : PlayerId} {l : ListId}
    (h : (s.player p).replacement = some (l, .passEnd)) : s.commitAtPassEnd p = s.commitRecord p l .passEnd := by
  rw [State.commitAtPassEnd, h]

/-- A commit that follows a change of the player's own record. -/
theorem State.setPlayer_commitRecord (s : State) (p : PlayerId) (r : Player) (new : ListId) (point : CommitPoint) :
    (s.setPlayer p r).commitRecord p new point =
      ((s.setPlayer p (r.committed new)).useDownOpt r.boundList).produce (.replaced p r.boundList new point) := by
  rw [State.commitRecord_eq, State.setPlayer_player_same, State.setPlayer_setPlayer]

/-- The record of a player whose activity has ended at a stop (R78). -/
def Player.stopped (r : Player) : Player :=
  { r with
    state := .bound, relaunch := false, holdPending := false, startPoint := none, holdCause := none, index := 0,
    activity := .none, remaining := 0, deferred := false, due := false }

theorem State.stopPlayer_plain {s : State} {p : PlayerId} (h : ∀ l, (s.player p).replacement ≠ some (l, .passEnd)) :
    s.stopPlayer p = (s.idleLines (s.player p).claimed).setPlayer p (s.player p).stopped :=
  State.commitAtPassEnd_still fun l => by rw [State.setPlayer_player_same]; exact h l

theorem State.stopPlayer_commits {s : State} {p : PlayerId} {l : ListId}
    (h : (s.player p).replacement = some (l, .passEnd)) : s.stopPlayer p =
      (((s.idleLines (s.player p).claimed).setPlayer p ((s.player p).stopped.committed l)).useDownOpt
        (s.player p).boundList).produce (.replaced p (s.player p).boundList l .passEnd) :=
  (State.commitAtPassEnd_commits (by rw [State.setPlayer_player_same]; exact h)).trans
    (State.setPlayer_commitRecord _ p (s.player p).stopped l .passEnd)

section Stop

variable {s t : State} {q : Frame} {p : PlayerId}

theorem servePlayerStop_stops (hq : q.payload = [finByte p])
    (h : (s.player p).state = .armed ∨ (s.player p).state = .running ∨ (s.player p).state = .held)
    (ht : s.stopPlayer p = t) (howed : (t.player p).owed = none) : servePlayerStop q s =
      (t, Reply.of .ok [(s.player p).state.code, byteOf (s.player p).index, byteOf (s.player p).passCount]) := by
  rw [servePlayerStop, onPlayer_finByte hq]
  simp only [ht]
  rcases h with h | h | h <;> simp only [h] <;> exact thenOwed_still howed

theorem servePlayerStop_bound (hq : q.payload = [finByte p]) (h : (s.player p).state = .bound) :
    servePlayerStop q s = refuse s .already := by
  rw [servePlayerStop, onPlayer_finByte hq]
  simp only [h]

theorem servePlayerStop_refused (hq : q.payload = [finByte p])
    (h : (s.player p).state = .idle ∨ (s.player p).state = .faulted) : servePlayerStop q s = refuse s .wrongState := by
  rw [servePlayerStop, onPlayer_finByte hq]
  rcases h with h | h <;> simp only [h]

end Stop

/-- Settles O15: the stop without and with a PASS_END replacement, and the other states. -/
theorem playerStopEndsTheActivity : Obligations.PlayerStopEndsTheActivity := by
  intro s q rest p h r fields stopped idle
  refine ⟨fun hstate howed => ⟨fun hnone => ?_, fun l hpending => ?_⟩, fun hstate => ?_, fun hstate => ?_⟩
  · exact State.take_answered h rfl rfl (servePlayerStop_stops (s := s.taking rest) h.payload_eq hstate
      (State.stopPlayer_plain (s := s.taking rest) hnone) (by rw [State.setPlayer_player_same]; exact howed))
  · exact State.take_answered h rfl rfl (servePlayerStop_stops (s := s.taking rest) h.payload_eq hstate
      (State.stopPlayer_commits (s := s.taking rest) hpending) (by
        rw [State.produce_player, State.useDownOpt_player, State.setPlayer_player_same]
        exact howed))
  · exact State.take_answered h rfl rfl (servePlayerStop_bound (s := s.taking rest) h.payload_eq hstate)
  · exact State.take_answered h rfl rfl (servePlayerStop_refused (s := s.taking rest) h.payload_eq hstate)

end Sys2Proof.Machine

/-! PROOFS. PLAYER_RESUME goes on with a frozen step, or admits the one at the player's index (O16). -/

namespace Sys2Proof.Machine

/-! ### A HELD player returns to RUNNING (R80, R138) -/

/-- The record of a player that is held no more. -/
def Player.unheld (r : Player) : Player := { r with state := .running, holdCause := none }

/-- The state in which the player goes on. -/
def State.unheld (s : State) (p : PlayerId) : State := s.setPlayer p (s.player p).unheld

@[simp] theorem State.unheld_player (s : State) (p : PlayerId) : (s.unheld p).player p = (s.player p).unheld :=
  s.setPlayer_player_same p _

theorem State.unheld_setPlayer (s : State) (p : PlayerId) (r : Player) : (s.unheld p).setPlayer p r = s.setPlayer p r :=
  s.setPlayer_setPlayer p _ r

theorem State.unheld_currentStep (s : State) (p : PlayerId) : (s.unheld p).currentStep p = s.currentStep p :=
  State.currentStep_congr (fun _ => rfl) (by rw [s.unheld_player]; rfl) (by rw [s.unheld_player]; rfl)

theorem State.LeadsOn.unheld {s : State} {p : PlayerId} {st next : Step} (h : s.LeadsOn p st next) :
    (s.unheld p).LeadsOn p st next :=
  h.congr (fun _ => rfl) (by rw [s.unheld_player]; rfl) (by rw [s.unheld_player]; rfl) (by rw [s.unheld_player]; rfl)
    (by rw [s.unheld_player]; rfl)

section Resume

variable {s : State} {p : PlayerId} {st : Step} {n : InputId} {timeout offset : BitVec 16}

theorem State.resumePlayer_counts (h : (s.player p).activity = .stepping ∨ (s.player p).activity = .pulseWidth ∨
    (s.player p).activity = .fitWait) : s.resumePlayer p = s.unheld p := by
  rcases h with h | h | h <;> simp only [State.resumePlayer, h, State.unheld, Player.unheld]

theorem State.resumePlayer_admits (h : (s.player p).activity = .none) : s.resumePlayer p = (s.unheld p).admitChain p := by
  simp only [State.resumePlayer, h, State.unheld, Player.unheld]

/-- A frozen WAIT_EDGE looks at its latch. -/
theorem State.resumePlayer_wait (h : (s.player p).activity = .edgeWait) (hstep : s.currentStep p = some st)
    (haction : st.action = .waitEdge n timeout) : s.resumePlayer p = (s.unheld p).resumeWait p st n := by
  have hstep' := (s.unheld_currentStep p).trans hstep
  simp only [State.unheld, Player.unheld, h] at hstep' ⊢
  simp only [State.resumePlayer, h, hstep', haction]

/-- A frozen ALIGN looks at the position. -/
theorem State.resumePlayer_align (h : (s.player p).activity = .alignWait) (hstep : s.currentStep p = some st)
    (haction : st.action = .align offset) :
    s.resumePlayer p = if s.alignedAt offset then (s.unheld p).endStep p st else s.unheld p := by
  have hstep' := (s.unheld_currentStep p).trans hstep
  simp only [State.unheld, Player.unheld, h] at hstep' ⊢
  simp only [State.resumePlayer, h, hstep', haction]
  rfl

theorem State.resumeWait_waits (h : (s.input n).pending = false) : s.resumeWait p st n = s := by
  simp only [State.resumeWait, h, Bool.false_eq_true, if_false]

theorem State.resumeWait_ends (h : (s.input n).pending = true) (hstrict : (st.strict && (s.input n).doubled) = false) :
    s.resumeWait p st n = (s.clearLatch n).endStep p st := by
  simp only [State.resumeWait, h, hstrict, if_true, Bool.false_eq_true, if_false]

theorem State.resumeWait_doubled (h : (s.input n).pending = true) (hstrict : (st.strict && (s.input n).doubled) = true) :
    s.resumeWait p st n = (s.clearLatch n).faultPlayer p .edgeDoubled := by
  simp only [State.resumeWait, h, hstrict, if_true]

/-- A frozen step that ends at the resume and leads on to a plain SET. -/
theorem State.LeadsOn.unheld_endStep {next : Step} {lines levels : LineSet} {dwell : BitVec 16} (h : s.LeadsOn p st next)
    (hplain : next.plainSet lines levels dwell) : (s.unheld p).endStep p st =
      (s.writeLines lines levels).setPlayer p ((s.player p).unheld.goneOn dwell) := by
  rw [h.unheld.endStep_plainSet hplain, s.unheld_player]
  exact (s.writeLines lines levels).unheld_setPlayer p _

/-- A plain SET at an index other than 0 begins at its admission, whatever has begun in this tick. -/
theorem State.admitChain_later {lines levels : LineSet} {dwell : BitVec 16} (hindex : (s.player p).index ≠ 0)
    (hplain : s.plainAt p (s.player p).index lines levels dwell) :
    s.admitChain p = (s.writeLines lines levels).rest p .stepping dwell.toNat := by
  obtain ⟨l, next, hlist, hnext, haction, hdwell, hfit, hnote⟩ := hplain
  have hstep : s.currentStep p = some next := by simpa only [State.currentStep, hlist] using hnext
  rw [State.admitChain_set hindex hstep haction hdwell hfit, State.noteBegin_silent hnote]

/-! ### What the resume makes of each activity (R80, R124, R138) -/

/-- A frozen phase, a frozen wait whose latch is not pending and an ALIGN away from its offset go on as they were. -/
theorem State.resumePlayer_goesOn (h : (s.player p).activity = .stepping ∨ (s.player p).activity = .pulseWidth ∨
    (s.player p).activity = .fitWait ∨
    ((s.player p).activity = .edgeWait ∧ ∃ st n timeout, s.currentStep p = some st ∧ st.action = .waitEdge n timeout ∧
      (s.input n).pending = false) ∨
    ((s.player p).activity = .alignWait ∧ ∃ st offset, s.currentStep p = some st ∧ st.action = .align offset ∧
      ¬(s.tb.state = .running ∧ s.tb.position = offset.toNat))) : s.resumePlayer p = s.unheld p := by
  rcases h with hact | hact | hact | ⟨hact, st, n, timeout, hstep, haction, hpending⟩ |
    ⟨hact, st, offset, hstep, haction, hoff⟩
  · exact State.resumePlayer_counts (.inl hact)
  · exact State.resumePlayer_counts (.inr (.inl hact))
  · exact State.resumePlayer_counts (.inr (.inr hact))
  · exact (State.resumePlayer_wait hact hstep haction).trans (State.resumeWait_waits hpending)
  · exact (State.resumePlayer_align hact hstep haction).trans (if_neg fun hc => hoff ((s.alignedAt_iff offset).mp hc))

section Onto

variable {lines levels : LineSet} {dwell : BitVec 16}

/-- An ALIGN at its offset ends. -/
theorem State.resumePlayer_align_ends (hact : (s.player p).activity = .alignWait) (hstep : s.currentStep p = some st)
    (haction : st.action = .align offset) (hat : s.tb.state = .running ∧ s.tb.position = offset.toNat)
    (hgoes : s.goesOn p lines levels dwell) :
    s.resumePlayer p = (s.writeLines lines levels).setPlayer p ((s.player p).unheld.goneOn dwell) := by
  obtain ⟨next, hleads, hplain⟩ := hgoes.leadsOn hstep
  rw [State.resumePlayer_align hact hstep haction, if_pos ((s.alignedAt_iff offset).mpr hat), hleads.unheld_endStep hplain]

/-- A pending latch is consumed, and its wait ends. -/
theorem State.resumePlayer_wait_ends (hact : (s.player p).activity = .edgeWait) (hstep : s.currentStep p = some st)
    (haction : st.action = .waitEdge n timeout) (hpending : (s.input n).pending = true)
    (hstrict : st.strict = false ∨ (s.input n).doubled = false) (hgoes : s.goesOn p lines levels dwell) :
    s.resumePlayer p = ((s.clearLatch n).writeLines lines levels).setPlayer p ((s.player p).unheld.goneOn dwell) := by
  have hboth : (st.strict && (s.input n).doubled) = false := by rcases hstrict with h | h <;> simp [h]
  obtain ⟨next, hleads, hplain⟩ := State.goesOn.leadsOn (s := s.clearLatch n) hgoes hstep
  rw [State.resumePlayer_wait hact hstep haction, State.resumeWait_ends (s := s.unheld p) hpending hboth]
  exact hleads.unheld_endStep hplain

/-- With no step in flight the step at an index other than 0 begins. -/
theorem State.resumePlayer_later (hact : (s.player p).activity = .none) (hindex : (s.player p).index ≠ 0)
    (hplain : s.plainAt p (s.player p).index lines levels dwell) : s.resumePlayer p =
      (s.writeLines lines levels).setPlayer p { (s.player p).unheld with
        activity := .stepping, remaining := dwell.toNat, deferred := false, due := false } := by
  rw [State.resumePlayer_admits hact, State.admitChain_later (by rw [s.unheld_player]; exact hindex)
    (by rw [s.unheld_player]; exact hplain.congr (fun _ => rfl) (by rw [s.unheld_player]; rfl))]
  exact (s.writeLines lines levels).setPlayer_rest p _ .stepping dwell.toNat

/-- Step 0 begins with its pass, or is deferred. -/
theorem State.resumePlayer_stepZero (hact : (s.player p).activity = .none) (hindex : (s.player p).index = 0)
    (hplain : s.plainAt p 0 lines levels dwell) : s.resumePlayer p =
      (if (s.player p).passBegun then s else s.writeLines lines levels).setPlayer p ((s.player p).unheld.atStepZero dwell) := by
  rw [State.resumePlayer_admits hact, State.admitChain_stepZero (s := s.unheld p) (by rw [s.unheld_player]; exact hindex)
    (hplain.congr (fun _ => rfl) (by rw [s.unheld_player]; rfl)), s.unheld_player,
    show (s.player p).unheld.passBegun = (s.player p).passBegun from rfl]
  split
  · exact s.unheld_setPlayer p _
  · exact (s.writeLines lines levels).unheld_setPlayer p _

end Onto

/-- A fault of a player to which nothing is owed. -/
theorem Player.faultedBy_nothingOwed {r : Player} (howed : r.owed = none) (cause : FaultCause) : r.faultedBy cause = { r with
    state := .faulted, faultCause := some cause, activity := .none, remaining := 0, relaunch := false, holdPending := false,
    replacement := none, deferred := false, due := false } := by
  cases r
  cases howed
  rfl

/-- A STRICT wait faults on a doubled latch, which it consumes. -/
theorem State.resumePlayer_faults (hact : (s.player p).activity = .edgeWait) (hstep : s.currentStep p = some st)
    (haction : st.action = .waitEdge n timeout) (hpending : (s.input n).pending = true) (hstrict : st.strict = true)
    (hdoubled : (s.input n).doubled = true) (hcalm : s.params.faultToSafe = false) : s.resumePlayer p =
      ((((s.clearLatch n).idleLines (s.player p).claimed).setPlayer p ((s.player p).unheld.faultedBy .edgeDoubled)).useDownOpt
        (s.player p).pendingList).produce
        (.fault p (s.player p).boundList (s.player p).index .edgeDoubled (s.player p).pendingList) := by
  rw [State.resumePlayer_wait hact hstep haction, State.resumeWait_doubled (s := s.unheld p) hpending
    (by rw [hstrict]; exact hdoubled), State.faultPlayer_eq_faulted (s := (s.unheld p).clearLatch n) hcalm]
  exact (s.clearLatch n).setPlayer_faulted p (s.player p).unheld .edgeDoubled

end Resume

/-! ### PLAYER_RESUME (R80) -/

section Serve

variable {s t : State} {q : Frame} {p : PlayerId} (o : Order)

theorem servePlayerResume_held (hq : q.payload = [finByte p]) (hsafe : s.safe.state = .clear)
    (h : (s.player p).state = .held) (ht : s.resumePlayer p = t) (hclear : t.safe.state = .clear)
    (howed : (t.player p).owed = none) : servePlayerResume o q s = okBare t := by
  rw [servePlayerResume, onPlayer_finByte hq, s.safeClear_iff.mpr hsafe, if_neg nofun, h, ht,
    State.settle_clear o hclear]
  exact thenOwed_still howed

theorem servePlayerResume_running (hq : q.payload = [finByte p]) (hsafe : s.safe.state = .clear)
    (h : (s.player p).state = .running) : servePlayerResume o q s = refuse s .already := by
  rw [servePlayerResume, onPlayer_finByte hq, s.safeClear_iff.mpr hsafe, if_neg nofun, h]

theorem servePlayerResume_refused (hq : q.payload = [finByte p]) (hsafe : s.safe.state = .clear)
    (h : (s.player p).state = .idle ∨ (s.player p).state = .bound ∨ (s.player p).state = .armed ∨
      (s.player p).state = .faulted) : servePlayerResume o q s = refuse s .wrongState := by
  rw [servePlayerResume, onPlayer_finByte hq, s.safeClear_iff.mpr hsafe, if_neg nofun]
  rcases h with h | h | h | h <;> rw [h]

theorem servePlayerResume_notClear (hq : q.payload = [finByte p]) (hsafe : s.safe.state ≠ .clear) :
    servePlayerResume o q s = refuse s .safeActive := by
  rw [servePlayerResume, onPlayer_finByte hq]
  exact if_pos (Bool.eq_false_iff.mpr fun hc => hsafe (s.safeClear_iff.mp hc))

end Serve

/-- Settles O16: each activity of a HELD player, and the other states. -/
theorem playerResumeGoesOnWithAFrozenStep : Obligations.PlayerResumeGoesOnWithAFrozenStep := by
  intro s q rest o p h r running s0
  refine ⟨fun hclear howed hheld => ?_, fun hclear hrun => ?_, fun hclear hstate => ?_, fun hsafe => ?_⟩
  · have hexec : ∀ t, s0.resumePlayer p = t → t.safe.state = .clear → (t.player p).owed = none →
        exec (.playerResume o) s = t.answered q .ok [] := fun t ht hc ho =>
      State.take_answered h rfl rfl (servePlayerResume_held (s := s0) o h.payload_eq hclear hheld ht hc ho)
    refine ⟨fun hact => ?_, fun lines levels dwell => ⟨fun st offset hact hstep haction hrun hposition hgoes => ?_,
      fun st n timeout hact hstep haction hpending hstrict hgoes => ?_, fun hact hplain => ⟨fun hindex => ?_, fun hindex => ?_⟩⟩,
      fun st n timeout hact hstep haction hpending hstrict hdoubled hcalm => ?_⟩
    · exact hexec _ (State.resumePlayer_goesOn (s := s0) hact) hclear (by rw [State.setPlayer_player_same]; exact howed)
    · exact hexec _ (State.resumePlayer_align_ends (s := s0) hact hstep haction ⟨hrun, hposition⟩ hgoes) hclear
        (by rw [State.setPlayer_player_same]; exact howed)
    · exact hexec _ (State.resumePlayer_wait_ends (s := s0) hact hstep haction hpending hstrict hgoes) hclear
        (by rw [State.setPlayer_player_same]; exact howed)
    · exact hexec _ (State.resumePlayer_later (s := s0) hact hindex hplain) hclear
        (by rw [State.setPlayer_player_same]; exact howed)
    · refine hexec _ (State.resumePlayer_stepZero (s := s0) hact hindex (hindex ▸ hplain)) ?_ ?_
      · rw [State.setPlayer_safe]
        split <;> exact hclear
      · rw [State.setPlayer_player_same, Player.atStepZero_owed]
        exact howed
    · have hrecord := Player.faultedBy_nothingOwed (r := r.unheld) howed .edgeDoubled
      have hfault := State.resumePlayer_faults (s := s0) hact hstep haction hpending hstrict hdoubled hcalm
      have hrun := hexec _ hfault (by rw [State.produce_safe, State.useDownOpt_safe]; exact hclear)
        (by simp [Player.faultedBy])
      rw [show (s0.player p).unheld.faultedBy .edgeDoubled = _ from hrecord] at hrun
      exact hrun
  · exact State.take_answered h rfl rfl (servePlayerResume_running (s := s0) o h.payload_eq hclear hrun)
  · exact State.take_answered h rfl rfl (servePlayerResume_refused (s := s0) o h.payload_eq hclear hstate)
  · exact State.take_answered h rfl rfl (servePlayerResume_notClear (s := s0) o h.payload_eq hsafe)

end Sys2Proof.Machine

/-! PROOFS. The end of a step at the stop index, at the end of a pass, and under a hold (O21). -/

namespace Sys2Proof.Machine

/-! ### The cases of the step-end resolution (R84 to R86) -/

section Resolve

variable {s : State} {p : PlayerId} {st : Step}

theorem State.boundCount_eq {l : ListId} (h : (s.player p).boundList = some l) :
    s.boundCount p = (s.list l).steps.length := by
  simp only [State.boundCount, h]

/-- At the stop index the run ends, and a PASS_END replacement commits (R84). -/
theorem State.resolve_stop (h : (s.player p).stopIndex = some (s.player p).index) :
    s.resolve p st = ((s.endRun p .stopIndex).commitAtPassEnd p, false) := if_pos h

/-- The last step of the list ends its pass (R85). -/
theorem State.resolve_last {l : ListId} (hstop : (s.player p).stopIndex ≠ some (s.player p).index)
    (hlist : (s.player p).boundList = some l) (hlast : (s.list l).steps.length = (s.player p).index + 1) :
    s.resolve p st = s.passEnd p st :=
  (if_neg hstop).trans (if_pos (by rw [State.boundCount_eq hlist, hlast]))

/-- Any other step leads on, unless a hold keeps the player (R86). -/
theorem State.resolve_within {l : ListId} (hstop : (s.player p).stopIndex ≠ some (s.player p).index)
    (hlist : (s.player p).boundList = some l) (hmore : (s.player p).index + 1 < (s.list l).steps.length) :
    s.resolve p st = (s.onNext p).holdQuestion p st :=
  (if_neg hstop).trans (if_neg (by rw [State.boundCount_eq hlist]; exact Nat.not_le.mpr hmore))

theorem State.endStep_stays {t : State} (h : s.resolve p st = (t, false)) : s.endStep p st = t := by
  rw [State.endStep, h]

theorem State.endStep_admits {t : State} (h : s.resolve p st = (t, true)) : s.endStep p st = t.admitChain p := by
  rw [State.endStep, h]

end Resolve

/-! ### The end of a run (R84, R85) -/

/-- The record of a player whose run has ended. -/
def Player.runEnded (r : Player) : Player :=
  { r with
    state := .bound, index := 0, activity := .none, remaining := 0, relaunch := false, holdPending := false,
    deferred := false, due := false }

/-- A run that ends after a change of the player's own record. -/
theorem State.setPlayer_endRun (s : State) (p : PlayerId) (r : Player) (cause : RunEndCause) : (s.setPlayer p r).endRun p cause =
    (s.setPlayer p r.runEnded).produce (.runEnd p r.boundList cause r.passCount) := by
  rw [State.endRun, State.setPlayer_player_same, State.setPlayer_setPlayer]
  rfl

/-! ### The hold question (R86) -/

/-- Why a completed step holds its player. -/
def Step.holdCause (st : Step) : HoldCause := if st.halt then .haltFlag else .stepHold

/-- The record of a player held at its index. -/
def Player.heldBy (r : Player) (cause : HoldCause) : Player :=
  { r with
    state := .held, holdCause := some cause, holdPending := false, activity := .none, remaining := 0, deferred := false,
    due := false }

theorem State.holdQuestion_holds {s : State} {p : PlayerId} {st : Step} (h : (st.halt || (s.player p).holdPending) = true) :
    s.holdQuestion p st = ((s.setPlayer p ((s.player p).heldBy st.holdCause)).produce
      (.halted p (s.player p).index st.holdCause), false) := if_pos h

theorem State.holdQuestion_passes {s : State} {p : PlayerId} {st : Step}
    (h : (st.halt || (s.player p).holdPending) = false) : s.holdQuestion p st = (s, true) :=
  if_neg (by rw [h]; exact Bool.false_ne_true)

/-! ### The end of a pass (R85) -/

section PassEnd

variable (s : State) (p : PlayerId) {r : Player} (st : Step)

/-- The state in which the end of a pass has been told. -/
def State.passTold (s : State) (p : PlayerId) (r : Player) : State := s.produce (.passEnd p r.boundList (nextPass r.passCount))

theorem State.setPlayer_useDownOpt (s : State) (p : PlayerId) (r : Player) (l : Option ListId) :
    (s.setPlayer p r).useDownOpt l = (s.useDownOpt l).setPlayer p r := by
  cases l <;> rfl

/-- A PASS_END replacement commits first. -/
theorem State.setPlayer_passEnd_commits {new : ListId} (h : r.replacement = some (new, .passEnd)) :
    (s.setPlayer p r).passEnd p st = ((((s.passTold p r).useDownOpt r.boundList).produce
      (.replaced p r.boundList new .passEnd)).setPlayer p (r.committed new)).holdQuestion p st := by
  simp only [State.passEnd, State.passTold, State.setPlayer_player_same, State.setPlayer_commitRecord,
    State.setPlayer_useDownOpt, State.setPlayer_produce, State.setPlayer_setPlayer, h]
  rfl

/-- The record of a player that has used up its queued relaunch (R85). -/
def Player.relaunched (r : Player) : Player := { r with relaunch := false, index := 0, passCount := 0 }

/-- Else a queued relaunch is used up. -/
theorem State.setPlayer_passEnd_relaunches (h : ∀ new, r.replacement ≠ some (new, .passEnd)) (hrelaunch : r.relaunch = true) :
    (s.setPlayer p r).passEnd p st = (((s.passTold p r).produce (.started p r.boundList .relaunch)).setPlayer p
      r.relaunched).holdQuestion p st := by
  rcases hpending : r.replacement with _ | ⟨new, _ | _⟩
  case some.passEnd => exact absurd hpending (h new)
  all_goals
    simp only [State.passEnd, State.passTold, State.setPlayer_player_same, State.setPlayer_produce,
      State.setPlayer_setPlayer, Player.relaunched, hpending, hrelaunch, if_true]

/-- Else, with passes left, the next one follows. -/
theorem State.setPlayer_passEnd_repeats (h : ∀ new, r.replacement ≠ some (new, .passEnd)) (hrelaunch : r.relaunch = false)
    (hleft : r.passLimit = 0 ∨ nextPass r.passCount < r.passLimit) : (s.setPlayer p r).passEnd p st =
      ((s.passTold p r).setPlayer p { r with passCount := nextPass r.passCount, index := 0 }).holdQuestion p st := by
  rcases hpending : r.replacement with _ | ⟨new, _ | _⟩
  case some.passEnd => exact absurd hpending (h new)
  all_goals
    simp only [State.passEnd, State.passTold, State.setPlayer_player_same, State.setPlayer_produce,
      State.setPlayer_setPlayer, hpending, hrelaunch, Bool.false_eq_true, if_false, if_pos hleft]

/-- Else the run ends. -/
theorem State.setPlayer_passEnd_ends (h : ∀ new, r.replacement ≠ some (new, .passEnd)) (hrelaunch : r.relaunch = false)
    (hnone : ¬(r.passLimit = 0 ∨ nextPass r.passCount < r.passLimit)) : (s.setPlayer p r).passEnd p st =
      (((s.passTold p r).setPlayer p { r with passCount := nextPass r.passCount }).endRun p .limit, false) := by
  rcases hpending : r.replacement with _ | ⟨new, _ | _⟩
  case some.passEnd => exact absurd hpending (h new)
  all_goals
    simp only [State.passEnd, State.passTold, State.setPlayer_player_same, State.setPlayer_produce,
      State.setPlayer_setPlayer, hpending, hrelaunch, Bool.false_eq_true, if_false, if_neg hnone]

end PassEnd

/-! ### Rows that end a run, hold, or go back to step 0 -/

/-- The record of a player whose count has reached 0. -/
def Player.counted (r : Player) : Player := { r with remaining := 0, due := false }

theorem State.counted_eq (s : State) (p : PlayerId) : s.counted p = s.setPlayer p (s.player p).counted := rfl

/-- The run of a player without a queued relaunch ends with a count that has reached 0. -/
theorem Player.counted_runEnded {r : Player} (h : r.relaunch = false) : r.counted.runEnded = { r with
    state := .bound, index := 0, activity := .none, remaining := 0, holdPending := false, deferred := false, due := false } := by
  cases r
  cases h
  rfl

section Rows

variable {s u : State} {c : Instr} {p : PlayerId} {o : Order} {st : Step} {l : ListId}

/-- A row at the stop index, with nothing to commit. -/
theorem State.phaseOver.exec_stops (h : s.phaseOver c p o st) (hclear : s.safe.state = .clear)
    (hstop : (s.player p).stopIndex = some (s.player p).index) (hnone : (s.player p).replacement = none) :
    exec c s = .next ((s.setPlayer p (s.player p).counted.runEnded).produce
      (.runEnd p (s.player p).boundList .stopIndex (s.player p).passCount)).transmit := by
  have hrun := s.setPlayer_endRun p (s.player p).counted .stopIndex
  have hresolve : (s.counted p).resolve p st = (((s.counted p).endRun p .stopIndex).commitAtPassEnd p, false) :=
    State.resolve_stop (by rw [s.counted_player]; exact hstop)
  refine h.exec_endStep (State.endStep_stays (hresolve.trans ?_)) (by rw [State.produce_safe]; exact hclear)
  rw [s.counted_eq, hrun, State.commitAtPassEnd_still fun l => ?_]
  · rfl
  · rw [State.produce_player, State.setPlayer_player_same]
    exact (congrArg (· ≠ some (l, CommitPoint.passEnd)) hnone).mpr nofun

/-- A row at the last step, with no pass left. -/
theorem State.phaseOver.exec_limit (h : s.phaseOver c p o st) (hclear : s.safe.state = .clear)
    (hstop : (s.player p).stopIndex ≠ some (s.player p).index) (hlist : (s.player p).boundList = some l)
    (hlast : (s.list l).steps.length = (s.player p).index + 1) (hpending : (s.player p).replacement = none)
    (hrelaunch : (s.player p).relaunch = false)
    (hnone : ¬((s.player p).passLimit = 0 ∨ nextPass (s.player p).passCount < (s.player p).passLimit)) :
    exec c s = .next (((s.passTold p (s.player p)).setPlayer p
      { (s.player p).counted.runEnded with passCount := nextPass (s.player p).passCount }).produce
        (.runEnd p (s.player p).boundList .limit (nextPass (s.player p).passCount))).transmit := by
  have hresolve : (s.counted p).resolve p st = (s.counted p).passEnd p st :=
    State.resolve_last (by rw [s.counted_player]; exact hstop) (by rw [s.counted_player]; exact hlist)
      (by rw [s.counted_player]; exact hlast)
  have hends := s.setPlayer_passEnd_ends p (r := (s.player p).counted) st
    (fun new => (congrArg (· ≠ some (new, CommitPoint.passEnd)) hpending).mpr nofun) hrelaunch hnone
  refine h.exec_endStep (State.endStep_stays (hresolve.trans (hends.trans ?_)))
    (by rw [State.produce_safe, State.setPlayer_safe, State.passTold, State.produce_safe]; exact hclear)
  rw [State.setPlayer_endRun]
  rfl

/-- A row within the list whose step holds its player. -/
theorem State.phaseOver.exec_holds (h : s.phaseOver c p o st) (hclear : s.safe.state = .clear)
    (hstop : (s.player p).stopIndex ≠ some (s.player p).index) (hlist : (s.player p).boundList = some l)
    (hmore : (s.player p).index + 1 < (s.list l).steps.length) (hheld : (st.halt || (s.player p).holdPending) = true) :
    exec c s = .next ((s.setPlayer p ((s.player p).steppedOn.heldBy st.holdCause)).produce
      (.halted p ((s.player p).index + 1) st.holdCause)).transmit := by
  have hresolve : (s.counted p).resolve p st = ((s.counted p).onNext p).holdQuestion p st :=
    State.resolve_within (by rw [s.counted_player]; exact hstop) (by rw [s.counted_player]; exact hlist)
      (by rw [s.counted_player]; exact hmore)
  refine h.exec_endStep (State.endStep_stays (hresolve.trans ?_)) (by rw [State.produce_safe]; exact hclear)
  rw [s.counted_onNext, State.holdQuestion_holds (by rw [s.steppedOn_player]; exact hheld), s.steppedOn_player,
    s.steppedOn_setPlayer]
  rfl

/-- What the end of a pass leaves of a player at index 0: held there, or its step 0 admitted (R86, R87). -/
def State.atZero (u : State) (p : PlayerId) (r : Player) (st : Step) (lines levels : LineSet) (dwell : BitVec 16) : State :=
  if st.halt || r.holdPending then (u.setPlayer p (r.heldBy st.holdCause)).produce (.halted p 0 st.holdCause)
  else (if r.passBegun then u else u.writeLines lines levels).setPlayer p (r.atStepZero dwell)

theorem State.atZero_safe (u : State) (p : PlayerId) (r : Player) (st : Step) (lines levels : LineSet) (dwell : BitVec 16) :
    (u.atZero p r st lines levels dwell).safe = u.safe := by
  unfold State.atZero
  split
  · rw [State.produce_safe, State.setPlayer_safe]
  · rw [State.setPlayer_safe]
    split <;> rfl

/-- A row whose step ends the pass and leaves the player with the record `r` at index 0. -/
theorem State.phaseOver.exec_atZero {r : Player} {lines levels : LineSet} {dwell : BitVec 16} (h : s.phaseOver c p o st)
    (hclear : s.safe.state = .clear) (hstop : (s.player p).stopIndex ≠ some (s.player p).index)
    (hlist : (s.player p).boundList = some l) (hlast : (s.list l).steps.length = (s.player p).index + 1)
    (hpass : (s.setPlayer p (s.player p).counted).passEnd p st = (u.setPlayer p r).holdQuestion p st)
    (hsafe : u.safe = s.safe) (hindex : r.index = 0)
    (hbegins : (st.halt || r.holdPending) = true ∨ (u.setPlayer p r).plainAt p 0 lines levels dwell) :
    exec c s = .next (u.atZero p r st lines levels dwell).transmit := by
  have hresolve : (s.counted p).resolve p st = (u.setPlayer p r).holdQuestion p st :=
    (State.resolve_last (by rw [s.counted_player]; exact hstop) (by rw [s.counted_player]; exact hlist)
      (by rw [s.counted_player]; exact hlast)).trans hpass
  refine h.exec_endStep ?_ (by rw [State.atZero_safe, hsafe]; exact hclear)
  by_cases hheld : (st.halt || r.holdPending) = true
  · rw [State.holdQuestion_holds (by rw [State.setPlayer_player_same]; exact hheld), State.setPlayer_player_same,
      State.setPlayer_setPlayer, hindex] at hresolve
    rw [State.endStep_stays hresolve, State.atZero, if_pos hheld]
  · rw [State.holdQuestion_passes (by rw [State.setPlayer_player_same]; exact Bool.eq_false_iff.mpr hheld)] at hresolve
    rw [State.endStep_admits hresolve, State.admitChain_stepZero (by rw [State.setPlayer_player_same]; exact hindex)
      (hbegins.resolve_left hheld), State.setPlayer_player_same, State.atZero, if_neg hheld]
    split <;> simp only [State.setPlayer_writeLines, State.setPlayer_setPlayer]

end Rows

/-- Settles O21: the end of a run, a hold within the list, and the end of a pass in its three cases. -/
theorem stepEndEndsTheRunOrHolds : Obligations.StepEndEndsTheRunOrHolds := by
  refine ⟨fun s c p o l st h hclear hlist hpending hrelaunch => ?_,
    fun s c p o l st h hclear hlist hstop hmore hholds => ?_,
    fun s c p o l st lines levels dwell h hclear hlist hstop hlast => ?_⟩
  · intro r ended
    refine ⟨fun hstop => ?_, fun hstop hlast hlimit hreached => ?_⟩
    · have hexec := h.exec_stops hclear hstop hpending
      rw [Player.counted_runEnded hrelaunch] at hexec
      rw [← hlist]
      exact hexec
    · have hexec := h.exec_limit hclear hstop hlist hlast hpending hrelaunch
        (not_or.mpr ⟨hlimit, Nat.not_lt.mpr hreached⟩)
      rw [Player.counted_runEnded hrelaunch] at hexec
      rw [← hlist]
      exact hexec
  · exact h.exec_holds hclear hstop hlist hmore (by simpa using hholds)
  · intro r count s1 held cause zero begins
    have hplain : ∀ (u : State) (r' : Player) (l' : ListId), u.fixed = s.fixed → r'.boundList = some l' → begins l' →
        (u.setPlayer p r').plainAt p 0 lines levels dwell := by
      rintro u r' l' hfixed hbound ⟨first, hfirst, hset⟩
      refine ⟨l', first, by rw [State.setPlayer_player_same]; exact hbound, ?_, hset⟩
      rw [State.setPlayer_list, State.steps_of_fixed hfixed]
      exact hfirst
    have hbound : r.counted.boundList = some l := hlist
    have htold : s.passTold p r.counted = s1 := by
      rw [State.passTold, hbound]
      rfl
    refine ⟨fun new hpending hor => ?_, fun hnone hor => ⟨fun hrelaunch => ?_, fun hrelaunch hleft => ?_⟩⟩
    · have hpass := s.setPlayer_passEnd_commits p st (r := r.counted) hpending
      rw [htold, hbound] at hpass
      exact h.exec_atZero hclear hstop hlist hlast hpass (by simp [State.useDownOpt, s1]) rfl
        (hor.imp_right (hplain _ _ new (by simp [State.useDownOpt, s1]) rfl))
    · have hpass := s.setPlayer_passEnd_relaunches p st (r := r.counted) hnone hrelaunch
      rw [htold, hbound] at hpass
      exact h.exec_atZero hclear hstop hlist hlast hpass (by simp [s1]) rfl
        (hor.imp_right (hplain _ _ l (by simp [s1]) hlist))
    · have hpass := s.setPlayer_passEnd_repeats p st (r := r.counted) hnone hrelaunch hleft
      rw [htold] at hpass
      exact h.exec_atZero hclear hstop hlist hlast hpass (by simp [s1]) rfl
        (hor.imp_right (hplain _ _ l (by simp [s1]) hlist))

end Sys2Proof.Machine

/-! PROOFS. An ARMED player begins its run at its start point: at ticks, at edges of SYNC_IN, and at accepted edges of its
input (O25). -/

namespace Sys2Proof.Machine

/-! ### The turn of an ARMED player (R75, R76) -/

/-- An event begins the run of a player armed on the start point. -/
theorem TbEvent.starts_isSome (ev : TbEvent) (sp : StartPoint) : (ev.starts sp).isSome = true ↔
    (sp = .frame ∧ ev.frame = true) ∨ (sp = .superframe ∧ ev.super = true) ∨ (sp = .sync ∧ ev.sync = true) := by
  cases sp with
  | frame => cases hev : ev.frame <;> simp [TbEvent.starts, hev]
  | superframe => cases hev : ev.super <;> simp [TbEvent.starts, hev]
  | sync => cases hev : ev.sync <;> simp [TbEvent.starts, hev]
  | now | input n => simp [TbEvent.starts]

section Armed

variable {s : State} {p : PlayerId} {ev : TbEvent} {sp : StartPoint} {lines levels : LineSet} {dwell : BitVec 16} (o : Order)

theorem State.beginRun_player (h : s.plainAt p 0 lines levels dwell) (cause : StartCause) :
    (s.beginRun p cause).player p = (s.player p).begun.atStepZero dwell := by
  rw [State.beginRun_stepZero cause h, State.setPlayer_player_same]

theorem State.playerEvent_armed (hcommit : (ev.super && (s.player p).commitsSuper) = false)
    (harmed : (s.player p).state = .armed) (hsp : (s.player p).startPoint = some sp) :
    (∀ cause, ev.starts sp = some cause → s.playerEvent o ev (s.player p).state p = s.beginRun p cause) ∧
      (ev.starts sp = none → s.playerEvent o ev (s.player p).state p = s) := by
  have hstarts : (s.player p).startsAt ev = ev.starts sp := by simp only [Player.startsAt, harmed, hsp]
  exact ⟨fun cause hcause => by simp [State.playerEvent, hcommit, harmed, hstarts, hcause],
    fun hnone => by simp [State.playerEvent, hcommit, harmed, hstarts, hnone]⟩

/-- A player whose list begins with a plain SET has begun its run after its turn, or stands as before it. -/
theorem State.playerEvent_armed_player (hcommit : (ev.super && (s.player p).commitsSuper) = false)
    (harmed : (s.player p).state = .armed) (hsp : (s.player p).startPoint = some sp) (h : s.plainAt p 0 lines levels dwell) :
    (s.playerEvent o ev (s.player p).state p).player p =
      if (ev.starts sp).isSome then (s.player p).begun.atStepZero dwell else s.player p := by
  obtain ⟨hbegins, hstays⟩ := State.playerEvent_armed o hcommit harmed hsp
  cases hstarts : ev.starts sp with
  | some cause => rw [hbegins cause hstarts, State.beginRun_player h]; rfl
  | none => rw [hstays hstarts]; rfl

end Armed

/-! ### A tick is no edge of SYNC_IN (R25, R31) -/

theorem State.tickedBy.handsOut_noSync {s : State} {c : Instr} {o : Order} (h : s.tickedBy c o) (hquiet : s.quiet) :
    ∃ e ev, exec c s = .next (e.handOut o ev).transmit ∧ ev.sync = false ∧ ∀ p, s.TickReaches e p ev := by
  obtain ⟨d, hexec, hparams, hposition, hindex, hstart⟩ := h.starts hquiet
  by_cases hframe : s.frameDue
  · have hdue : d.params.frameLen ≤ d.tb.position + 1 := by rw [hparams, hposition]; exact hframe
    rw [State.tick_starts_frame o hdue, State.frameStart_eq, hparams, hindex] at hexec
    exact ⟨_, _, hexec, rfl, hstart.frameStarted hframe⟩
  · have hdue : d.tb.position + 1 < d.params.frameLen := by rw [hparams, hposition]; exact Nat.lt_of_not_le hframe
    rw [State.tick_advances o hdue, hparams] at hexec
    exact ⟨_, _, hexec, rfl, hstart.advance hframe⟩

/-- At a tick an ARMED player begins at a frame start or a superframe start alone. -/
theorem State.TickReaches.starts_iff {s u : State} {p : PlayerId} {ev : TbEvent} (h : s.TickReaches u p ev)
    (hsync : ev.sync = false) (sp : StartPoint) :
    (ev.starts sp).isSome = true ↔ (sp = .frame ∧ s.frameDue) ∨ (sp = .superframe ∧ s.superDue) := by
  rw [ev.starts_isSome, h.frame, h.super, hsync]
  simp

/-! ### What an active edge of SYNC_IN hands out (R31, R33 to R35) -/

theorem State.quiet.calm {s : State} (h : s.quiet) : s.calm := by
  obtain ⟨hclear, hoff, -⟩ := h
  exact ⟨hclear, hoff⟩

/-- Nothing that the turn of an ARMED player depends on moves. -/
structure ArmedAlike (s t : State) : Prop where
  players : t.players = s.players
  store : t.store = s.store
  safe : t.safe = s.safe
  toSafe : t.params.faultToSafe = s.params.faultToSafe

theorem ArmedAlike.refl (s : State) : ArmedAlike s s := ⟨rfl, rfl, rfl, rfl⟩

theorem ArmedAlike.trans {s t u : State} (h1 : ArmedAlike s t) (h2 : ArmedAlike t u) : ArmedAlike s u :=
  ⟨h2.players.trans h1.players, h2.store.trans h1.store, h2.safe.trans h1.safe, h2.toSafe.trans h1.toSafe⟩

theorem ArmedAlike.player {s t : State} (h : ArmedAlike s t) (p : PlayerId) : t.player p = s.player p := by
  simp only [State.player, h.players]

theorem ArmedAlike.calm {s t : State} (h : ArmedAlike s t) (hs : s.calm) : t.calm :=
  ⟨by rw [h.safe]; exact hs.1, h.toSafe.trans hs.2⟩

theorem State.produce_armedAlike (s : State) (body : NoticeBody) : ArmedAlike s (s.produce body) :=
  ⟨s.produce_players body, s.produce_store body, s.produce_safe body, by rw [s.produce_params]⟩

theorem State.sayCommit_armedAlike (s before : State) : ArmedAlike s (s.sayCommit before) := by
  unfold State.sayCommit
  split
  · exact s.produce_armedAlike _
  · exact .refl s

theorem State.setTbState_armedAlike (s : State) (st : TbState) : ArmedAlike s (s.setTbState st) := by
  rw [s.setTbState_frame]
  exact ⟨rfl, rfl, rfl, rfl⟩

theorem State.superStarted_armedAlike (s : State) : ArmedAlike s s.superStarted := by
  refine ⟨?_, ?_, ?_, by rw [s.superStarted_params]; rfl⟩ <;>
    rw [State.superStarted, State.syncOutAtFrame_frame, State.countFrame_frame]

theorem State.edgeMerged_armedAlike (s : State) : ArmedAlike s s.edgeMerged := by
  refine ⟨?_, ?_, ?_, by rw [s.edgeMerged_params]; rfl⟩ <;> rw [State.edgeMerged, State.raiseIf_frame] <;> rfl

/-- The edge starts a TRIGGERED run, or forces a frame start in ALIGNED (R33, R35). -/
def State.edgeForces (s : State) : Prop :=
  (s.tb.state = .awaitSync ∧ s.params.syncMode = .triggered) ∨
    (s.tb.state = .running ∧ s.params.syncMode = .aligned ∧ s.tb.position ≠ 0)

/-- An active edge is handed out as one, whatever else it is; a forced frame start is a superframe start. -/
theorem State.activeEdge_handsOut (s : State) (o : Order) : ∃ e ev, s.activeEdge o = e.handOut o ev ∧ ArmedAlike s e ∧
    ev.sync = true ∧ (s.edgeForces → ev.frame = true ∧ ev.super = true) := by
  have hcleared : ArmedAlike s s.clearDivider := ⟨rfl, rfl, rfl, rfl⟩
  by_cases htriggered : s.tb.state = .awaitSync ∧ s.params.syncMode = .triggered
  · obtain ⟨hawait, hmode⟩ := htriggered
    refine ⟨_, _, (State.activeEdge_triggered o hawait hmode).trans (s.beginTbRun_eq o .running true), ?_, rfl, fun _ => ⟨rfl, rfl⟩⟩
    have hset := s.setTbState_armedAlike .running
    have hdivider : ArmedAlike (s.setTbState .running) (s.setTbState .running).clearDivider := ⟨rfl, rfl, rfl, rfl⟩
    exact (((hset.trans hdivider).trans (State.superStarted_armedAlike _)).trans (State.produce_armedAlike _ _)).trans
      (State.sayCommit_armedAlike _ s)
  by_cases haligned : s.tb.state = .running ∧ s.params.syncMode = .aligned
  · obtain ⟨hrun, hmode⟩ := haligned
    by_cases hzero : s.tb.position = 0
    · have hmerge := State.activeEdge_merged o hrun hmode hzero
      have hforces : ¬s.edgeForces := by simp [State.edgeForces, hrun, hzero]
      by_cases hindex : s.tb.index = 0
      · exact ⟨_, _, hmerge.trans (State.mergeEdge_still o hindex), hcleared, rfl, fun h => absurd h hforces⟩
      · exact ⟨_, _, hmerge.trans (State.mergeEdge_super o hindex),
          s.edgeMerged_armedAlike.trans (State.sayCommit_armedAlike _ s), rfl, fun h => absurd h hforces⟩
    · exact ⟨_, _, (State.activeEdge_forced o hrun hmode hzero).trans
        (State.frameStart_super s.clearDivider o id false true rfl),
        (hcleared.trans (State.superStarted_armedAlike _)).trans (State.sayCommit_armedAlike _ _), rfl, fun _ => ⟨rfl, rfl⟩⟩
  have hforces : ¬s.edgeForces := fun h =>
    h.elim htriggered fun ⟨hrun, hmode, _⟩ => haligned ⟨hrun, hmode⟩
  by_cases hgated : s.tb.state = .paused ∧ s.params.syncMode = .gated
  · obtain ⟨hpaused, hmode⟩ := hgated
    exact ⟨_, _, State.activeEdge_resumes o hpaused hmode,
      (s.setTbState_armedAlike .running).trans (State.produce_armedAlike _ _), rfl, fun h => absurd h hforces⟩
  · exact ⟨_, _, State.activeEdge_other o htriggered haligned hgated, .refl s, rfl, fun h => absurd h hforces⟩

/-- In the turn that an active edge gives a player, its record and the steps of lists stand as before. -/
theorem State.quiet.edgeTurn {s : State} (h : s.quiet) {level : Bool} {o : Order} {p : PlayerId} (hlive : s.phase = .live)
    (hnew : level ≠ s.tb.syncIn) (hactive : s.syncActive level = true) (hlate : p ∉ o.lateEvent) :
    ∃ (t u : State) (ev : TbEvent), exec (.syncInEdge level o) s = .next t ∧ u.player p = s.player p ∧
      (∀ l, (u.list l).steps = (s.list l).steps) ∧ ev.sync = true ∧ (s.edgeForces → ev.frame = true ∧ ev.super = true) ∧
      t.player p = (u.playerEvent o ev (u.player p).state p).player p := by
  have hsampled : s.syncSampled level o = { s with tb := { s.tb with syncIn := level } } := by
    rw [State.syncSampled, h.catchUp rfl rfl]
  obtain ⟨e, ev, hhands, halike, hsync, hforces⟩ :=
    State.activeEdge_handsOut { s with tb := { s.tb with syncIn := level } } o
  have hacted : s.edgeActed level o = e.handOut o ev := by
    rw [State.edgeActed, if_pos hactive, hsampled, hhands]
  obtain ⟨u, hu, hturn⟩ := State.handOut_playerEvent (halike.calm h.calm) hlate ev
  refine ⟨_, u, ev, exec_syncInEdge_new o hlive hnew, hu.player.trans (halike.player p), fun l => ?_, hsync, hforces, ?_⟩
  · rw [State.steps_of_fixed hu.fixed, State.list, halike.store]
    rfl
  · rw [State.transmit_player, hacted, hturn]

/-! ### An accepted edge of an input (R121, R123) -/

theorem State.owedEvent_calm (s : State) (p : PlayerId) : Calm s (s.owedEvent p) := by
  unfold State.owedEvent
  simp only
  split
  · exact (s.setPlayer_calm p _).trans (State.playerEvent_calm _ _ _ _ p)
  · exact .refl s

theorem State.edgeReaches_calm (s : State) (n : InputId) (doubled : Bool) (p : PlayerId) : Calm s (s.edgeReaches n doubled p) := by
  unfold State.edgeReaches
  simp only
  split
  · exact s.beginRun_calm p _
  · split
    · split
      · exact s.faultPlayer_calm p _
      · exact (s.setPlayer_calm p _).trans (State.endStep_calm _ p _)
    · exact .refl s

/-- The state in which an edge has been latched and told (R121). -/
def State.edgeLatched (s : State) (n : InputId) : State :=
  let latch := (s.input n).latchEdge s.stamp
  (s.setInput n latch).produce (.inputEdge n latch.level latch.doubled)

/-- A player's part in an edge that was latched in `latched`: a consumer has the edge, then what the Timebase owes it (R123; log 5). -/
def State.edgePart (latched : State) (n : InputId) (doubled : Bool) (p : PlayerId) (s : State) : State :=
  if latched.consumes n p && s.consumes n p then (s.edgeReaches n doubled p).owedEvent p else s

theorem State.edgePart_calm (latched : State) (n : InputId) (doubled : Bool) (p : PlayerId) (s : State) :
    Calm s (latched.edgePart n doubled p s) := by
  unfold State.edgePart
  split
  · exact (s.edgeReaches_calm n doubled p).trans (State.owedEvent_calm _ p)
  · exact .refl s

theorem State.edgePart_beside (latched : State) {u : State} (hu : u.calm) (n : InputId) (doubled : Bool) {p p' : PlayerId}
    (hne : p' ≠ p) : Beside p u (latched.edgePart n doubled p' u) := by
  have hcalm := (latched.edgePart_calm n doubled p' u hu.2).2
  unfold State.edgePart at hcalm ⊢
  split
  case isTrue h =>
    rw [if_pos h] at hcalm
    exact ⟨((State.owedEvent_acts _ p').others p hne.symm).trans ((u.edgeReaches_acts n doubled p').others p hne.symm),
      by simp, by simp, hcalm⟩
  case isFalse => exact .refl p u

/-- With a consumer present an edge is handed to the consumers, its latch consumed (R121, R123). -/
theorem State.acceptEdge_consumed {s : State} {n : InputId} {p : PlayerId} (o : Order)
    (h : (s.edgeLatched n).consumes n p = true) : s.acceptEdge n o = eachPlayer o
      ((s.edgeLatched n).edgePart n ((s.input n).latchEdge s.stamp).doubled) ((s.edgeLatched n).clearLatch n) :=
  if_pos (List.any_eq_true.mpr ⟨p, List.mem_of_getElem? (allPlayers_at p), h⟩)

/-- Agents that keep the safe record calm leave it so. -/
theorem runActors_calm {o : Order} {act : Actor → State → State} (h : ∀ a u, Calm u (act a u)) :
    ∀ (actors : List Actor) {s : State}, s.calm → (runActors o act actors s).calm
  | [], _, hs => hs
  | a :: rest, s, hs => by
    have ha := (h a s).calm hs
    unfold runActors
    simp only [State.reachPlayers_clear ha.1]
    exact runActors_calm h rest ha

/-- Players that keep the safe record calm, each at its turn, leave it so. -/
theorem eachPlayer_calm (o : Order) {act : PlayerId → State → State} (h : ∀ q u, Calm u (act q u)) {s : State} (hs : s.calm) :
    (eachPlayer o act s).calm := by
  refine runActors_calm (fun a u => ?_) _ hs
  cases a with
  | player q => exact h q u
  | safeUnit | superframeNotice => exact .refl u

/-- A player ends as its own turn leaves it, where the others stand beside it. -/
theorem eachPlayer_turn (o : Order) {act : PlayerId → State → State} {p : PlayerId} (hcalm : ∀ u, Calm u (act p u))
    (hbeside : ∀ q u, q ≠ p → u.calm → Beside p u (act q u)) {s : State} (hs : s.calm) :
    ∃ u, Beside p s u ∧ (eachPlayer o act s).player p = (act p u).player p := by
  refine runActors_turn (fun a u hne hu => ?_) hcalm _ (actorsOf_nodup o) (mem_actorsOf o p) hs
  cases a with
  | player q => exact hbeside q u (fun hq => hne (congrArg Actor.player hq)) hu
  | safeUnit | superframeNotice => exact .refl p u

section Edge

variable {s : State} {n : InputId} {p : PlayerId} {lines levels : LineSet} {dwell : BitVec 16}

theorem State.consumes_armed (harmed : (s.player p).state = .armed) (hsp : (s.player p).startPoint = some (.input n)) :
    s.consumes n p = true := by
  simp [State.consumes, harmed, hsp]

/-- The part of a player armed on the input, to which nothing is owed: its run begins. -/
theorem State.edgePart_armed {latched : State} (doubled : Bool) (hconsumes : latched.consumes n p = true)
    (harmed : (s.player p).state = .armed) (hsp : (s.player p).startPoint = some (.input n))
    (howed : (s.player p).owed = none) (hplain : s.plainAt p 0 lines levels dwell) :
    (latched.edgePart n doubled p s).player p = (s.player p).begun.atStepZero dwell := by
  have hreaches : s.edgeReaches n doubled p = s.beginRun p (.input n) := if_pos harmed
  have hbegun := State.beginRun_player hplain (.input n)
  have hstill : ((s.beginRun p (.input n)).player p).owed = none := by
    rw [hbegun, Player.atStepZero_owed]
    exact howed
  rw [State.edgePart, hconsumes, State.consumes_armed harmed hsp, Bool.and_self, if_pos rfl, hreaches,
    State.owedEvent_still hstill, hbegun]

/-- An accepted edge of its input begins the run of a player armed on it, and makes no entry. -/
theorem State.acceptEdge_begins (hs : s.calm) (o : Order) (harmed : (s.player p).state = .armed)
    (hsp : (s.player p).startPoint = some (.input n)) (howed : (s.player p).owed = none)
    (hplain : s.plainAt p 0 lines levels dwell) :
    (s.acceptEdge n o).calm ∧ (s.acceptEdge n o).player p = (s.player p).begun.atStepZero dwell := by
  have hlatched : Beside p s (s.edgeLatched n) := by
    rw [State.edgeLatched]
    exact ⟨by simp, by simp, by simp, by simp⟩
  have hcleared : Beside p s ((s.edgeLatched n).clearLatch n) := hlatched.trans ⟨rfl, rfl, rfl, rfl⟩
  have hconsumes : (s.edgeLatched n).consumes n p = true :=
    State.consumes_armed (by rw [hlatched.player]; exact harmed) (by rw [hlatched.player]; exact hsp)
  rw [State.acceptEdge_consumed o hconsumes]
  refine ⟨eachPlayer_calm o (State.edgePart_calm _ n _) (hcleared.calm hs), ?_⟩
  obtain ⟨u, hu, hturn⟩ := eachPlayer_turn o (State.edgePart_calm (s.edgeLatched n) n
    ((s.input n).latchEdge s.stamp).doubled p) (fun q u hne hu => State.edgePart_beside _ hu n _ hne) (hcleared.calm hs)
  have hplayer : u.player p = s.player p := (hcleared.trans hu).player
  rw [hturn, State.edgePart_armed _ hconsumes (by rw [hplayer]; exact harmed) (by rw [hplayer]; exact hsp)
    (by rw [hplayer]; exact howed)
    (hplain.congr (State.steps_of_fixed (hcleared.trans hu).fixed) (by rw [hplayer])), hplayer]

/-- So does the row that accepts a selected change of the input. -/
theorem exec_acceptedChange_begins (hquiet : s.quiet) (hlive : s.phase = .live) (o : Order)
    (harmed : (s.player p).state = .armed) (hsp : (s.player p).startPoint = some (.input n))
    (hplain : s.plainAt p 0 lines levels dwell) (hselects : (s.inEdge n).selects (!(s.input n).filtered) = true) :
    ∃ t, exec (.acceptedChange n o) s = .next t ∧ t.player p = (s.player p).begun.atStepZero dwell := by
  have hs := hquiet.calm
  obtain ⟨-, -, -, howed⟩ := hquiet
  obtain ⟨moved, hmoved⟩ : ∃ moved, moved = { s.input n with
      filtered := !(s.input n).filtered, candidate := 0, sampled := true } := ⟨_, rfl⟩
  obtain ⟨hcalm, hbegun⟩ := State.acceptEdge_begins (s := s.setInput n moved) hs o harmed hsp (howed p) hplain
  have hchange : s.acceptChange n o = (s.setInput n moved).acceptEdge n o := by
    rw [State.acceptChange, if_pos hselects, ← hmoved, State.settle_clear o hcalm.1]
  refine ⟨(s.acceptChange n o).transmit, congrArg Host.Outcome.next (State.live_live hlive _), ?_⟩
  rw [State.transmit_player, hchange, hbegun, State.setInput_player]

end Edge

/-! ### The three occasions (R25, R31, R121) -/

section Occasions

variable {s : State} {c : Instr} {p : PlayerId} {o : Order} {sp : StartPoint} {lines levels : LineSet} {dwell : BitVec 16}

/-- A tick begins the run at the frame start or superframe start it makes, and else leaves the player armed. -/
theorem State.tickedBy.armed_player (htick : s.tickedBy c o) (hquiet : s.quiet) (hlate : p ∉ o.lateEvent)
    (hcommit : (s.player p).commitsSuper = false) (harmed : (s.player p).state = .armed)
    (hsp : (s.player p).startPoint = some sp) (hplain : s.plainAt p 0 lines levels dwell) :
    ∃ (t : State) (ev : TbEvent), exec c s = .next t ∧
      ((ev.starts sp).isSome = true ↔ (sp = .frame ∧ s.frameDue) ∨ (sp = .superframe ∧ s.superDue)) ∧
      t.player p = if (ev.starts sp).isSome then ({ s.player p with passBegun := false } : Player).begun.atStepZero dwell
        else { s.player p with passBegun := false } := by
  obtain ⟨e, ev, hexec, hsync, hreaches⟩ := htick.handsOut_noSync hquiet
  have hcalm : e.calm := ⟨by rw [(hreaches p).safe]; exact hquiet.calm.1, (hreaches p).toSafe.trans hquiet.calm.2⟩
  obtain ⟨u, hu, hturn⟩ := State.handOut_playerEvent hcalm hlate ev
  have hreach := (hreaches p).beside hu
  have hnone := hreach.noCommit fun hc => absurd hc (Bool.eq_false_iff.mp hcommit)
  have hplayer := State.playerEvent_armed_player o hnone (by rw [hreach.player]; exact harmed)
    (by rw [hreach.player]; exact hsp) (hplain.congr hreach.steps (by rw [hreach.player]))
  refine ⟨_, ev, hexec, hreach.starts_iff hsync sp, ?_⟩
  rw [State.transmit_player, hturn, hplayer, hreach.player]

/-- An active edge begins the run at SYNC, and at FRAME and SUPERFRAME where it forces a frame start. -/
theorem exec_syncInEdge_begins {level : Bool} (hquiet : s.quiet) (hlive : s.phase = .live) (hnew : level ≠ s.tb.syncIn)
    (hactive : s.syncActive level = true) (hlate : p ∉ o.lateEvent) (hcommit : (s.player p).commitsSuper = false)
    (harmed : (s.player p).state = .armed) (hsp : (s.player p).startPoint = some sp)
    (hplain : s.plainAt p 0 lines levels dwell)
    (hstarts : sp = .sync ∨ (s.edgeForces ∧ (sp = .frame ∨ sp = .superframe))) :
    ∃ t, exec (.syncInEdge level o) s = .next t ∧ t.player p = (s.player p).begun.atStepZero dwell := by
  obtain ⟨t, u, ev, hexec, hplayer, hsteps, hsync, hforced, hturn⟩ := hquiet.edgeTurn hlive hnew hactive hlate
  have hstart : (ev.starts sp).isSome = true := by
    rw [ev.starts_isSome]
    obtain hsync' | ⟨hforces, hframe | hsuper⟩ := hstarts
    · exact .inr (.inr ⟨hsync', hsync⟩)
    · exact .inl ⟨hframe, (hforced hforces).1⟩
    · exact .inr (.inl ⟨hsuper, (hforced hforces).2⟩)
  have hbegins := State.playerEvent_armed_player (s := u) (ev := ev) o (by rw [hplayer, hcommit, Bool.and_false])
    (by rw [hplayer]; exact harmed) (by rw [hplayer]; exact hsp) (hplain.congr hsteps (by rw [hplayer]))
  exact ⟨t, hexec, by rw [hturn, hbegins, if_pos hstart, hplayer]⟩

end Occasions

/-- Settles O25: a tick, an edge of SYNC_IN, an accepted edge of an input, and the begin of a run itself. -/
theorem armedPlayerBeginsAtItsStartPoint : Obligations.ArmedPlayerBeginsAtItsStartPoint := by
  refine ⟨fun s c p o sp lines levels dwell hquiet hlate hcommit harmed hsp hplain => ?_,
    fun s p cause lines levels dwell hplain => State.beginRun_stepZero cause hplain⟩
  intro begun
  refine ⟨fun htick => ?_, fun level hlive hc hnew hactive => ?_, fun n hlive hc hinput hselects => ?_⟩
  · intro r starts
    obtain ⟨t, ev, hexec, hstarts, hplayer⟩ := htick.armed_player hquiet hlate hcommit harmed hsp hplain
    exact ⟨t, hexec, fun h => hplayer.trans (if_pos (hstarts.mpr h)), fun h => hplayer.trans (if_neg (mt hstarts.mp h))⟩
  · intro forces hstarts
    rw [hc]
    exact exec_syncInEdge_begins hquiet hlive hnew hactive hlate hcommit harmed hsp hplain hstarts
  · rw [hc]
    exact exec_acceptedChange_begins hquiet hlive o harmed (hinput ▸ hsp) hplain hselects

end Sys2Proof.Machine

/-! PROOFS. PLAYER_REPLACE and PLAYER_WITHDRAW (O17). -/

namespace Sys2Proof.Machine

/-! ### PLAYER_REPLACE (R92, R93) -/

/-- The list may replace that of the player: SEALED, with a footprint within the player's claim (R92). -/
structure State.MayReplace (s : State) (p : PlayerId) (l : ListId) : Prop where
  isSealed : (s.list l).state = .sealed
  footprint : ∃ fp d, (s.list l).derived = some (fp, d) ∧ fp &&& ~~~(s.player p).claimed = 0

/-- The reply to a replacement that pends, by the list of the one it supersedes (R93). -/
def pendingReply (p : PlayerId) (l : ListId) (point : CommitPoint) : Option ListId → Reply
  | none => Reply.of .pending [finByte p, finByte l, point.code]
  | some old => Reply.of .superseded [finByte old, finByte l, point.code]

section Replace

variable {s : State} {q : Frame} {p : PlayerId} {l : ListId} {point : CommitPoint}

theorem servePlayerReplace_refused (hq : q.payload = [finByte p, finByte l, point.code])
    (h : (s.player p).state = .idle ∨ (s.player p).state = .faulted) : servePlayerReplace q s = refuse s .wrongState := by
  simp only [servePlayerReplace, hq, playerOf_finByte, listOf_finByte, commitPointOf_code, if_pos h]

/-- In the other states such a list is applied at once to a BOUND or ARMED player, and becomes the pending one of any other. -/
theorem servePlayerReplace_mayReplace (hq : q.payload = [finByte p, finByte l, point.code]) (h : s.MayReplace p l)
    (hstate : ¬((s.player p).state = .idle ∨ (s.player p).state = .faulted)) :
    servePlayerReplace q s = if (s.player p).state = .bound ∨ (s.player p).state = .armed then
        thenOwed p (s.applyReplacement p l,
          Reply.of .applied [finByte p, listByte (s.player p).boundList, finByte l, listByte (s.player p).pendingList])
      else thenOwed p (s.pendReplacement p l point, pendingReply p l point (s.player p).pendingList) := by
  obtain ⟨hsealed, fp, d, hderived, hfp⟩ := h
  have hwithin : within fp (s.player p).claimed = true := decide_eq_true hfp
  simp only [servePlayerReplace, hq, playerOf_finByte, listOf_finByte, commitPointOf_code, if_neg hstate, hsealed, hderived,
    hwithin, Bool.true_eq_false, if_false]
  cases (s.player p).pendingList <;> rfl

theorem servePlayerReplace_applies (hq : q.payload = [finByte p, finByte l, point.code]) (h : s.MayReplace p l)
    (hstate : (s.player p).state = .bound ∨ (s.player p).state = .armed) (howed : (s.player p).owed = none) :
    servePlayerReplace q s = (s.applyReplacement p l,
      Reply.of .applied [finByte p, listByte (s.player p).boundList, finByte l, listByte (s.player p).pendingList]) := by
  have hother : ¬((s.player p).state = .idle ∨ (s.player p).state = .faulted) := by
    rcases hstate with h | h <;> rw [h] <;> decide
  rw [servePlayerReplace_mayReplace hq h hother, if_pos hstate]
  refine thenOwed_still ?_
  rw [State.applyReplacement, State.useDownOpt_player, State.useDownOpt_player, State.useUp_player, State.setPlayer_player_same]
  exact howed

theorem servePlayerReplace_pends (hq : q.payload = [finByte p, finByte l, point.code]) (h : s.MayReplace p l)
    (hstate : (s.player p).state = .running ∨ (s.player p).state = .held) (howed : (s.player p).owed = none) :
    servePlayerReplace q s = (s.pendReplacement p l point, pendingReply p l point (s.player p).pendingList) := by
  have hother : ¬((s.player p).state = .idle ∨ (s.player p).state = .faulted) ∧
      ¬((s.player p).state = .bound ∨ (s.player p).state = .armed) := by
    rcases hstate with h | h <;> rw [h] <;> decide
  obtain ⟨hmay, hwaits⟩ := hother
  rw [servePlayerReplace_mayReplace hq h hmay, if_neg hwaits]
  refine thenOwed_still ?_
  rw [State.pendReplacement, State.useDownOpt_player, State.useUp_player, State.setPlayer_player_same]
  exact howed

end Replace

/-! ### PLAYER_WITHDRAW (R94) -/

section Withdraw

variable {s : State} {q : Frame} {p : PlayerId} {l : ListId} {point : CommitPoint}

/-- A withdrawn replacement gives back its list's use; what is owed to the player reaches it then. -/
theorem servePlayerWithdraw_pending (hq : q.payload = [finByte p]) (h : (s.player p).replacement = some (l, point)) :
    servePlayerWithdraw q s = thenOwed p
      ((s.setPlayer p { s.player p with replacement := none }).useDown l, Reply.of .ok [finByte l, point.code]) := by
  rw [servePlayerWithdraw, onPlayer_finByte hq]
  simp only [h]

theorem servePlayerWithdraw_none (hq : q.payload = [finByte p]) (h : (s.player p).replacement = none) :
    servePlayerWithdraw q s = refuse s .already := by
  rw [servePlayerWithdraw, onPlayer_finByte hq]
  simp only [h]

end Withdraw

theorem Player.pendingList_of {r : Player} {l : ListId} {point : CommitPoint} (h : r.replacement = some (l, point)) :
    r.pendingList = some l := by
  rw [Player.pendingList, h, Option.map_some]

theorem Player.pendingList_none {r : Player} (h : r.replacement = none) : r.pendingList = none := by
  rw [Player.pendingList, h, Option.map_none]

/-- Settles O17: the replacement that is applied, pends or supersedes, and the one that is withdrawn. -/
theorem replaceAndWithdrawMoveTheReplacement : Obligations.ReplaceAndWithdrawMoveTheReplacement := by
  refine ⟨fun s q rest p l point fp d h hsealed hderived hfp => ?_, fun s q rest p h => ⟨fun l point hpending howed => ?_,
    fun hnone => ?_⟩⟩
  · intro r s0
    have hmay : s0.MayReplace p l := ⟨hsealed, fp, d, hderived, hfp⟩
    refine ⟨fun howed hstate => ?_, fun howed hstate => ?_, fun hstate => ?_⟩
    · exact State.take_answered h rfl rfl (servePlayerReplace_applies (s := s0) h.payload_eq hmay hstate howed)
    · have hserve := servePlayerReplace_pends (s := s0) h.payload_eq hmay hstate howed
      refine ⟨fun hnone => ?_, fun old was hwas => ?_⟩
      · rw [State.pendReplacement, show (s0.player p).pendingList = none from Player.pendingList_none hnone] at hserve
        exact State.take_answered h rfl rfl hserve
      · rw [State.pendReplacement, show (s0.player p).pendingList = some old from Player.pendingList_of hwas] at hserve
        exact State.take_answered h rfl rfl hserve
    · exact State.take_answered h rfl rfl (servePlayerReplace_refused (s := s0) h.payload_eq hstate)
  · refine State.take_answered h rfl rfl ((servePlayerWithdraw_pending (s := s.taking rest) h.payload_eq hpending).trans ?_)
    exact thenOwed_still (by rw [State.useDown_player, State.setPlayer_player_same]; exact howed)
  · exact State.take_answered h rfl rfl (servePlayerWithdraw_none (s := s.taking rest) h.payload_eq hnone)

end Sys2Proof.Machine

/-! PROOFS. A superframe start commits a pending SUPERFRAME replacement (O18). -/

namespace Sys2Proof.Machine

/-! ### The step in flight is abandoned (R97, R98) -/

/-- The record of a player whose step in flight is abandoned. -/
def Player.abandoned (r : Player) : Player :=
  { r with activity := .none, remaining := 0, deferred := false, due := false }

/-- The state in which a pulse of the player, cut in its width phase, has written the opposite levels. -/
def State.pulseCut (s : State) (p : PlayerId) : State :=
  match (s.player p).activity, s.currentStep p with
  | .pulseWidth, some st => s.trailingEdge st
  | _, _ => s

theorem State.abandonStep_eq (s : State) (p : PlayerId) :
    s.abandonStep p = (s.pulseCut p).setPlayer p (s.player p).abandoned := rfl

/-- No more than the levels of lines moves with a cut pulse. -/
theorem State.pulseCut_frame (s : State) (p : PlayerId) : s.pulseCut p = { s with lines := (s.pulseCut p).lines } := by
  unfold State.pulseCut
  split
  · exact s.trailingEdge_frame _
  · rfl

@[simp] theorem State.pulseCut_player (s : State) (p p' : PlayerId) : (s.pulseCut p).player p' = s.player p' := by
  rw [s.pulseCut_frame]
  rfl

@[simp] theorem State.pulseCut_list (s : State) (p : PlayerId) (l : ListId) : (s.pulseCut p).list l = s.list l := by
  rw [s.pulseCut_frame]
  rfl

@[simp] theorem State.pulseCut_safe (s : State) (p : PlayerId) : (s.pulseCut p).safe = s.safe := by
  rw [s.pulseCut_frame]

theorem State.pulseCut_still {s : State} {p : PlayerId} (h : (s.player p).activity ≠ .pulseWidth) : s.pulseCut p = s := by
  unfold State.pulseCut
  split
  case h_1 hact _ => exact absurd hact h
  case h_2 => rfl

theorem State.pulseCut_pulse {s : State} {p : PlayerId} {st : Step} {lines levels : LineSet} {width dwell : BitVec 16}
    (hact : (s.player p).activity = .pulseWidth) (hstep : s.currentStep p = some st)
    (haction : st.action = .pulse lines levels width dwell) : s.pulseCut p = s.writeLines lines (~~~levels) := by
  simp only [State.pulseCut, hact, hstep, State.trailingEdge, haction]

/-! ### The commit (R96 to R99) -/

/-- The record of a player that a superframe start has put on the new list, before its step 0 is admitted. -/
def Player.swapped (r : Player) (new : ListId) : Player := r.abandoned.committed new

/-- The state in which the commit is made, before a RUNNING player admits step 0 of the new list. -/
def State.superCommitted (s : State) (p : PlayerId) (new : ListId) : State :=
  (((s.pulseCut p).setPlayer p ((s.player p).swapped new)).useDownOpt (s.player p).boundList).produce
    (.replaced p (s.player p).boundList new .superframe)

@[simp] theorem State.superCommitted_player (s : State) (p : PlayerId) (new : ListId) :
    (s.superCommitted p new).player p = (s.player p).swapped new := by
  rw [State.superCommitted, State.produce_player, State.useDownOpt_player, State.setPlayer_player_same]

@[simp] theorem State.superCommitted_safe (s : State) (p : PlayerId) (new : ListId) :
    (s.superCommitted p new).safe = s.safe := by
  rw [State.superCommitted, State.produce_safe, State.useDownOpt_safe, State.setPlayer_safe, State.pulseCut_safe]

theorem State.superCommitted_steps (s : State) (p : PlayerId) (new l : ListId) :
    ((s.superCommitted p new).list l).steps = (s.list l).steps := by
  rw [State.superCommitted, State.produce_list, State.useDownOpt_list, State.setPlayer_list, State.pulseCut_list]

section Commit

variable {s : State} {p : PlayerId} {new : ListId}

theorem Player.commitsSuper_of {r : Player} (h : r.replacement = some (new, .superframe)) : r.commitsSuper = true := by
  simp only [Player.commitsSuper, h]

theorem State.abandonStep_commitRecord (s : State) (p : PlayerId) (new : ListId) :
    (s.abandonStep p).commitRecord p new .superframe = s.superCommitted p new := by
  rw [s.abandonStep_eq, State.setPlayer_commitRecord]
  rfl

/-- A RUNNING player admits step 0 of the new list (R97). -/
theorem State.commitSuper_running (h : (s.player p).replacement = some (new, .superframe))
    (hrun : (s.player p).state = .running) : s.commitSuper p = (s.superCommitted p new).admitChain p := by
  simp only [State.commitSuper, h, hrun, State.abandonStep_commitRecord]

/-- A player in any other state has its list swapped (R96, R98). -/
theorem State.commitSuper_resting (h : (s.player p).replacement = some (new, .superframe))
    (hrun : (s.player p).state ≠ .running) : s.commitSuper p = s.superCommitted p new := by
  simp only [State.commitSuper, h, State.abandonStep_commitRecord]
  cases hstate : (s.player p).state with
  | running => exact absurd hstate hrun
  | idle | bound | armed | held | faulted => rfl

variable {first : Step} {lines levels : LineSet} {dwell : BitVec 16}

theorem State.superCommitted_plainAt (hfirst : (s.list new).steps[0]? = some first) (hplain : first.plainSet lines levels dwell) :
    (s.superCommitted p new).plainAt p 0 lines levels dwell :=
  ⟨new, first, by rw [s.superCommitted_player]; rfl, by rw [s.superCommitted_steps]; exact hfirst, hplain⟩

/-- The commit of a RUNNING player onto a list that begins with a plain SET. -/
theorem State.commitSuper_stepZero (h : (s.player p).replacement = some (new, .superframe))
    (hrun : (s.player p).state = .running) (hfirst : (s.list new).steps[0]? = some first)
    (hplain : first.plainSet lines levels dwell) :
    (s.commitSuper p).player p = ((s.player p).swapped new).atStepZero dwell ∧ (s.commitSuper p).safe = s.safe := by
  have hadmit := State.admitChain_stepZero (s := s.superCommitted p new) (by rw [s.superCommitted_player]; rfl)
    (State.superCommitted_plainAt hfirst hplain)
  rw [State.commitSuper_running h hrun, hadmit]
  refine ⟨?_, ?_⟩
  · rw [State.setPlayer_player_same, s.superCommitted_player]
  · rw [State.setPlayer_safe, ← s.superCommitted_safe p new]
    split <;> rfl

/-! ### A superframe start as the player acts on it (R75, R97) -/

variable {ev : TbEvent}

theorem State.playerEvent_super (o : Order) (before : PlayerState) (hsuper : ev.super = true)
    (h : (s.player p).replacement = some (new, .superframe)) : s.playerEvent o ev before p = s.superEvent o p ev := by
  simp only [State.playerEvent, hsuper, Player.commitsSuper_of h, Bool.and_self, if_true]

theorem Player.startsAt_other {r : Player} (h : r.state ≠ .armed) : r.startsAt ev = none := by
  cases hstate : r.state with
  | armed => exact absurd hstate h
  | idle | bound | running | held | faulted => simp only [Player.startsAt, hstate]

theorem State.superEvent_commits (o : Order) (h : (s.player p).startsAt ev = none) : s.superEvent o p ev = s.commitSuper p := by
  simp only [State.superEvent, h]

/-- With the commit first, the run begins on the new list. -/
theorem State.superEvent_commitFirst {o : Order} {cause : StartCause} (horder : p ∉ o.startFirst)
    (hstarts : (s.player p).startsAt ev = some cause) : s.superEvent o p ev = (s.commitSuper p).beginRun p cause := by
  simp only [State.superEvent, hstarts, if_neg horder]

/-- With the start first, the run that has begun on the old list commits. -/
theorem State.superEvent_startFirst {o : Order} {cause : StartCause} (horder : p ∈ o.startFirst)
    (hstarts : (s.player p).startsAt ev = some cause) : s.superEvent o p ev = (s.beginRun p cause).commitSuper p := by
  simp only [State.superEvent, hstarts, if_pos horder]

end Commit

/-! ### The tick that makes the superframe start (R25, R28) -/

section Tick

variable {s u : State} {c : Instr} {o : Order} {p : PlayerId} {ev : TbEvent} {new : ListId} {first : Step}
  {lines levels : LineSet} {dwell : BitVec 16}

/-- At a tick that makes a superframe start, a player that the order does not make late acts by its commit. -/
theorem State.tickedBy.superTurn (h : s.tickedBy c o) (hquiet : s.quiet) (hlate : p ∉ o.lateEvent) (hsuper : s.superDue)
    (hpending : (s.player p).replacement = some (new, .superframe)) :
    ∃ t u ev, exec c s = .next t ∧ s.TickReaches u p ev ∧ ev.sync = false ∧ t.player p = (u.superEvent o p ev).player p := by
  obtain ⟨e, ev, hexec, hsync, hreaches⟩ := h.handsOut_noSync hquiet
  have hcalm : e.calm := ⟨by rw [(hreaches p).safe]; exact hquiet.calm.1, (hreaches p).toSafe.trans hquiet.calm.2⟩
  obtain ⟨u, hu, hturn⟩ := State.handOut_playerEvent hcalm hlate ev
  have hreach := (hreaches p).beside hu
  refine ⟨_, u, ev, hexec, hreach, hsync, ?_⟩
  rw [State.transmit_player, hturn, State.playerEvent_super o _ (hreach.super.mpr hsuper)
    (by rw [hreach.player]; exact hpending)]

/-- A superframe start that is no edge of SYNC_IN begins the run of an ARMED player at FRAME and SUPERFRAME alone. -/
theorem State.TickReaches.startsAt_iff (h : s.TickReaches u p ev) (hsync : ev.sync = false) (hsuper : s.superDue) :
    (∃ cause, (u.player p).startsAt ev = some cause) ↔ (s.player p).state = .armed ∧
      ((s.player p).startPoint = some .frame ∨ (s.player p).startPoint = some .superframe) := by
  rw [h.player]
  by_cases harmed : (s.player p).state = .armed
  · cases hsp : (s.player p).startPoint with
    | none => simp [Player.startsAt, harmed, hsp]
    | some sp =>
      have hiff := h.starts_iff hsync sp
      rw [Option.isSome_iff_exists] at hiff
      simpa [Player.startsAt, harmed, hsp, hsuper, hsuper.1] using hiff
  · exact iff_of_false (fun ⟨cause, hcause⟩ => nomatch (Player.startsAt_other harmed).symm.trans hcause) fun h => harmed h.1

end Tick

section Turn

variable {u : State} {o : Order} {p : PlayerId} {ev : TbEvent} {new : ListId} {first : Step} {lines levels : LineSet}
  {dwell : BitVec 16}

/-- The turn of a player that the event does not start and that is not RUNNING: it rests on the new list. -/
theorem State.superEvent_rests (hpending : (u.player p).replacement = some (new, .superframe))
    (hrun : (u.player p).state ≠ .running) (hstarts : (u.player p).startsAt ev = none) :
    (u.superEvent o p ev).player p = (u.player p).swapped new := by
  rw [State.superEvent_commits o hstarts, State.commitSuper_resting hpending hrun, u.superCommitted_player]

/-- The turn of a RUNNING player: step 0 of the new list is admitted. -/
theorem State.superEvent_running (hpending : (u.player p).replacement = some (new, .superframe))
    (hrun : (u.player p).state = .running) (hfirst : (u.list new).steps[0]? = some first)
    (hplain : first.plainSet lines levels dwell) :
    (u.superEvent o p ev).player p = ((u.player p).swapped new).atStepZero dwell := by
  have hother : (u.player p).startsAt ev = none := Player.startsAt_other (by rw [hrun]; exact nofun)
  rw [State.superEvent_commits o hother]
  exact (State.commitSuper_stepZero hpending hrun hfirst hplain).1

/-- The turn of an ARMED player that commits first: its run begins on the new list. -/
theorem State.superEvent_commitThenStart (hpending : (u.player p).replacement = some (new, .superframe))
    (hrun : (u.player p).state ≠ .running) (hfirst : (u.list new).steps[0]? = some first)
    (hplain : first.plainSet lines levels dwell) {cause : StartCause} (hstarts : (u.player p).startsAt ev = some cause)
    (horder : p ∉ o.startFirst) :
    (u.superEvent o p ev).player p = ((u.player p).swapped new).begun.atStepZero dwell := by
  rw [State.superEvent_commitFirst horder hstarts, State.commitSuper_resting hpending hrun,
    State.beginRun_player (State.superCommitted_plainAt hfirst hplain), u.superCommitted_player]

/-- The turn of an ARMED player that starts first: the run it has begun on the old list commits. -/
theorem State.superEvent_startThenCommit (hpending : (u.player p).replacement = some (new, .superframe))
    (hfirst : (u.list new).steps[0]? = some first) (hplain : first.plainSet lines levels dwell)
    {cause : StartCause} (hstarts : (u.player p).startsAt ev = some cause) (horder : p ∈ o.startFirst)
    {lines' levels' : LineSet} {dwell' : BitVec 16} (hold : u.plainAt p 0 lines' levels' dwell')
    (hbegun : (u.player p).passBegun = false) :
    (u.superEvent o p ev).player p =
      Player.atStepZero { (u.player p).begun.swapped new with passBegun := true } dwell := by
  have hplayer := State.beginRun_player hold cause
  rw [Player.atStepZero_begins (r := (u.player p).begun) hbegun] at hplayer
  rw [State.superEvent_startFirst horder hstarts]
  obtain ⟨hcommit, -⟩ := State.commitSuper_stepZero (s := u.beginRun p cause) (by rw [hplayer]; exact hpending)
    (by rw [hplayer]; rfl) (by rw [State.steps_of_fixed (u.beginRun_fixed p cause)]; exact hfirst) hplain
  rw [hcommit, hplayer]
  rfl

end Turn

/-- Settles O18: the commit at the tick in every state of the player, and what a commit of a player that is not RUNNING moves. -/
theorem superframeStartCommitsTheReplacement : Obligations.SuperframeStartCommitsTheReplacement := by
  refine ⟨fun s c p o new first lines levels dwell htick hquiet hlate hsuper hpending hfirst hplain => ?_,
    fun s p new hpending hrun => ?_⟩
  · intro r swapped starts
    obtain ⟨t, u, ev, hexec, hreach, hsync, hturn⟩ := htick.superTurn hquiet hlate hsuper hpending
    have hstarts := hreach.startsAt_iff hsync hsuper
    have hu : u.player p = { r with passBegun := false } := hreach.player
    have hpending' : (u.player p).replacement = some (new, .superframe) := by rw [hu]; exact hpending
    have hstate : (u.player p).state = r.state := by rw [hu]
    have hfirst' : (u.list new).steps[0]? = some first := by rw [hreach.steps]; exact hfirst
    have hrests : r.state ≠ .running → ¬starts → t.player p = swapped := fun hrun hstill => by
      have hnone := Option.eq_none_iff_forall_ne_some.mpr fun cause hcause => hstill (hstarts.mp ⟨cause, hcause⟩)
      rw [hturn, State.superEvent_rests hpending' (by rw [hstate]; exact hrun) hnone, hu]
      rfl
    refine ⟨t, hexec, fun hrun => ?_, fun hstill => ?_, fun harmed => ?_, fun hstart horder => ?_,
      fun lines' levels' dwell' hstart horder hold => ?_⟩
    · rw [hturn, State.superEvent_running hpending' (hstate.trans hrun) hfirst' hplain, hu]
      rfl
    · obtain ⟨hrun, harmed⟩ : r.state ≠ .running ∧ r.state ≠ .armed := by
        rcases hstill with h | h <;> rw [h] <;> exact ⟨nofun, nofun⟩
      exact hrests hrun fun ⟨h, _⟩ => harmed h
    · exact hrests (by rw [harmed]; exact nofun)
    · obtain ⟨cause, hcause⟩ := hstarts.mpr hstart
      rw [hturn, State.superEvent_commitThenStart hpending' (by rw [hstate, hstart.1]; exact nofun) hfirst' hplain hcause
        horder, hu]
      rfl
    · obtain ⟨cause, hcause⟩ := hstarts.mpr hstart
      rw [hturn, State.superEvent_startThenCommit hpending' hfirst' hplain hcause horder
        (hold.congr hreach.steps (by rw [hu])) (by rw [hu]), hu]
      rfl
  · intro r committed
    rw [State.commitSuper_resting hpending hrun, State.superCommitted]
    refine ⟨fun hact => ?_, fun st lines levels width dwell hact hstep haction => ?_⟩
    · rw [State.pulseCut_still hact]
      rfl
    · rw [State.pulseCut_pulse hact hstep haction]
      rfl

end Sys2Proof.Machine

/-! PROOFS. An event that the order makes late reaches the player after its own request (O19). -/

namespace Sys2Proof.Machine

/-! ### A late event is owed (R94, R100; log 5) -/

/-- A RUNNING player that the order makes late is left as it is and owed the event whole. -/
theorem State.handTo_late {s : State} {o : Order} {p : PlayerId} (hlate : p ∈ o.lateEvent)
    (hrun : (s.player p).state = .running) (ev : TbEvent) : s.handTo o ev (s.player p) p = s.setPlayer p { s.player p with
      owed := some { event := ev, lost := false, startFirst := decide (p ∈ o.startFirst) } } := by
  have hpart : (s.player p).takesPart ev = true := by simp [Player.takesPart, hrun]
  have hcommitted : (s.player p).committedIn (s.player p) ev = false := by simp [Player.committedIn]
  simp [State.handTo, hlate, hpart, hcommitted]

/-- A tick that the order makes late for a RUNNING player moves its pass-begun flag and is owed to it. -/
theorem State.tickedBy.owed {s : State} {c : Instr} {o : Order} {p : PlayerId} (h : s.tickedBy c o) (hquiet : s.quiet)
    (hlate : p ∈ o.lateEvent) (hrun : (s.player p).state = .running) :
    ∃ t e w, exec c s = .next t ∧ t.player p = { s.player p with passBegun := false, owed := some w } ∧ w.lost = false ∧
      s.TickReaches e p w.event := by
  obtain ⟨e, ev, hexec, hreaches⟩ := h.handsOut hquiet
  have hreach := hreaches p
  have hcalm : e.calm := ⟨by rw [hreach.safe]; exact hquiet.calm.1, hreach.toSafe.trans hquiet.calm.2⟩
  obtain ⟨u, hu, hturn⟩ := State.handOut_turn hcalm o ev p
  refine ⟨_, e, { event := ev, lost := false, startFirst := decide (p ∈ o.startFirst) }, hexec, ?_, rfl, hreach⟩
  rw [State.transmit_player, hturn, ← hu.player, State.handTo_late hlate (by rw [hu.player, hreach.player]; exact hrun),
    State.setPlayer_player_same, hu.player, hreach.player]

/-! ### What is owed reaches the player (log 5) -/

/-- The order in which an owed event reaches its player. -/
def Owed.order (w : Owed) (p : PlayerId) : Order := { startFirst := if w.startFirst then [p] else [], ends := [p] }

/-- A request leaves the player with the record `r` and the event `w` owed: the event reaches it in that record. -/
theorem State.setPlayer_owedEvent (s : State) {p : PlayerId} {r : Player} {w : Owed} (howed : r.owed = some w)
    (hlost : w.lost = false) : (s.setPlayer p r).owedEvent p =
      (s.setPlayer p { r with owed := none }).playerEvent (w.order p) w.event r.state p := by
  simp only [State.owedEvent, State.setPlayer_player_same, howed, State.setPlayer_setPlayer, hlost, Bool.false_eq_true, if_false,
    Owed.order]

/-- Where the event leaves the safe state CLEAR, no entry follows it. -/
theorem State.owedNow_clear {s t : State} {p : PlayerId} (h : s.owedEvent p = t) (hclear : t.safe.state = .clear) :
    s.owedNow p = t := by
  subst h
  unfold State.owedNow
  split
  · exact State.reachPlayers_clear hclear _ _
  case h_2 hnone => exact (State.owedEvent_still hnone).symm

section Requests

variable {s : State} {p : PlayerId} {r : Player} {w : Owed} {new : ListId}

/-- A superframe start that is owed commits the replacement that the request has left pending. -/
theorem State.setPlayer_owedEvent_super (howed : r.owed = some w) (hlost : w.lost = false) (hsuper : w.event.super = true)
    (hpending : r.replacement = some (new, .superframe)) (harmed : r.state ≠ .armed) :
    (s.setPlayer p r).owedEvent p = (s.setPlayer p { r with owed := none }).commitSuper p := by
  rw [s.setPlayer_owedEvent howed hlost, State.playerEvent_super (new := new) _ _ hsuper
    (by rw [State.setPlayer_player_same]; exact hpending), State.superEvent_commits]
  rw [State.setPlayer_player_same]
  exact Player.startsAt_other harmed

/-- Without a replacement a tick that is owed counts, as one in its turn does. -/
theorem State.setPlayer_owedEvent_counts (howed : r.owed = some w) (hlost : w.lost = false) (htick : w.event.tick = true)
    (hnone : r.replacement = none) (hrun : r.state = .running) (hdeferred : r.deferred = false)
    (hact : r.activity = .stepping ∨ r.activity = .pulseWidth) (hremaining : 1 < r.remaining) :
    (s.setPlayer p r).owedEvent p = s.setPlayer p { r with owed := none, remaining := r.remaining - 1 } := by
  obtain ⟨u, hu⟩ : ∃ u, u = s.setPlayer p { r with owed := none } := ⟨_, rfl⟩
  have hplayer : u.player p = { r with owed := none } := by rw [hu, State.setPlayer_player_same]
  have hcommit : (w.event.super && (u.player p).commitsSuper) = false := by
    simp [hplayer, Player.commitsSuper, hnone]
  have hevent := State.playerEvent_running (w.order p) hcommit (by rw [hplayer]; exact hrun)
  rw [show (u.player p).state = r.state by rw [hplayer]] at hevent
  have hact' : r.activity = .stepping ∨ r.activity = .pulseWidth ∨ (r.activity = .edgeWait ∧ r.remaining ≠ 0) :=
    hact.imp_right .inl
  rw [s.setPlayer_owedEvent howed hlost, ← hu, hevent,
    State.runningEvent_counts _ htick (by rw [hplayer]; exact hdeferred) (by rw [hplayer]; exact hact'),
    State.countTick_counts _ (by rw [hplayer]; exact Nat.ne_of_gt hremaining), hplayer, hu, State.setPlayer_setPlayer]

/-! ### The three requests that come first (R94, R100) -/

/-- PLAYER_STOP first: the commit is made of the BOUND player, whose step is gone. -/
theorem State.stopPlayer_owedNow (hclear : s.safe.state = .clear) (howed : (s.player p).owed = some w)
    (hlost : w.lost = false) (hsuper : w.event.super = true)
    (hpending : (s.player p).replacement = some (new, .superframe)) : (s.stopPlayer p).owedNow p =
      (((s.idleLines (s.player p).claimed).setPlayer p
        (Player.swapped { (s.player p).stopped with owed := none } new)).useDownOpt (s.player p).boundList).produce
          (.replaced p (s.player p).boundList new .superframe) := by
  have hstop : s.stopPlayer p = (s.idleLines (s.player p).claimed).setPlayer p (s.player p).stopped :=
    State.stopPlayer_plain fun l => by rw [hpending]; exact nofun
  refine State.owedNow_clear ?_ (by rw [State.produce_safe, State.useDownOpt_safe]; exact hclear)
  rw [hstop, State.setPlayer_owedEvent_super (r := (s.player p).stopped) howed hlost hsuper hpending nofun,
    State.commitSuper_resting (new := new) (by rw [State.setPlayer_player_same]; exact hpending)
      (by rw [State.setPlayer_player_same]; exact nofun), State.superCommitted,
    State.pulseCut_still (by rw [State.setPlayer_player_same]; exact nofun), State.setPlayer_player_same,
    State.setPlayer_setPlayer]
  rfl

end Requests

theorem servePlayerStop_running {s : State} {q : Frame} {p : PlayerId} (hq : q.payload = [finByte p])
    (h : (s.player p).state = .running) : servePlayerStop q s = thenOwed p (s.stopPlayer p,
      Reply.of .ok [PlayerState.running.code, byteOf (s.player p).index, byteOf (s.player p).passCount]) := by
  rw [servePlayerStop, onPlayer_finByte hq]
  simp only [h]

theorem servePlayerHold_running {s : State} {q : Frame} {p : PlayerId} (hq : q.payload = [finByte p])
    (h : (s.player p).state = .running) : servePlayerHold q s = thenOwed p
      (s.setPlayer p { s.player p with holdPending := true }, Reply.bare .pending) := by
  rw [servePlayerHold, onPlayer_finByte hq]
  simp only [h]

/-- Settles O19: the tick that is owed, and the three requests that come before it. -/
theorem lateEventReachesThePlayerAfterItsRequest : Obligations.LateEventReachesThePlayerAfterItsRequest := by
  refine ⟨fun s c p o htick hquiet hlate hrun hsuper => ?_,
    fun s q rest p w new hclear hrun howed hlost htick hsuper hpending => ?_⟩
  · obtain ⟨t, e, w, hexec, hplayer, hlost, hreach⟩ := htick.owed hquiet hlate hrun
    exact ⟨t, w, hexec, hplayer, hlost, hreach.tick, hreach.frame.mpr hsuper.1, hreach.super.mpr hsuper⟩
  · intro r s0 swapped
    refine ⟨fun h hdeferred hact hremaining => ?_, fun h => ?_,
      fun first lines levels dwell h hfirst hplain => ?_⟩
    · have hevent : (((s0.useDown new).setPlayer p { r with replacement := none })).owedEvent p =
          (s0.useDown new).setPlayer p { r with replacement := none, owed := none, remaining := r.remaining - 1 } :=
        State.setPlayer_owedEvent_counts howed hlost htick rfl hrun hdeferred hact hremaining
      have hserve := servePlayerWithdraw_pending (s := s0) h.payload_eq hpending
      refine State.take_answered h rfl rfl (hserve.trans (congrArg (·, _) ?_))
      exact State.owedNow_clear hevent hclear
    · have hserve := servePlayerStop_running (s := s0) h.payload_eq hrun
      exact State.take_answered h rfl rfl (hserve.trans
        (congrArg (·, _) (State.stopPlayer_owedNow (s := s0) hclear howed hlost hsuper hpending)))
    · have hevent : (s0.setPlayer p { r with holdPending := true }).owedEvent p =
          (s0.setPlayer p { r with holdPending := true, owed := none }).commitSuper p :=
        State.setPlayer_owedEvent_super howed hlost hsuper hpending (by rw [hrun]; exact nofun)
      obtain ⟨hplayer, hsafe⟩ := State.commitSuper_stepZero (s := s0.setPlayer p { r with holdPending := true, owed := none })
        (by rw [State.setPlayer_player_same]; exact hpending) (by rw [State.setPlayer_player_same]; exact hrun) hfirst hplain
      have hnow := State.owedNow_clear hevent (by rw [hsafe]; exact hclear)
      refine ⟨_, State.take_answered h rfl rfl (servePlayerHold_running (s := s0) h.payload_eq hrun), ?_⟩
      change ((s0.setPlayer p { r with holdPending := true }).owedNow p).player p = _
      rw [hnow, hplayer, State.setPlayer_player_same]
      rfl

end Sys2Proof.Machine

/-! PROOFS. What the play of some players can move (R105, R106): `Confined` says of every operation and event of play that it leaves
what playing never touches, that no player comes to a list that it did not use, and that the levels of lines that none of
those players claims stay. -/

namespace Sys2Proof.Machine

/-! ### What play never touches, but for the link -/

/-- What playing never touches, but for the link. -/
def Fixed.unlinked (f : Fixed) : Fixed := { f with link := Link.blank }

/-- The second record is IDLE only if the first is, and uses no list that the first does not. -/
structure Player.Inherits (r r' : Player) : Prop where
  idle : r'.state = .idle → r.state = .idle
  lists : ∀ l, r'.boundList = some l ∨ r'.pendingList = some l → r.boundList = some l ∨ r.pendingList = some l

theorem Player.Inherits.refl (r : Player) : r.Inherits r := ⟨id, fun _ => id⟩

theorem Player.Inherits.trans {r r' r'' : Player} (h1 : r.Inherits r') (h2 : r'.Inherits r'') : r.Inherits r'' :=
  ⟨fun h => h1.idle (h2.idle h), fun l h => h1.lists l (h2.lists l h)⟩

theorem Player.SameUse.inherits {r r' : Player} (h : r.SameUse r') : r.Inherits r' := by
  obtain ⟨hbound, hpending, hidle⟩ := h
  refine ⟨hidle, fun l => ?_⟩
  unfold Player.pendingList
  rw [hbound, hpending]
  exact id

/-! ### Footprints and claims -/

/-- A set lies within a claim exactly where each of its lines is claimed. -/
theorem LineSet.within_iff (lines claim : LineSet) :
    lines &&& ~~~claim = 0 ↔ ∀ k : LineId, lines.getLsbD k.val = true → claim.getLsbD k.val = true := by
  constructor
  · intro h k hk
    have hbit := congrArg (fun v : LineSet => v.getLsbD k.val) h
    simpa [hk] using hbit
  · intro h
    ext i hi
    have hline := h ⟨i, hi⟩
    simpa [BitVec.getLsbD_eq_getElem hi] using hline

/-- A step of a list adds its lines to the footprint (R5). -/
theorem footprint_of_mem {steps : List Step} {st : Step} {claim : LineSet} (hst : st ∈ steps)
    (h : footprintOf steps &&& ~~~claim = 0) : st.footprint &&& ~~~claim = 0 := by
  rw [LineSet.within_iff] at h ⊢
  intro k hk
  refine h k ?_
  rw [footprintOf_getLsbD]
  exact List.any_eq_true.mpr ⟨st, hst, hk⟩

/-- The lines of a list that a player is bound to or holds as its replacement lie within its claim (R70, R92). -/
theorem State.playsInClaims.inUse {s : State} (h : s.playsInClaims) {p : PlayerId} {l : ListId}
    (hl : (s.player p).boundList = some l ∨ (s.player p).pendingList = some l) :
    footprintOf (s.list l).steps &&& ~~~(s.player p).claimed = 0 := by
  obtain ⟨-, hlists⟩ := h
  exact hlists p l hl

/-- Where the lists in use lie within the claims, so do the lines of a player's current step (R70, R92). -/
theorem State.playsInClaims.currentStep {s : State} (h : s.playsInClaims) {p : PlayerId} {st : Step}
    (hst : s.currentStep p = some st) : st.footprint &&& ~~~(s.player p).claimed = 0 := by
  unfold State.currentStep at hst
  split at hst
  case h_1 l hl => exact footprint_of_mem (List.mem_of_getElem? hst) (h.inUse (.inl hl))
  case h_2 => cases hst

/-! ### When the claim table and the lists in use go on agreeing -/

/-- Only owners, claims and which players are IDLE matter to the agreement of the claim table. -/
theorem State.claimsAgree.congr {s t : State} (h : s.claimsAgree) (ho : ∀ k, t.owner k = s.owner k)
    (hc : ∀ p, (t.player p).claimed = (s.player p).claimed)
    (hi : ∀ p, (t.player p).state = .idle → (s.player p).state = .idle) : t.claimsAgree := by
  obtain ⟨howners, hidle⟩ := h
  refine ⟨fun k p => ?_, fun p hp => ?_⟩
  · rw [ho, hc]; exact howners k p
  · rw [hc]; exact hidle p (hi p hp)

/-- Where players and owners stay, so does the agreement of the claim table. -/
theorem State.claimsAgree.of_players {s t : State} (h : s.claimsAgree) (hp : t.players = s.players)
    (ho : t.lines.owners = s.lines.owners) : t.claimsAgree := by
  have hplayer : ∀ p, t.player p = s.player p := fun p => by simp only [State.player, hp]
  exact h.congr (fun k => by simp only [State.owner, ho]) (fun p => by rw [hplayer]) fun p => by rw [hplayer]; exact id

/-- What is derived of a record, if it is SEALED, is what its steps give (R5). -/
def ListRec.Derives (r : ListRec) : Prop := r.state = .sealed → r.derived = some (footprintOf r.steps, durationOf r.steps)

/-- Lists move in their use counts alone, and what each player then uses lies within its claim. -/
theorem State.playsInClaims.of_uses {s t : State} (h : s.playsInClaims) (hl : ∀ l, (t.list l).cue = (s.list l).cue)
    (hp : ∀ p l, (t.player p).boundList = some l ∨ (t.player p).pendingList = some l →
      footprintOf (s.list l).steps &&& ~~~(t.player p).claimed = 0) : t.playsInClaims := by
  obtain ⟨hderived, -⟩ := h
  refine ⟨fun l => ?_, fun p l hu => ?_⟩
  · have hcue : (s.list l).cue.Derives := hderived l
    rw [← hl] at hcue
    exact hcue
  · change footprintOf (t.list l).cue.steps &&& _ = 0
    rw [hl]
    exact hp p l hu

/-! ### What confined play moves -/

/-- From `s` to `t` the players of `who` have played on. -/
structure Confined (who : Set PlayerId) (s t : State) : Prop where
  fixed : t.fixed.unlinked = s.fixed.unlinked
  players : ∀ p, (s.player p).Inherits (t.player p)
  levels : s.playsInClaims → ∀ k : LineId, (∀ p ∈ who, (s.player p).claimed.getLsbD k.val = false) →
    t.lines.logical.getLsbD k.val = s.lines.logical.getLsbD k.val

namespace Confined

variable {who who' : Set PlayerId} {s t u : State} {p : PlayerId}

theorem claimed (h : Confined who s t) (p : PlayerId) : (t.player p).claimed = (s.player p).claimed := by
  have hclaims := congrArg (fun f : Fixed => f.claims[p.val]) h.fixed
  simpa only [Fixed.unlinked, State.fixed, Vector.getElem_map, State.player] using hclaims

theorem cue (h : Confined who s t) (l : ListId) : (t.list l).cue = (s.list l).cue := by
  have hlists := congrArg (fun f : Fixed => f.lists[l.val]) h.fixed
  simpa only [Fixed.unlinked, State.fixed, Vector.getElem_map, State.list, ListRec.cue] using hlists

theorem owner (h : Confined who s t) (k : LineId) : t.owner k = s.owner k :=
  congrArg (fun f : Fixed => f.owners[k.val]) h.fixed

/-- Play keeps the lists in use within the claims: claims and lists stay, and no player comes to another list. -/
theorem playsInClaims (h : Confined who s t) (hs : s.playsInClaims) : t.playsInClaims := by
  refine hs.of_uses h.cue fun p l hl => ?_
  rw [h.claimed]
  exact hs.inUse ((h.players p).lists l hl)

/-- Play keeps the claim table and the players' records in agreement. -/
theorem claimsAgree (h : Confined who s t) (hs : s.claimsAgree) : t.claimsAgree :=
  hs.congr h.owner h.claimed fun p => (h.players p).idle

theorem refl (who : Set PlayerId) (s : State) : Confined who s s := ⟨rfl, fun _ => .refl _, fun _ _ _ => rfl⟩

theorem trans (h1 : Confined who s t) (h2 : Confined who t u) : Confined who s u where
  fixed := h2.fixed.trans h1.fixed
  players p := (h1.players p).trans (h2.players p)
  levels hs k hk :=
    (h2.levels (h1.playsInClaims hs) k fun p hp => by rw [h1.claimed]; exact hk p hp).trans (h1.levels hs k hk)

/-- `Confined.trans` with the later operation first, which fixes the state between. -/
theorem after (h2 : Confined who t u) (h1 : Confined who s t) : Confined who s u := h1.trans h2

theorem mono (hwho : who ⊆ who') (h : Confined who s t) : Confined who' s t :=
  ⟨h.fixed, h.players, fun hs k hk => h.levels hs k fun p hp => hk p (hwho hp)⟩

/-- One player's operation is one of all players. -/
theorem toUniv (h : Confined {p} s t) : Confined Set.univ s t := h.mono (Set.subset_univ _)

/-- Neither a player nor a level moves, and nothing that play never touches but the link. -/
theorem linked (hf : t.fixed.unlinked = s.fixed.unlinked) (hp : t.players = s.players) (hl : t.lines = s.lines) :
    Confined who s t where
  fixed := hf
  players p := by simp only [State.player, hp]; exact .refl _
  levels _ k _ := by rw [hl]

/-- Neither a player nor a level moves. -/
theorem same (hf : t.fixed = s.fixed) (hp : t.players = s.players) (hl : t.lines = s.lines) : Confined who s t :=
  linked (congrArg Fixed.unlinked hf) hp hl

/-- A player's record moves, but for its claim, to one that inherits from it. -/
theorem record {r : Player} (h : (s.player p).Inherits r) (hc : r.claimed = (s.player p).claimed) :
    Confined who s (s.setPlayer p r) where
  fixed := congrArg Fixed.unlinked (s.setPlayer_fixed p r hc)
  players p' := by
    by_cases e : p' = p
    · subst e; rw [s.setPlayer_player_same]; exact h
    · rw [s.setPlayer_player_ne r e]; exact .refl _
  levels _ _ _ := rfl

/-- A player's record moves, but for its claim and the lists it uses. -/
theorem put {r : Player} (h : (s.player p).SameUse r) (hc : r.claimed = (s.player p).claimed := by rfl) :
    Confined who s (s.setPlayer p r) := record h.inherits hc

/-- Lines within a player's claim are written. -/
theorem write {lines : LineSet} (levels : LineSet) (h : s.playsInClaims → lines &&& ~~~(s.player p).claimed = 0) :
    Confined {p} s (s.writeLines lines levels) where
  fixed := rfl
  players _ := .refl _
  levels hs k hk := by
    have hout : lines.getLsbD k.val = false := Bool.eq_false_iff.mpr fun hline => by
      have hclaimed := (LineSet.within_iff lines _).mp (h hs) k hline
      rw [hk p rfl] at hclaimed
      cases hclaimed
    rw [s.writeLines_level, hout]
    rfl

/-- The player writes lines of its current step. -/
theorem writeStep {st : Step} (hst : s.currentStep p = some st) (levels : LineSet) :
    Confined {p} s (s.writeLines st.footprint levels) := write levels fun hs => hs.currentStep hst

end Confined

/-! ### Operations that move neither a player nor a level -/

section Still

variable {who : Set PlayerId}

theorem State.produce_confined (s : State) (body : NoticeBody) : Confined who s (s.produce body) :=
  .same (s.produce_fixed body) (s.produce_players body) (s.produce_lines body)

theorem State.clearLatch_confined (s : State) (n : InputId) : Confined who s (s.clearLatch n) := .same rfl rfl rfl

theorem State.setInput_confined (s : State) (n : InputId) (r : Input) : Confined who s (s.setInput n r) := .same rfl rfl rfl

theorem State.useDownOpt_confined (s : State) (l : Option ListId) : Confined who s (s.useDownOpt l) :=
  .same (s.useDownOpt_fixed l) (s.useDownOpt_players l) (s.useDownOpt_lines l)

theorem State.noteBegin_confined (s : State) (p : PlayerId) (st : Step) : Confined who s (s.noteBegin p st) :=
  .same (s.noteBegin_fixed p st) (by rw [s.noteBegin_frame]) (by rw [s.noteBegin_frame])

theorem State.changeSafe_confined (s : State) (st : SafeState) (c : Causes) (ps : BitVec 6) :
    Confined who s (s.changeSafe st c ps) :=
  .same (s.changeSafe_fixed st c ps) (by rw [s.changeSafe_frame]) (by rw [s.changeSafe_frame])

theorem State.escalate_confined (s : State) (p : PlayerId) : Confined who s (s.escalate p) :=
  .same (s.escalate_fixed p) (by rw [s.escalate_frame]) (by rw [s.escalate_frame])

theorem State.rest_confined (s : State) (p : PlayerId) (a : Activity) (n : Nat) : Confined who s (s.rest p a n) :=
  .put ⟨rfl, rfl, id⟩

theorem State.transmit_confined (s : State) : Confined who s s.transmit :=
  .linked (by rw [s.transmit_frame]; rfl) s.transmit_players s.transmit_lines

end Still

/-! ### Commits, faults and the end of steps -/

/-- A committed player is bound to the list of its replacement, and to no other (R95, R96). -/
theorem Player.committed_inherits {r : Player} {new : ListId} {point : CommitPoint} (h : r.replacement = some (new, point)) :
    r.Inherits (r.committed new) := by
  refine ⟨id, fun l hl => .inr ?_⟩
  rcases hl with hl | hl
  · rw [Player.pendingList, h]; exact hl
  · cases hl

theorem State.commitRecord_confined {who : Set PlayerId} {s : State} {p : PlayerId} {new : ListId} {point point' : CommitPoint}
    (h : (s.player p).replacement = some (new, point')) : Confined who s (s.commitRecord p new point) := by
  rw [State.commitRecord_eq]
  exact .after (State.produce_confined _ _) (.after (State.useDownOpt_confined _ _) (.record (Player.committed_inherits h) rfl))

theorem State.commitAtPassEnd_confined {who : Set PlayerId} (s : State) (p : PlayerId) : Confined who s (s.commitAtPassEnd p) := by
  unfold State.commitAtPassEnd
  split
  case h_1 new h => exact State.commitRecord_confined h
  case h_2 => exact .refl _ s

/-- A faulted player keeps its list, and its replacement is dropped (R89). -/
theorem Player.faultedBy_inherits (r : Player) (cause : FaultCause) : r.Inherits (r.faultedBy cause) :=
  ⟨nofun, fun _ h => h.elim .inl nofun⟩

/-- The player's own lines take their idle levels. -/
theorem State.idleLines_confined (s : State) (p : PlayerId) : Confined {p} s (s.idleLines (s.player p).claimed) :=
  .write _ fun _ => BitVec.and_not_self _

theorem State.faultPlayer_confined (s : State) (p : PlayerId) (cause : FaultCause) : Confined {p} s (s.faultPlayer p cause) := by
  have hend : ∀ u : State, Confined {p} u (if u.params.faultToSafe then u.escalate p else u) := fun u => by
    split
    · exact u.escalate_confined p
    · exact .refl _ u
  refine .after (hend _) (.after (State.produce_confined _ _) (.after (State.useDownOpt_confined _ _) ?_))
  refine Confined.trans (.record (s.player p |>.faultedBy_inherits cause) rfl) (.write _ fun _ => ?_)
  rw [State.setPlayer_player_same]
  exact BitVec.and_not_self _

theorem State.endRun_confined {who : Set PlayerId} (s : State) (p : PlayerId) (cause : RunEndCause) :
    Confined who s (s.endRun p cause) :=
  .after (State.produce_confined _ _) (.put ⟨rfl, rfl, nofun⟩)

theorem State.holdQuestion_confined {who : Set PlayerId} (s : State) (p : PlayerId) (st : Step) :
    Confined who s (s.holdQuestion p st).1 := by
  unfold State.holdQuestion
  simp only
  split
  · exact .after (State.produce_confined _ _) (.put ⟨rfl, rfl, nofun⟩)
  · exact .refl _ s

theorem State.passEnd_confined {who : Set PlayerId} (s : State) (p : PlayerId) (st : Step) : Confined who s (s.passEnd p st).1 := by
  have hcount : ∀ body n, Confined who s ((s.produce body).setPlayer p { s.player p with passCount := n }) := fun body n =>
    (s.produce_confined body).trans (.put (by rw [s.produce_player]; exact ⟨rfl, rfl, id⟩) (by rw [s.produce_player]))
  unfold State.passEnd
  simp only
  split
  case h_1 new h =>
    exact ((hcount _ _).trans (State.commitRecord_confined (point' := .passEnd) (by simp [h]))).trans
      (State.holdQuestion_confined _ p st)
  case h_2 =>
    split
    · exact (((hcount _ _).trans (.put (by simp [Player.SameUse]) (by simp))).trans (State.produce_confined _ _)).trans
        (State.holdQuestion_confined _ p st)
    · split
      · exact ((hcount _ _).trans (.put (by simp [Player.SameUse]) (by simp))).trans (State.holdQuestion_confined _ p st)
      · exact (hcount _ _).trans (State.endRun_confined _ p _)

theorem State.resolve_confined {who : Set PlayerId} (s : State) (p : PlayerId) (st : Step) : Confined who s (s.resolve p st).1 := by
  unfold State.resolve
  simp only
  split
  · exact (s.endRun_confined p _).trans (State.commitAtPassEnd_confined _ p)
  · split
    · exact s.passEnd_confined p st
    · exact .after (State.holdQuestion_confined _ p st) (.put ⟨rfl, rfl, id⟩)

/-! ### Admissions -/

theorem State.beginWait_confined (s : State) (p : PlayerId) (st : Step) (n : InputId) (timeout : BitVec 16) :
    Confined {p} s (s.beginWait p st n timeout).1 := by
  unfold State.beginWait
  simp only
  split
  · split
    · exact (s.clearLatch_confined n).trans (State.rest_confined _ p _ _)
    · split
      · exact (s.clearLatch_confined n).trans (State.faultPlayer_confined _ p _)
      · exact s.clearLatch_confined n
  · exact s.rest_confined p _ _

theorem State.noteBegin_currentStep (s : State) (p : PlayerId) (st : Step) :
    (s.noteBegin p st).currentStep p = s.currentStep p := by
  rw [s.noteBegin_frame]; rfl

/-- A begin writes the lines of the player's current step, if it writes any (R51, R52). -/
theorem State.beginStep_confined {s : State} {p : PlayerId} {st : Step} (h : s.currentStep p = some st) :
    Confined {p} s (s.beginStep p st).1 := by
  have hwrite : ∀ levels, Confined {p} (s.noteBegin p st) ((s.noteBegin p st).writeLines st.footprint levels) :=
    Confined.writeStep (by rw [s.noteBegin_currentStep]; exact h)
  refine (s.noteBegin_confined p st).trans ?_
  unfold State.beginStep
  simp only
  split
  case h_1 lines levels dwell haction =>
    rw [Step.footprint, haction] at hwrite
    split
    · exact hwrite levels
    · exact (hwrite levels).trans (State.rest_confined _ p _ _)
  case h_2 lines levels width dwell haction =>
    rw [Step.footprint, haction] at hwrite
    exact (hwrite levels).trans (State.rest_confined _ p _ _)
  case h_3 => exact State.beginWait_confined _ p st _ _
  case h_4 =>
    split
    · exact .refl _ _
    · exact State.rest_confined _ p _ _

theorem State.admitStep_confined (s : State) (p : PlayerId) : Confined {p} s (s.admitStep p).1 := by
  unfold State.admitStep
  split
  case h_1 => exact .refl _ s
  case h_2 st hst =>
    split
    · split
      · exact s.faultPlayer_confined p _
      · exact State.beginStep_confined hst
      · exact s.rest_confined p _ _
    · exact State.beginStep_confined hst

theorem State.admitNext_confined (s : State) (p : PlayerId) : Confined {p} s (s.admitNext p).1 := by
  unfold State.admitNext
  simp only
  split
  · split
    · exact .put ⟨rfl, rfl, id⟩
    · exact .after (State.admitStep_confined _ p) (.put ⟨rfl, rfl, id⟩)
  · exact s.admitStep_confined p

theorem chain_confined : ∀ (fuel : Nat) (p : PlayerId) (s : State), Confined {p} s (chain fuel p s)
  | 0, p, s => .refl _ s
  | fuel + 1, p, s => by
    have hadmit := s.admitNext_confined p
    unfold chain
    split
    case h_1 s1 h => rw [h] at hadmit; exact hadmit
    case h_2 s1 st h =>
      rw [h] at hadmit
      have hres := s1.resolve_confined (who := {p}) p st
      split
      case h_1 s2 h2 => rw [h2] at hres; exact (hadmit.trans hres).trans (chain_confined fuel p s2)
      case h_2 s2 h2 => rw [h2] at hres; exact hadmit.trans hres

theorem State.admitChain_confined (s : State) (p : PlayerId) : Confined {p} s (s.admitChain p) := chain_confined _ p s

theorem State.endStep_confined (s : State) (p : PlayerId) (st : Step) : Confined {p} s (s.endStep p st) := by
  have hres := s.resolve_confined (who := {p}) p st
  unfold State.endStep
  split
  case h_1 s1 h => rw [h] at hres; exact hres.trans (s1.admitChain_confined p)
  case h_2 s1 h => rw [h] at hres; exact hres

theorem State.follow_confined (a : State × Admission) (p : PlayerId) : Confined {p} a.1 (State.follow a p) := by
  unfold State.follow
  split
  · exact .refl _ _
  · exact State.endStep_confined _ p _

theorem State.beginRun_confined (s : State) (p : PlayerId) (c : StartCause) : Confined {p} s (s.beginRun p c) :=
  .after (State.admitChain_confined _ p) (.after (State.produce_confined _ _) (.put ⟨rfl, rfl, nofun⟩))

/-! ### Phases that end, commits at a superframe start, resumes -/

/-- A trailing edge writes the lines of the player's current step (R52). -/
theorem State.trailingEdge_confined {s : State} {p : PlayerId} {st : Step} (h : s.currentStep p = some st) :
    Confined {p} s (s.trailingEdge st) := by
  have hwrite := Confined.writeStep h
  unfold State.trailingEdge
  split
  case h_1 lines levels width dwell haction =>
    rw [Step.footprint, haction] at hwrite
    exact hwrite _
  all_goals exact .refl _ s

theorem State.expire_confined (s : State) (p : PlayerId) (st : Step) : Confined {p} s (s.expire p st) := by
  unfold State.expire
  split
  · exact s.faultPlayer_confined p _
  · exact s.endStep_confined p st

/-- A count that reaches 0 leaves the player on its current step. -/
theorem State.counted_currentStep (s : State) (p : PlayerId) : (s.counted p).currentStep p = s.currentStep p :=
  State.currentStep_congr (fun _ => rfl) (by rw [s.counted_player]) (by rw [s.counted_player])

theorem State.phaseEnd_confined (s : State) (p : PlayerId) : Confined {p} s (s.phaseEnd p) := by
  have hcounted : Confined {p} s (s.counted p) := .put ⟨rfl, rfl, id⟩
  unfold State.phaseEnd
  simp only
  split
  case h_1 st _ _ hst =>
    refine hcounted.trans ?_
    have hedge := State.trailingEdge_confined (p := p) (st := st) ((s.counted_currentStep p).trans hst)
    split
    · exact State.endStep_confined _ p _
    · split
      · exact hedge.trans (State.endStep_confined _ p _)
      · exact hedge.trans (State.rest_confined _ p _ _)
    · exact State.expire_confined _ p _
    · exact .refl _ _
  case h_2 => exact .refl _ s

theorem State.abandonStep_confined (s : State) (p : PlayerId) : Confined {p} s (s.abandonStep p) := by
  unfold State.abandonStep
  simp only
  split
  case h_1 st _ hst =>
    refine (State.trailingEdge_confined hst).trans (.put ?_ ?_)
    · rw [s.trailingEdge_player]; exact ⟨rfl, rfl, id⟩
    · rw [s.trailingEdge_player]
  case h_2 => exact .put ⟨rfl, rfl, id⟩

theorem State.commitSuper_confined (s : State) (p : PlayerId) : Confined {p} s (s.commitSuper p) := by
  unfold State.commitSuper
  split
  case h_1 new h =>
    have hcommit : Confined {p} s ((s.abandonStep p).commitRecord p new .superframe) :=
      (s.abandonStep_confined p).trans (State.commitRecord_confined ((s.abandonStep_replacement p).trans h))
    simp only
    split
    · exact hcommit.trans (State.admitChain_confined _ p)
    all_goals exact hcommit
  case h_2 => exact .refl _ s

theorem State.resumeWait_confined (s : State) (p : PlayerId) (st : Step) (n : InputId) :
    Confined {p} s (s.resumeWait p st n) := by
  unfold State.resumeWait
  simp only
  split
  · split
    · exact (s.clearLatch_confined n).trans (State.faultPlayer_confined _ p _)
    · exact (s.clearLatch_confined n).trans (State.endStep_confined _ p _)
  · exact .refl _ s

theorem State.resumePlayer_confined (s : State) (p : PlayerId) : Confined {p} s (s.resumePlayer p) := by
  have hunheld : Confined {p} s (s.unheld p) := .put ⟨rfl, rfl, nofun⟩
  refine hunheld.trans ?_
  unfold State.resumePlayer
  simp only
  split
  · exact State.admitChain_confined _ p
  · split
    · exact State.resumeWait_confined _ p _ _
    all_goals exact .refl _ _
  · split
    · split
      · exact State.endStep_confined _ p _
      · exact .refl _ _
    all_goals exact .refl _ _
  · exact .refl _ _

theorem State.autoResume_confined (s : State) (o : Order) (super : Bool) (p : PlayerId) :
    Confined {p} s (s.autoResume o super p) := by
  unfold State.autoResume
  simp only
  split
  · split
    · exact .after (State.commitSuper_confined _ p) (.put ⟨rfl, rfl, nofun⟩)
    · exact s.resumePlayer_confined p
  · exact .refl _ s

end Sys2Proof.Machine

/-! PROOFS. Events of the Timebase, of the inputs and of the Safe Unit are confined play (R105, R106). -/

namespace Sys2Proof.Machine

/-! ### Events of the Timebase and of the inputs on one player -/

theorem State.countTick_confined (s : State) (o : Order) (p : PlayerId) : Confined {p} s (s.countTick o p) := by
  unfold State.countTick
  simp only
  split
  · split
    · exact .after (State.phaseEnd_confined _ p) (.put ⟨rfl, rfl, id⟩)
    · exact .put ⟨rfl, rfl, id⟩
  · exact .put ⟨rfl, rfl, id⟩

theorem State.alignEvent_confined (s : State) (p : PlayerId) (ev : TbEvent) : Confined {p} s (s.alignEvent p ev) := by
  unfold State.alignEvent
  split
  · split
    · split
      · exact s.endStep_confined p _
      · exact .refl _ s
    all_goals exact .refl _ s
  · exact .refl _ s

theorem State.fitEvent_confined (s : State) (p : PlayerId) (ev : TbEvent) : Confined {p} s (s.fitEvent p ev) := by
  unfold State.fitEvent
  split
  case h_1 st _ hst =>
    split
    · exact s.faultPlayer_confined p _
    · exact (State.beginStep_confined hst).trans (State.follow_confined _ p)
    · exact .refl _ s
  case h_2 => exact .refl _ s

theorem State.runningEvent_confined (s : State) (o : Order) (p : PlayerId) (ev : TbEvent) :
    Confined {p} s (s.runningEvent o p ev) := by
  have hcount : ∀ b : Bool, Confined {p} s (if b then s.countTick o p else s) := fun b => by
    split
    · exact s.countTick_confined o p
    · exact .refl _ s
  unfold State.runningEvent
  simp only
  split
  · split
    · exact .after (State.admitChain_confined _ p) (.put ⟨rfl, rfl, id⟩)
    · exact .refl _ s
  · split
    · exact hcount _
    · exact hcount _
    · exact hcount _
    · exact s.alignEvent_confined p ev
    · exact s.fitEvent_confined p ev
    · exact .refl _ s

theorem State.superEvent_confined (s : State) (o : Order) (p : PlayerId) (ev : TbEvent) :
    Confined {p} s (s.superEvent o p ev) := by
  unfold State.superEvent
  split
  · split
    · exact (s.beginRun_confined p _).trans (State.commitSuper_confined _ p)
    · exact (s.commitSuper_confined p).trans (State.beginRun_confined _ p _)
  · exact s.commitSuper_confined p

theorem State.playerEvent_confined (s : State) (o : Order) (ev : TbEvent) (before : PlayerState) (p : PlayerId) :
    Confined {p} s (s.playerEvent o ev before p) := by
  unfold State.playerEvent
  simp only
  split
  · exact s.superEvent_confined o p ev
  · split
    · exact s.runningEvent_confined o p ev
    · split
      · exact s.beginRun_confined p _
      · exact .refl _ s
    · exact .refl _ s

theorem State.handTo_confined (s : State) (o : Order) (ev : TbEvent) (before : Player) (p : PlayerId) :
    Confined {p} s (s.handTo o ev before p) := by
  unfold State.handTo
  simp only
  split
  · split
    · exact .put ⟨rfl, rfl, id⟩
    · exact .refl _ s
  · exact s.playerEvent_confined o ev _ p

theorem State.owedEvent_confined (s : State) (p : PlayerId) : Confined {p} s (s.owedEvent p) := by
  unfold State.owedEvent
  simp only
  split
  · exact .after (State.playerEvent_confined _ _ _ _ p) (.put ⟨rfl, rfl, id⟩)
  · exact .refl _ s

theorem State.edgeReaches_confined (s : State) (n : InputId) (d : Bool) (p : PlayerId) :
    Confined {p} s (s.edgeReaches n d p) := by
  unfold State.edgeReaches
  simp only
  split
  · exact s.beginRun_confined p _
  · split
    · split
      · exact s.faultPlayer_confined p _
      · exact .after (State.endStep_confined _ p _) (.put ⟨rfl, rfl, id⟩)
    · exact .refl _ s

theorem State.startPlayer_confined (s : State) (p : PlayerId) (sp : StartPoint) (limit : Nat) (stop : Option Nat) :
    Confined {p} s (s.startPlayer p sp limit stop) := by
  have hlimits : Confined {p} s (s.setLimits p limit stop) := .put ⟨rfl, rfl, id⟩
  refine hlimits.trans ?_
  unfold State.startPlayer
  simp only
  split
  · exact State.beginRun_confined _ p _
  all_goals exact .put ⟨rfl, rfl, nofun⟩

theorem State.stopPlayer_confined (s : State) (p : PlayerId) : Confined {p} s (s.stopPlayer p) :=
  .after (State.commitAtPassEnd_confined _ p) ((s.idleLines_confined p).trans (.put ⟨rfl, rfl, nofun⟩))

/-! ### The order of agents, and the reach of a safe entry (R133) -/

theorem State.enterPlayer_confined {who : Set PlayerId} (s : State) (p : PlayerId) : Confined who s (s.enterPlayer p) := by
  unfold State.enterPlayer
  simp only
  split
  · exact .put ⟨rfl, rfl, nofun⟩
  · exact .after (State.produce_confined _ _) (.put ⟨rfl, rfl, nofun⟩)
  all_goals exact .refl _ s

theorem State.reachPlayers_confined {who : Set PlayerId} (s : State) (players exempt : List PlayerId) :
    Confined who s (s.reachPlayers players exempt) := by
  unfold State.reachPlayers
  split
  · exact .refl _ s
  · clear * -
    induction players generalizing s with
    | nil => exact .refl _ s
    | cons p ps ih =>
      refine .after (ih _) ?_
      beta_reduce
      split
      · exact .refl _ s
      · exact s.enterPlayer_confined p

theorem State.settle_confined {who : Set PlayerId} (s : State) (o : Order) : Confined who s (s.settle o) :=
  s.reachPlayers_confined _ _

theorem runActors_confined {who : Set PlayerId} {o : Order} {act : Actor → State → State}
    (h : ∀ a s, Confined who s (act a s)) : ∀ (actors : List Actor) (s : State), Confined who s (runActors o act actors s)
  | [], s => .refl _ s
  | a :: rest, s => by
    unfold runActors
    exact ((h a s).trans (State.reachPlayers_confined _ _ _)).trans (runActors_confined h rest _)

theorem eachPlayer_confined {o : Order} {act : PlayerId → State → State} (h : ∀ p s, Confined {p} s (act p s)) (s : State) :
    Confined Set.univ s (eachPlayer o act s) := by
  refine runActors_confined (fun a s => ?_) _ s
  cases a with
  | player p => exact (h p s).toUniv
  | safeUnit => exact .refl _ s
  | superframeNotice => exact .refl _ s

theorem State.owedNow_confined (s : State) (p : PlayerId) : Confined {p} s (s.owedNow p) := by
  unfold State.owedNow
  split
  · exact (s.owedEvent_confined p).trans (State.reachPlayers_confined _ _ _)
  · exact .refl _ s

theorem State.catchUp_confined (s : State) (o : Order) : Confined Set.univ s (s.catchUp o) :=
  eachPlayer_confined (fun p s => (s.phaseEnd_confined p).trans (State.owedEvent_confined _ p)) s

/-! ### The Safe Unit -/

theorem State.enterSafe_confined {who : Set PlayerId} (s : State) (o : Order) (st : SafeState) (c : Causes) :
    Confined who s (s.enterSafe o st c) :=
  (s.changeSafe_confined st c _).trans (State.reachPlayers_confined _ _ _)

theorem State.judgeHold_confined {who : Set PlayerId} (s : State) (o : Order) (active : Bool) :
    Confined who s (s.judgeHold o active) := by
  have hold : Confined who s { s with safe := { s.safe with holdActive := active } } := .same rfl rfl rfl
  unfold State.judgeHold
  simp only
  split
  · exact .refl _ s
  · split
    · split
      · exact hold.trans (State.enterSafe_confined _ o _ _)
      · exact hold.trans (State.changeSafe_confined _ _ _ _)
      · exact hold
    · split
      · exact hold.trans (State.changeSafe_confined _ _ _ _)
      · exact hold
      · exact hold

theorem State.releaseSafe_confined (s : State) (o : Order) (super : Bool) : Confined Set.univ s (s.releaseSafe o super) := by
  refine .after ?_ (s.changeSafe_confined .clear Causes.empty 0)
  unfold State.releaseSafe
  simp only
  split
  · exact eachPlayer_confined (fun p s => s.autoResume_confined o super p) _
  · exact .refl _ _

theorem State.autoRelease_confined (s : State) (o : Order) : Confined Set.univ s (s.autoRelease o) := by
  unfold State.autoRelease
  split
  · exact s.releaseSafe_confined o true
  · exact .refl _ s

theorem State.holdSample_confined {who : Set PlayerId} (s : State) (level : Bool) (o : Order) :
    Confined who s (s.holdSample level o) := by
  have hlevel : Confined who s { s with safe := { s.safe with holdIn := level } } := .same rfl rfl rfl
  unfold State.holdSample
  simp only
  split
  · exact (hlevel.trans (State.judgeHold_confined _ o _)).trans (State.settle_confined _ o)
  · exact hlevel

/-! ### The Timebase -/

section Timebase

variable {who : Set PlayerId}

theorem State.syncOutAtTick_confined (s : State) : Confined who s s.syncOutAtTick :=
  .same s.syncOutAtTick_fixed (by rw [s.syncOutAtTick_frame]) (by rw [s.syncOutAtTick_frame])

theorem State.countFrame_confined (s : State) (i : Nat) : Confined who s (s.countFrame i) :=
  .same (s.countFrame_fixed i) (by rw [s.countFrame_frame]) (by rw [s.countFrame_frame])

theorem State.syncOutAtFrame_confined (s : State) (super : Bool) : Confined who s (s.syncOutAtFrame super) :=
  .same (s.syncOutAtFrame_fixed super) (by rw [s.syncOutAtFrame_frame]) (by rw [s.syncOutAtFrame_frame])

theorem State.setTbState_confined (s : State) (st : TbState) : Confined who s (s.setTbState st) :=
  .same (s.setTbState_fixed st) (by rw [s.setTbState_frame]) (by rw [s.setTbState_frame])

theorem State.raiseIf_confined (s : State) (src : SyncOutSrc) : Confined who s (s.raiseIf src) :=
  .same (s.raiseIf_fixed src) (by rw [s.raiseIf_frame]) (by rw [s.raiseIf_frame])

theorem State.endSyncHold_confined (s : State) : Confined who s s.endSyncHold :=
  .same s.endSyncHold_fixed (by rw [s.endSyncHold_frame]) (by rw [s.endSyncHold_frame])

theorem State.clearDivider_confined (s : State) : Confined who s s.clearDivider := .same rfl rfl rfl

theorem State.tbNotice_confined (s : State) (e : TbEventKind) (r : Option Stamp) : Confined who s (s.tbNotice e r) :=
  s.produce_confined _

theorem State.commitNotice_confined (s before : State) : Confined who s (s.commitNotice before) := by
  unfold State.commitNotice
  split
  · exact .refl _ s
  · exact s.tbNotice_confined _ _

theorem State.inactiveEdge_confined (s : State) : Confined who s s.inactiveEdge := by
  unfold State.inactiveEdge
  split
  · exact (s.setTbState_confined _).trans (State.tbNotice_confined _ _ _)
  · exact .refl _ s

theorem State.tbStopAction_confined (s : State) : Confined who s s.tbStopAction := by
  refine .after (State.tbNotice_confined _ _ _) ((s.setTbState_confined .stopped).trans ?_)
  split <;> exact .same rfl rfl rfl

/-- The flags "pass begun in this tick" are no part of what a player claims or uses (R87). -/
theorem State.clearPassBegun_confined (s : State) : Confined who s s.clearPassBegun where
  fixed := congrArg Fixed.unlinked s.clearPassBegun_fixed
  players p := by rw [s.clearPassBegun_player]; exact ⟨id, fun _ => id⟩
  levels _ _ _ := rfl

end Timebase

theorem State.handOut_confined (s : State) (o : Order) (ev : TbEvent) : Confined Set.univ s (s.handOut o ev) := by
  refine runActors_confined (fun a s' => ?_) _ s
  cases a with
  | player p => exact (s'.handTo_confined o ev _ p).toUniv
  | safeUnit =>
    simp only
    split
    · exact s'.autoRelease_confined o
    · exact .refl _ s'
  | superframeNotice =>
    simp only
    split
    · exact s'.produce_confined _
    · exact .refl _ s'

/-- A frame start, where what comes before its hand-out is confined. -/
theorem State.frameStart_confined (s : State) (o : Order) (index : Nat) {first : State → State} (tick sync : Bool)
    (h : ∀ s, Confined Set.univ s (first s)) : Confined Set.univ s (s.frameStart o index first tick sync) := by
  refine .after (State.handOut_confined _ _ _) (.after (State.commitNotice_confined _ _) (.after (h _) ?_))
  exact (s.countFrame_confined index).trans (State.syncOutAtFrame_confined _ _)

theorem State.tick_confined (s : State) (o : Order) : Confined Set.univ s (s.tick o) := by
  have hstart : Confined Set.univ s ((s.catchUp o).syncOutAtTick).clearPassBegun :=
    ((s.catchUp_confined o).trans (State.syncOutAtTick_confined _)).trans (State.clearPassBegun_confined _)
  refine hstart.trans ?_
  unfold State.tick
  simp only
  split
  · exact .after (State.handOut_confined _ _ _) (.same rfl rfl rfl)
  · exact State.frameStart_confined _ o _ true false (.refl _)

theorem State.beginTbRun_confined (s : State) (o : Order) (st : TbState) (sync : Bool) :
    Confined Set.univ s (s.beginTbRun o st sync) :=
  .after (State.frameStart_confined _ o 0 false sync fun u => u.tbNotice_confined _ _)
    ((s.setTbState_confined st).trans (State.clearDivider_confined _))

theorem State.tbStartAction_confined (s : State) (o : Order) : Confined Set.univ s (s.tbStartAction o) := by
  unfold State.tbStartAction
  split
  · exact s.beginTbRun_confined o _ _
  · exact s.beginTbRun_confined o _ _
  · exact s.setTbState_confined _
  · exact s.beginTbRun_confined o _ _

theorem State.mergeEdge_confined (s : State) (o : Order) : Confined Set.univ s (s.mergeEdge o) := by
  refine s.clearDivider_confined.trans ?_
  unfold State.mergeEdge
  simp only
  split
  · exact State.handOut_confined _ _ _
  · refine .after (State.handOut_confined _ _ _)
      (.after (State.commitNotice_confined _ _) (.after (State.raiseIf_confined _ _) ?_))
    exact .same rfl rfl rfl

theorem State.activeEdge_confined (s : State) (o : Order) : Confined Set.univ s (s.activeEdge o) := by
  unfold State.activeEdge
  split
  · exact s.beginTbRun_confined o _ _
  · split
    · exact s.mergeEdge_confined o
    · exact s.clearDivider_confined.trans (State.frameStart_confined _ o 0 false true (.refl _))
  · exact ((s.setTbState_confined _).trans (State.tbNotice_confined _ _ _)).trans (State.handOut_confined _ _ _)
  · exact s.handOut_confined _ _

theorem State.syncChange_confined (s : State) (level : Bool) (o : Order) : Confined Set.univ s (s.syncChange level o) := by
  unfold State.syncChange
  simp only
  split
  · exact .refl _ s
  · refine (s.catchUp_confined o).trans ?_
    split
    · exact .after (State.activeEdge_confined _ o) (.same rfl rfl rfl)
    · exact .after (State.inactiveEdge_confined _) (.same rfl rfl rfl)

/-! ### Microseconds, phase ends and inputs -/

theorem State.timeByte_confined {who : Set PlayerId} (s : State) : Confined who s s.timeByte := by
  rw [s.timeByte_frame]; exact .linked rfl rfl rfl

theorem State.divide_confined (s : State) (o : Order) : Confined Set.univ s (s.divide o) := by
  unfold State.divide
  split
  · exact s.clearDivider_confined.trans (State.tick_confined _ o)
  · split
    · exact .same rfl rfl rfl
    · exact .refl _ s

theorem State.passMicrosecond_confined (s : State) (o : Order) : Confined Set.univ s (s.passMicrosecond o) :=
  ((s.timeByte_confined.trans (State.endSyncHold_confined _)).trans (State.catchUp_confined _ o)).trans
    (State.divide_confined _ o)

theorem State.acceptEdge_confined (s : State) (n : InputId) (o : Order) : Confined Set.univ s (s.acceptEdge n o) := by
  have hlatch : ∀ r body, Confined Set.univ s ((s.setInput n r).produce body) := fun r body =>
    (s.setInput_confined n r).trans (State.produce_confined _ body)
  unfold State.acceptEdge
  simp only
  split
  · refine .after (eachPlayer_confined (fun p s' => ?_) _) ((hlatch _ _).trans (State.clearLatch_confined _ n))
    split
    · exact (s'.edgeReaches_confined n _ p).trans (State.owedEvent_confined _ p)
    · exact .refl _ s'
  · exact hlatch _ _

theorem State.acceptChange_confined (s : State) (n : InputId) (o : Order) : Confined Set.univ s (s.acceptChange n o) := by
  unfold State.acceptChange
  simp only
  split
  · exact ((s.setInput_confined n _).trans (State.acceptEdge_confined _ n o)).trans (State.settle_confined _ o)
  · exact s.setInput_confined n _

theorem State.sample_confined (s : State) (n : InputId) (level : Bool) (o : Order) :
    Confined Set.univ s (s.sample n level o) := by
  unfold State.sample
  simp only
  split
  · exact s.setInput_confined n _
  · split
    · exact s.setInput_confined n _
    · split
      · exact s.acceptChange_confined n o
      · exact s.setInput_confined n _

/-! ### Takes and events of a live part -/

theorem State.live_confined {who : Set PlayerId} {s : State} {event : State → State} (h : ∀ s, Confined who s (event s)) :
    Confined who s (s.live event) := by
  unfold State.live
  split
  · exact (h s).trans (State.transmit_confined _)
  all_goals exact .refl _ s

/-- A take is confined where its block's own part is: inbox, replies and cache are the link's. -/
theorem State.take_confined {who : Set PlayerId} {s : State} {mine : Frame → Bool} {serve : Frame → State → State × Reply}
    (h : ∀ q s, Confined who s (serve q s).1) : Confined who s (s.take mine serve) := by
  unfold State.take
  split
  case h_1 q rest _ _ =>
    split
    · have hanswer : Confined who (s.taking rest) ((s.taking rest).answer q serve).1 := by
        unfold State.answer
        split
        · exact .refl _ _
        · exact h q _
      refine Confined.trans (t := s.taking rest) (.linked rfl rfl rfl) (hanswer.trans ?_)
      exact .after (State.transmit_confined _) (.linked rfl rfl rfl)
    · exact .refl _ s
  case h_2 => exact .refl _ s

theorem State.phaseRow_confined (s : State) (p : PlayerId) (o : Order) (a : Activity) (ofRow : StepAction → Bool) :
    Confined Set.univ s (s.phaseRow p o a ofRow) := by
  refine State.live_confined fun s => ?_
  split
  · refine runActors_confined (fun a s' => ?_) _ s
    cases a with
    | player p' =>
      simp only
      split
      · exact (s'.phaseEnd_confined p').toUniv
      · exact .refl _ s'
    | safeUnit => exact .refl _ s'
    | superframeNotice => exact .refl _ s'
  · exact .refl _ s

/-- With no player late, the row of a player's phase end is the play of that player alone (R106). -/
theorem State.phaseRow_confined_alone (s : State) (p : PlayerId) {o : Order} (hlate : o.late = []) (a : Activity)
    (ofRow : StepAction → Bool) : Confined {p} s (s.phaseRow p o a ofRow) := by
  unfold State.phaseRow
  rw [laterPlayers_none hlate]
  refine State.live_confined fun s => ?_
  split
  · simp only [runActors, true_or, if_true]
    exact (s.phaseEnd_confined p).trans (State.reachPlayers_confined _ _ _)
  · exact .refl _ s

end Sys2Proof.Machine

/-! PROOFS. The requests and rows of play are confined, and what that says of each block (O60). -/

namespace Sys2Proof.Machine

/-! ### Requests that let players play (R72 to R94) -/

theorem onPlayer_confined {who : Set PlayerId} {q : Frame} {s : State} {own : PlayerId → State × Reply}
    (h : ∀ p, Confined who s (own p).1) : Confined who s (onPlayer q s own).1 := by
  unfold onPlayer
  split
  · split
    · exact h _
    · exact .refl _ s
  · exact .refl _ s

theorem thenOwed_confined {s : State} {p : PlayerId} {a : State × Reply} (h : Confined {p} s a.1) :
    Confined Set.univ s (thenOwed p a).1 :=
  (h.trans (State.owedNow_confined _ p)).toUniv

theorem servePlayerStart_confined (o : Order) (q : Frame) (s : State) : Confined Set.univ s (servePlayerStart o q s).1 := by
  have hstart : ∀ p sp limit stop, Confined {p} s ((s.startPlayer p sp limit stop).settle o) := fun p sp limit stop =>
    (s.startPlayer_confined p sp limit stop).trans (State.settle_confined _ o)
  unfold servePlayerStart
  split
  · split
    · exact .refl _ s
    · split
      · exact .refl _ s
      · split
        · exact .refl _ s
        · split
          · exact .refl _ s
          · exact .refl _ s
          · exact .refl _ s
          · exact thenOwed_confined (hstart _ _ _ _)
          · exact thenOwed_confined (hstart _ _ _ _)
          · split
            · exact .refl _ s
            · exact thenOwed_confined (.put ⟨rfl, rfl, id⟩)
  · exact .refl _ s

theorem servePlayerResume_confined (o : Order) (q : Frame) (s : State) : Confined Set.univ s (servePlayerResume o q s).1 := by
  refine onPlayer_confined fun p => ?_
  split
  · exact .refl _ s
  · split
    case h_1 => exact thenOwed_confined ((s.resumePlayer_confined p).trans (State.settle_confined _ o))
    all_goals exact .refl _ s

/-! ### Requests of the Timebase and of the Safe Unit -/

theorem serveTbStart_confined (o : Order) (q : Frame) (s : State) : Confined Set.univ s (serveTbStart o q s).1 := by
  have hstart : Confined Set.univ s ((s.catchUp o).tbStartAction o) :=
    (s.catchUp_confined o).trans (State.tbStartAction_confined _ o)
  unfold serveTbStart
  split
  · simp only
    split <;> exact hstart
  all_goals exact .refl _ s

theorem serveTbStop_confined (o : Order) (q : Frame) (s : State) : Confined Set.univ s (serveTbStop o q s).1 := by
  unfold serveTbStop
  split
  · exact .refl _ s
  all_goals exact (s.catchUp_confined o).trans (State.tbStopAction_confined _)

theorem serveSafeEnter_confined (o : Order) (q : Frame) (s : State) : Confined Set.univ s (serveSafeEnter o q s).1 := by
  unfold serveSafeEnter
  simp only
  split
  · exact (s.enterSafe_confined o _ _).trans (State.settle_confined _ o)
  · split
    · exact .refl _ s
    · exact s.changeSafe_confined _ _ _

theorem serveSafeRelease_confined (o : Order) (q : Frame) (s : State) : Confined Set.univ s (serveSafeRelease o q s).1 := by
  unfold serveSafeRelease
  split
  · exact (s.releaseSafe_confined o false).trans (State.settle_confined _ o)
  all_goals exact .refl _ s

/-! ### Rows of time, of edges, of phase ends and of samples -/

/-- What an outcome's next state is confined to. -/
theorem Confined.of_next {who : Set PlayerId} {s t u : State}
    (h : (Host.Outcome.next u : Host.Outcome State Fault Refusal) = .next t) (hu : Confined who s u) : Confined who s t := by
  cases h; exact hu

theorem execInternalTick_confined {s t : State} {o : Order} (h : execInternalTick o s = .next t) : Confined Set.univ s t := by
  refine .of_next h (State.live_confined fun s => ?_)
  split
  · exact s.passMicrosecond_confined o
  · exact .refl _ s

theorem execTickInEdge_confined {s t : State} {o : Order} (h : execTickInEdge o s = .next t) : Confined Set.univ s t := by
  refine .of_next h (State.live_confined fun s => ?_)
  split
  · exact s.tick_confined o
  · exact .refl _ s

/-- SYNC_IN is followed by a part that is not live, and by nothing else of it (log 13). -/
theorem execSyncInEdge_confined {s t : State} {level : Bool} {o : Order} (h : execSyncInEdge level o s = .next t) :
    Confined Set.univ s t := by
  unfold execSyncInEdge at h
  split at h
  · exact .of_next h (State.live_confined fun s => s.syncChange_confined level o)
  all_goals exact .of_next h (.same rfl rfl rfl)

theorem execSyncOutPulseEnd_confined {s t : State} (h : execSyncOutPulseEnd s = .next t) : Confined Set.univ s t := by
  refine .of_next h (State.live_confined fun s => ?_)
  split
  · exact .same rfl rfl rfl
  · exact .refl _ s

/-- HOLD_IN is followed by a part that is not live, and by nothing else of it (log 13). -/
theorem execHoldInChange_confined {s t : State} {level : Bool} {o : Order} (h : execHoldInChange level o s = .next t) :
    Confined Set.univ s t := by
  unfold execHoldInChange at h
  split at h
  · exact .of_next h (State.live_confined fun s => s.holdSample_confined level o)
  all_goals exact .of_next h (.same rfl rfl rfl)

/-- The rows by which players play and time passes are confined. -/
theorem exec_confined {s t : State} {c : Instr} {o : Order} {p : PlayerId} {n : InputId} {level : Bool} (h : exec c s = .next t)
    (hc : c ∈ [.playerStart o, .playerResume o, .tbStart o, .tbStop o, .safeEnter o, .safeRelease o, .internalTick o,
      .tickInEdge o, .syncInEdge level o, .syncOutPulseEnd, .setDwellEnd p o, .pulseTrailingEdge p o, .pulseDwellEnd p o,
      .waitEdgeTimeout p o, .acceptedChange n o, .inputSample n level o, .holdInChange level o]) : Confined Set.univ s t := by
  simp only [List.mem_cons, List.not_mem_nil, or_false] at hc
  rcases hc with rfl | rfl | rfl | rfl | rfl | rfl | rfl | rfl | rfl | rfl | rfl | rfl | rfl | rfl | rfl | rfl | rfl
  · exact .of_next h (State.take_confined (servePlayerStart_confined o))
  · exact .of_next h (State.take_confined (servePlayerResume_confined o))
  · exact .of_next h (State.take_confined (serveTbStart_confined o))
  · exact .of_next h (State.take_confined (serveTbStop_confined o))
  · exact .of_next h (State.take_confined (serveSafeEnter_confined o))
  · exact .of_next h (State.take_confined (serveSafeRelease_confined o))
  · exact execInternalTick_confined h
  · exact execTickInEdge_confined h
  · exact execSyncInEdge_confined h
  · exact execSyncOutPulseEnd_confined h
  · exact .of_next h (s.phaseRow_confined p o _ _)
  · exact .of_next h (s.phaseRow_confined p o _ _)
  · exact .of_next h (s.phaseRow_confined p o _ _)
  · exact .of_next h (s.phaseRow_confined p o _ _)
  · exact .of_next h (State.live_confined fun s => s.acceptChange_confined n o)
  · exact .of_next h (State.live_confined fun s => s.sample_confined n level o)
  · exact execHoldInChange_confined h

/-- With no player late, a row of one player's phase end is that player's play alone. -/
theorem exec_phase_confined {s t : State} {c : Instr} {o : Order} {p : PlayerId} (h : exec c s = .next t) (hlate : o.late = [])
    (hc : c ∈ [.setDwellEnd p o, .pulseTrailingEdge p o, .pulseDwellEnd p o, .waitEdgeTimeout p o]) : Confined {p} s t := by
  simp only [List.mem_cons, List.not_mem_nil, or_false] at hc
  rcases hc with rfl | rfl | rfl | rfl
  all_goals exact .of_next h (s.phaseRow_confined_alone p hlate _ _)

/-! ### What confined play leaves, field by field -/

namespace Confined

variable {who : Set PlayerId} {s t : State}

/-- Every field that play never touches, by the name under which `Fixed` collects it. -/
theorem field {α : Type} (h : Confined who s t) (f : Fixed → α) : f t.fixed.unlinked = f s.fixed.unlinked := congrArg f h.fixed

/-- A list moves in its use count alone. -/
theorem list_eq (h : Confined who s t) (l : ListId) : { t.list l with useCount := (s.list l).useCount } = s.list l := by
  change { (t.list l).cue with useCount := (s.list l).useCount } = s.list l
  rw [h.cue]
  rfl

/-- Of the parameters FRAME_LEN and SUPER_LEN alone may move. -/
theorem params (h : Confined who s t) :
    t.params = { s.params with frameLen := t.params.frameLen, superLen := t.params.superLen } := by
  have hparams : { t.params with frameLen := 0, superLen := 0 } = { s.params with frameLen := 0, superLen := 0 } :=
    h.field Fixed.params
  exact congrArg (fun r : Params => { r with frameLen := t.params.frameLen, superLen := t.params.superLen }) hparams

end Confined

/-- Settles O60: the rows of play are confined, and those of one phase end to their own player. -/
theorem playAndTimeTouchNoListNoBankNoOwner : Obligations.PlayAndTimeTouchNoListNoBankNoOwner := by
  intro s t c o p n level hexec hc
  have h := exec_confined hexec hc
  refine ⟨h.list_eq, h.field Fixed.freeSlots, h.field Fixed.busy, h.owner, h.field Fixed.image, h.field Fixed.boot,
    h.field Fixed.reloadPending, h.field Fixed.phase, h.params, h.claimed, h.field Fixed.pending, h.field Fixed.fresh,
    fun hplays k => ⟨fun hk => h.levels hplays k fun p' _ => hk p', fun hrow hlate hk => ?_⟩⟩
  refine (exec_phase_confined hexec hlate hrow).levels hplays k ?_
  rintro _ rfl
  exact hk

end Sys2Proof.Machine

/-! PROOFS. What keeps the claim table in agreement and the lists in use within the claims (R70, R92, R105): `Claims` says both,
first of what moves one list or one player, then of each block's requests. -/

namespace Sys2Proof.Machine

/-! ### When both conditions go on holding -/

/-- A list whose derived footprint lies within lines has its steps within them. -/
theorem State.playsInClaims.footprint {s : State} (h : s.playsInClaims) {l : ListId} {fp lines : LineSet} {d : Nat}
    (hl : (s.list l).state = .sealed) (hd : (s.list l).derived = some (fp, d)) (hw : ¬within fp lines = false) :
    footprintOf (s.list l).steps &&& ~~~lines = 0 := by
  obtain ⟨hderived, -⟩ := h
  obtain ⟨rfl, -⟩ : footprintOf (s.list l).steps = fp ∧ durationOf (s.list l).steps = d := by
    simpa using (hderived l hl).symm.trans hd
  simpa [within] using hw

/-- No player uses a list whose use count is 0 (R9). -/
theorem State.usesAgree.not_used {s : State} (h : s.usesAgree) {l : ListId} (hl : (s.list l).useCount = 0) (p : PlayerId) :
    ¬((s.player p).boundList = some l ∨ (s.player p).pendingList = some l) := by
  obtain ⟨hcount, -⟩ := h
  have hnone : (s.player p).uses l ≤ 0 := hl ▸ hcount l ▸ s.uses_le_users p l
  unfold Player.uses at hnone
  rintro (hb | hb) <;> simp [hb] at hnone

/-- The claim table goes on agreeing; and where `used` holds, the lists in use stay within the claims. -/
structure Claims (used : Prop) (s t : State) : Prop where
  table : s.claimsAgree → t.claimsAgree
  lists : used → s.playsInClaims → t.playsInClaims

theorem Confined.claims {used : Prop} {who : Set PlayerId} {s t : State} (h : Confined who s t) : Claims used s t :=
  ⟨h.claimsAgree, fun _ => h.playsInClaims⟩

namespace Claims

variable {used : Prop} {s t u : State}

theorem refl (s : State) : Claims used s s := ⟨id, fun _ => id⟩

theorem trans (h1 : Claims used s t) (h2 : Claims used t u) : Claims used s u :=
  ⟨fun h => h2.table (h1.table h), fun hu h => h2.lists hu (h1.lists hu h)⟩

/-- `Claims.trans` with the later change first, which fixes the state between. -/
theorem after (h2 : Claims used t u) (h1 : Claims used s t) : Claims used s u := h1.trans h2

/-- Players and owners stay, and lists move in their use counts alone. -/
theorem counts (hl : ∀ l, (t.list l).cue = (s.list l).cue) (hp : t.players = s.players)
    (ho : t.lines.owners = s.lines.owners) : Claims used s t := by
  have hplayer : ∀ p, t.player p = s.player p := fun p => by simp only [State.player, hp]
  refine ⟨fun h => h.of_players hp ho, fun _ h => h.of_uses hl fun p l hu => ?_⟩
  rw [hplayer] at hu ⊢
  exact h.inUse hu

/-- Neither a list nor a player nor an owner moves. -/
theorem aside (hl : t.store.lists = s.store.lists) (hp : t.players = s.players) (ho : t.lines.owners = s.lines.owners) :
    Claims used s t :=
  counts (fun l => by simp only [State.list, hl]) hp ho

/-- One list is written: what is derived of it is right, and its steps move only where no player uses it. -/
theorem list (l : ListId) (r : ListRec) (hl : t.store.lists = (s.setList l r).store.lists) (hp : t.players = s.players)
    (ho : t.lines = s.lines) (hd : r.Derives)
    (hu : used → (s.list l).useCount = 0 ∧ s.usesAgree ∨ r.steps = (s.list l).steps) : Claims used s t := by
  have hlist : ∀ l', t.list l' = if l' = l then r else s.list l' := fun l' => by
    rw [← s.setList_list]; simp only [State.list, hl]
  have hplayer : ∀ p, t.player p = s.player p := fun p => by simp only [State.player, hp]
  refine ⟨fun h => h.of_players hp (by rw [ho]), fun hused h => ⟨fun l' => ?_, fun p l' huse => ?_⟩⟩
  · obtain ⟨hderived, -⟩ := h
    change (t.list l').Derives
    rw [hlist]
    split
    · exact hd
    · exact hderived l'
  · rw [hplayer] at huse ⊢
    rw [hlist]
    split
    case isTrue e =>
      subst e
      rcases hu hused with ⟨hcount, hagree⟩ | hsteps
      · exact absurd huse (hagree.not_used hcount p)
      · rw [hsteps]; exact h.inUse huse
    case isFalse => exact h.inUse huse

/-- One player's record moves, but for its claim, to one that uses the list `l`, whose lines lie within that claim, beside
lists that it used. -/
theorem toList {p : PlayerId} {r : Player} (l : ListId) (hp : ∀ p', t.player p' = (s.setPlayer p r).player p')
    (hl : ∀ l, (t.list l).cue = (s.list l).cue) (ho : ∀ k, t.owner k = s.owner k) (hc : r.claimed = (s.player p).claimed)
    (hi : r.state = .idle → (s.player p).state = .idle)
    (hfp : s.playsInClaims → footprintOf (s.list l).steps &&& ~~~(s.player p).claimed = 0)
    (hu : ∀ k, r.boundList = some k ∨ r.pendingList = some k →
      k = l ∨ ((s.player p).boundList = some k ∨ (s.player p).pendingList = some k)) : Claims used s t := by
  refine ⟨fun h => h.congr ho (fun p' => ?_) (fun p' => ?_), fun _ h => h.of_uses hl fun p' k hk => ?_⟩
  · rw [hp, s.setPlayer_player]; split
    case isTrue e => rw [e, hc]
    case isFalse => rfl
  · rw [hp, s.setPlayer_player]; split
    case isTrue e => rw [e]; exact hi
    case isFalse => exact id
  · rw [hp] at hk ⊢
    by_cases e : p' = p
    · subst e
      rw [s.setPlayer_player_same] at hk ⊢
      rw [hc]
      rcases hu k hk with rfl | hold
      · exact hfp h
      · exact h.inUse hold
    · rw [s.setPlayer_player_ne r e] at hk ⊢
      exact h.inUse hk

/-- Every player stands at its start-up values and no line has an owner. -/
theorem fresh (hp : ∀ p, t.player p = Player.blank) (ho : ∀ k, t.owner k = none)
    (hd : s.playsInClaims → ∀ l, (t.list l).Derives) : Claims used s t := by
  refine ⟨fun _ => ⟨fun k p => ?_, fun p _ => ?_⟩, fun _ h => ⟨hd h, fun p l hl => ?_⟩⟩
  · rw [ho, hp]; simp [Player.blank]
  · rw [hp]; rfl
  · rw [hp] at hl; rcases hl with hl | hl <;> cases hl

end Claims

/-! ### Takes and events of a live part -/

section Take

variable {used : Prop} {s : State}

theorem State.transmit_claims (s : State) : Claims used s s.transmit := (s.transmit_confined (who := ∅)).claims

theorem State.live_claims {event : State → State} (h : ∀ s, Claims used s (event s)) : Claims used s (s.live event) := by
  unfold State.live
  split
  · exact (h s).trans (State.transmit_claims _)
  all_goals exact .refl s

/-- A take keeps what its block's own part keeps, once the request is out of the inbox. -/
theorem State.take_claims {mine : Frame → Bool} {serve : Frame → State → State × Reply}
    (h : ∀ q rest, Claims used (s.taking rest) (serve q (s.taking rest)).1) : Claims used s (s.take mine serve) := by
  unfold State.take
  split
  case h_1 q rest _ _ =>
    split
    · have hanswer : Claims used (s.taking rest) ((s.taking rest).answer q serve).1 := by
        unfold State.answer
        split
        · exact .refl _
        · exact h q rest
      refine Claims.trans (t := s.taking rest) (.aside rfl rfl rfl) (hanswer.trans ?_)
      exact .after (State.transmit_claims _) (.aside rfl rfl rfl)
    · exact .refl s
  case h_2 => exact .refl s

end Take

/-! ### Requests of the Cue Store (R11 to R17) -/

section Store

variable {used : Prop} {s : State}

theorem State.changeList_claims {b : Byte} {own : ListId → State × Reply} (h : ∀ l, Claims used s (own l).1) :
    Claims used s (s.changeList b own).1 := by
  unfold State.changeList
  split
  · exact .refl s
  · split
    · exact .refl s
    · exact h _

/-- A list that is not SEALED is written as one that is not SEALED: nothing is derived of it, and no player uses it. -/
theorem Claims.unsealed {t : State} (hu : used → s.usesAgree) (l : ListId) (r : ListRec)
    (hl : t.store.lists = (s.setList l r).store.lists) (hp : t.players = s.players) (ho : t.lines = s.lines)
    (hs : (s.list l).state ≠ .sealed) (hr : r.state ≠ .sealed) : Claims used s t :=
  .list l r hl hp ho (fun h => absurd h hr) fun hused => .inl ⟨(hu hused).unused hs, hu hused⟩

theorem State.openList_claims (hu : used → s.usesAgree) {l : ListId} (label : List Byte) (h : (s.list l).state = .free) :
    Claims used s (s.openList l label).1 :=
  .unsealed hu l _ rfl rfl rfl (by rw [h]; nofun) nofun

theorem serveListCreate_claims (q : Frame) (hu : used → s.usesAgree) : Claims used s (serveListCreate q s).1 := by
  unfold serveListCreate
  split
  · split
    · exact .refl s
    · split
      · exact .refl s
      · split
        · exact .refl s
        · split
          · split
            case h_1 l h => exact State.openList_claims hu _ (State.lowestFree_free h)
            case h_2 => exact .refl s
          · split
            · split
              case isTrue h => exact State.openList_claims hu _ h
              case isFalse => exact .refl s
            · exact .refl s
  · exact .refl s

theorem serveListAppend_claims (q : Frame) (hu : used → s.usesAgree) : Claims used s (serveListAppend q s).1 := by
  unfold serveListAppend
  split
  · refine State.changeList_claims fun l => ?_
    split
    · exact .refl s
    case isFalse hopen =>
      have hopened : (s.list l).state = .opened := not_not.mp hopen
      split
      · exact .refl s
      case h_2 steps _ =>
        split
        · exact .refl s
        · split
          · exact .refl s
          · exact .unsealed hu l { s.list l with steps := (s.list l).steps ++ steps } rfl rfl rfl (by rw [hopened]; nofun)
              (by simp [hopened])
  · exact .refl s

theorem serveListTruncate_claims (q : Frame) (hu : used → s.usesAgree) : Claims used s (serveListTruncate q s).1 := by
  unfold serveListTruncate
  split
  case h_1 id len _ =>
    refine State.changeList_claims fun l => ?_
    simp only
    split
    · exact .refl s
    case isFalse hopen =>
      have hopened : (s.list l).state = .opened := not_not.mp hopen
      split
      · exact .refl s
      · split
        · exact .refl s
        · exact .unsealed hu l { s.list l with steps := (s.list l).steps.take len.toNat } rfl rfl rfl (by rw [hopened]; nofun)
            (by simp [hopened])
  case h_2 => exact .refl s

/-- A list's steps stay as it enters SEALED, where they give what is derived (R5, R15). -/
theorem serveListSeal_claims (q : Frame) : Claims used s (serveListSeal q s).1 := by
  unfold serveListSeal
  split
  · refine State.changeList_claims fun l => ?_
    simp only
    split
    · exact .refl s
    · exact .refl s
    · split
      · exact .refl s
      · exact .list l (s.list l).sealed rfl rfl rfl (fun _ => rfl) fun _ => .inr rfl
  · exact .refl s

theorem serveListUnseal_claims (q : Frame) : Claims used s (serveListUnseal q s).1 := by
  unfold serveListUnseal
  split
  · refine State.changeList_claims fun l => ?_
    simp only
    split
    · exact .refl s
    · exact .refl s
    · split
      · exact .refl s
      · exact .list l { s.list l with state := .opened, derived := none } rfl rfl rfl nofun fun _ => .inr rfl
  · exact .refl s

/-- A list in use is not deleted (R17). -/
theorem serveListDelete_claims (q : Frame) (hu : used → s.usesAgree) : Claims used s (serveListDelete q s).1 := by
  unfold serveListDelete
  split
  · refine State.changeList_claims fun l => ?_
    simp only
    split
    · exact .refl s
    · split
      · exact .refl s
      case isFalse hcount =>
        exact .list l ListRec.blank rfl rfl rfl nofun fun hused => .inl ⟨Nat.eq_zero_of_not_pos hcount, hu hused⟩
  · exact .refl s

end Store

/-! ### Binding and replacement (R70, R71, R92 to R94) -/

section Bind

variable {used : Prop} {s : State} {p : PlayerId} {l : ListId}

/-- Where a set has no owned line, each of its lines is unowned (R107). -/
theorem State.firstOwned_eq_none {lines : LineSet} (h : s.firstOwned lines = none) (k : LineId) (hk : lines.getLsbD k.val = true) :
    s.owner k = none := by
  have hline := List.findSome?_eq_none_iff.mp h k (List.mem_ofFn.mpr ⟨k, rfl⟩)
  rw [if_pos hk] at hline
  simpa using hline

/-- An IDLE player claims lines that nobody owns, for a list whose footprint lies within them. -/
theorem State.bindPlayer_claims {fp lines : LineSet} {d : Nat} (hidle : (s.player p).state = .idle)
    (hl : (s.list l).state = .sealed) (hd : (s.list l).derived = some (fp, d)) (hw : ¬within fp lines = false)
    (hfree : s.firstOwned lines = none) : Claims used s (s.bindPlayer p l lines) := by
  refine ⟨fun h => ?_, fun _ h => h.of_uses (fun k => ?_) fun p' k hk => ?_⟩
  · obtain ⟨howners, hidles⟩ := h
    have hnone := hidles p hidle
    refine ⟨fun k p' => ?_, fun p' hi => ?_⟩
    · rw [State.bindPlayer_owner, State.bindPlayer_player]
      have hold := howners k p'
      by_cases hk : lines.getLsbD k.val = true
      · rw [State.firstOwned_eq_none hfree k hk] at hold
        rw [if_pos hk]
        by_cases e : p' = p
        · simp [e, Player.boundTo, hk]
        · rw [if_neg e, ← hold]
          simp [Ne.symm e]
      · rw [if_neg hk, hold]
        by_cases e : p' = p
        · simpa [e, hnone, Player.boundTo] using hk
        · rw [if_neg e]
    · rw [State.bindPlayer_player] at hi ⊢
      by_cases e : p' = p
      · rw [if_pos e] at hi; cases hi
      · rw [if_neg e] at hi ⊢; exact hidles p' hi
  · rw [State.bindPlayer_list]
    split
    case isTrue e => rw [e]; rfl
    case isFalse => rfl
  · rw [State.bindPlayer_player] at hk ⊢
    by_cases e : p' = p
    · rw [if_pos e] at hk ⊢
      rcases hk with hk | hk
      · cases hk
        exact h.footprint hl hd hw
      · cases hk
    · rw [if_neg e] at hk ⊢
      exact h.inUse hk

theorem servePlayerBind_claims (q : Frame) (s : State) : Claims used s (servePlayerBind q s).1 := by
  unfold servePlayerBind
  split
  · split
    · simp only
      split
      · exact .refl s
      case isFalse hidle =>
        split
        case h_1 hl hd =>
          split
          · exact .refl s
          case isFalse hw =>
            split
            · exact .refl s
            case h_2 hfree => exact State.bindPlayer_claims (not_not.mp hidle) hl hd hw hfree
        case h_2 => exact .refl s
    · exact .refl s
  · exact .refl s

/-- The lines of an unbound player have no owner, and it uses no list (R71, R108). -/
theorem State.unbindPlayer_claims (s : State) (p : PlayerId) : Claims used s (s.unbindPlayer p) := by
  refine ⟨fun h => ?_, fun _ h => h.of_uses (fun k => ?_) fun p' k hk => ?_⟩
  · obtain ⟨howners, hidles⟩ := h
    refine ⟨fun k p' => ?_, fun p' hi => ?_⟩
    · rw [State.unbindPlayer_owner, State.unbindPlayer_player]
      have hold := howners k p'
      by_cases e : p' = p
      · rw [if_pos e, e]
        by_cases hk : s.owner k = some p <;> simp [hk, Player.blank]
      · rw [if_neg e, ← hold]
        by_cases hk : s.owner k = some p
        · simp [hk, Ne.symm e]
        · rw [if_neg hk]
    · rw [State.unbindPlayer_player] at hi ⊢
      by_cases e : p' = p
      · rw [if_pos e]; rfl
      · rw [if_neg e] at hi ⊢; exact hidles p' hi
  · simp [State.unbindPlayer, State.useDownOpt_list, ListRec.cue]
  · rw [State.unbindPlayer_player] at hk ⊢
    by_cases e : p' = p
    · rw [if_pos e] at hk
      rcases hk with hk | hk <;> cases hk
    · rw [if_neg e] at hk ⊢
      exact h.inUse hk

theorem servePlayerUnbind_claims (q : Frame) (s : State) : Claims used s (servePlayerUnbind q s).1 := by
  unfold servePlayerUnbind onPlayer
  split
  · split
    · beta_reduce
      split
      · exact s.unbindPlayer_claims _
      · exact s.unbindPlayer_claims _
      all_goals exact .refl s
    · exact .refl s
  · exact .refl s

theorem thenOwed_claims {a : State × Reply} (p : PlayerId) (h : Claims used s a.1) : Claims used s (thenOwed p a).1 :=
  h.trans (State.owedNow_confined _ p).claims

theorem State.applyReplacement_claims (hi : (s.player p).state ≠ .idle)
    (hfp : s.playsInClaims → footprintOf (s.list l).steps &&& ~~~(s.player p).claimed = 0) :
    Claims used s (s.applyReplacement p l) := by
  rw [State.applyReplacement_eq]
  refine .toList (p := p) (r := (s.player p).replacedBy l) l (fun p' => by simp)
    (fun k => by simp [State.useDownOpt_list, State.useUp_list, ListRec.cue]) (fun k => by simp [State.owner]) rfl
    (fun h => absurd h hi) hfp ?_
  rintro k (hk | hk)
  · cases hk; exact .inl rfl
  · cases hk

theorem State.pendReplacement_claims {point : CommitPoint} (hi : (s.player p).state ≠ .idle)
    (hfp : s.playsInClaims → footprintOf (s.list l).steps &&& ~~~(s.player p).claimed = 0) :
    Claims used s (s.pendReplacement p l point) := by
  rw [State.pendReplacement_eq]
  refine .toList (p := p) (r := (s.player p).awaiting (some (l, point))) l (fun p' => by simp)
    (fun k => by simp [State.useDownOpt_list, State.useUp_list, ListRec.cue]) (fun k => by simp [State.owner]) rfl
    (fun h => absurd h hi) hfp ?_
  rintro k (hk | hk)
  · exact .inr (.inl hk)
  · cases hk; exact .inl rfl

theorem servePlayerReplace_claims (q : Frame) (s : State) : Claims used s (servePlayerReplace q s).1 := by
  unfold servePlayerReplace
  split
  · split
    · split
      · exact .refl s
      · simp only
        split
        · exact .refl s
        case isFalse hstate =>
          have hidle := fun h => hstate (.inl h)
          split
          case h_1 hl hd =>
            split
            · exact .refl s
            case isFalse hw =>
              have hfp := fun h : s.playsInClaims => h.footprint hl hd hw
              split
              · exact thenOwed_claims _ (State.applyReplacement_claims hidle hfp)
              · split
                · exact thenOwed_claims _ (State.pendReplacement_claims hidle hfp)
                · exact thenOwed_claims _ (State.pendReplacement_claims hidle hfp)
          case h_2 => exact .refl s
    · exact .refl s
  · exact .refl s

end Bind

/-! ### Requests that confine what they move to their player (R77 to R82, R94) -/

theorem servePlayerCancel_confined (q : Frame) (s : State) : Confined Set.univ s (servePlayerCancel q s).1 := by
  refine onPlayer_confined fun p => ?_
  split
  case h_1 => exact thenOwed_confined (.put ⟨rfl, rfl, nofun⟩)
  all_goals exact .refl _ s

theorem servePlayerStop_confined (q : Frame) (s : State) : Confined Set.univ s (servePlayerStop q s).1 := by
  have hstop : ∀ p reply, Confined Set.univ s (thenOwed p (s.stopPlayer p, reply)).1 := fun p _ =>
    thenOwed_confined (s.stopPlayer_confined p)
  refine onPlayer_confined fun p => ?_
  simp only
  split
  · exact hstop p _
  · exact hstop p _
  · exact hstop p _
  all_goals exact .refl _ s

theorem servePlayerHold_confined (q : Frame) (s : State) : Confined Set.univ s (servePlayerHold q s).1 := by
  refine onPlayer_confined fun p => ?_
  simp only
  split
  · exact thenOwed_confined (.put ⟨rfl, rfl, id⟩)
  · split
    · exact thenOwed_confined (.put ⟨rfl, rfl, id⟩)
    · exact .refl _ s
  all_goals exact .refl _ s

theorem servePlayerSetStop_confined (q : Frame) (s : State) : Confined Set.univ s (servePlayerSetStop q s).1 := by
  unfold servePlayerSetStop
  split
  · split
    · exact .refl _ s
    · simp only
      split
      · exact .refl _ s
      · exact thenOwed_confined (.put ⟨rfl, rfl, id⟩)
  · exact .refl _ s

theorem servePlayerClear_confined (q : Frame) (s : State) : Confined Set.univ s (servePlayerClear q s).1 := by
  refine onPlayer_confined fun p => ?_
  simp only
  split
  case h_1 => exact .put ⟨rfl, rfl, nofun⟩
  all_goals exact .refl _ s

/-- A withdrawn replacement is used no more (R94). -/
theorem servePlayerWithdraw_confined (q : Frame) (s : State) : Confined Set.univ s (servePlayerWithdraw q s).1 := by
  refine onPlayer_confined fun p => ?_
  simp only
  split
  case h_1 l point _ =>
    have hrecord : (s.player p).Inherits ((s.player p).awaiting none) := ⟨id, fun _ hk => hk.elim .inl nofun⟩
    exact thenOwed_confined ((Confined.record hrecord rfl).trans (State.useDownOpt_confined _ (some l)))
  case h_2 => exact .refl _ s

end Sys2Proof.Machine

/-! PROOFS. Parameters, banks, link events, resets and start-up, and then every row and every step: the claim table goes on agreeing
(O53), and the lists in use stay within the claims (O55). -/

namespace Sys2Proof.Machine

section Blocks

variable {used : Prop}

/-! ### Requests of lines, inputs, notices and the autostart table -/

theorem serveLineDrive_claims (q : Frame) (s : State) : Claims used s (serveLineDrive q s).1 := by
  unfold serveLineDrive
  simp only
  repeat' split
  all_goals exact .aside rfl rfl rfl

theorem serveInputRead_claims (q : Frame) (s : State) : Claims used s (serveInputRead q s).1 := by
  unfold serveInputRead
  simp only
  repeat' split
  all_goals exact .aside rfl rfl rfl

theorem serveMute_claims (on : Bool) (q : Frame) (s : State) : Claims used s (serveMute on q s).1 := by
  unfold serveMute
  split <;> exact .aside rfl rfl rfl

theorem serveAutostartSet_claims (q : Frame) (s : State) : Claims used s (serveAutostartSet q s).1 := by
  unfold serveAutostartSet serveAutoEntry serveAutoFlag
  repeat' split
  all_goals exact .aside rfl rfl rfl

theorem serveAutostartClear_claims (q : Frame) (s : State) : Claims used s (serveAutostartClear q s).1 := by
  unfold serveAutostartClear
  repeat' split
  all_goals exact .aside rfl rfl rfl

/-! ### Reports (R18, R19, R83, R161) -/

theorem serveListInfo_claims (q : Frame) (s : State) : Claims used s (serveListInfo q s).1 := by
  unfold serveListInfo
  repeat' split
  all_goals exact .refl s

theorem serveListRead_claims (q : Frame) (s : State) : Claims used s (serveListRead q s).1 := by
  unfold serveListRead
  simp only
  repeat' split
  all_goals exact .refl s

theorem servePlayerStatus_claims (q : Frame) (s : State) : Claims used s (servePlayerStatus q s).1 :=
  (onPlayer_confined (who := ∅) fun _ => .refl _ s).claims

theorem serveParamGet_claims (q : Frame) (s : State) : Claims used s (serveParamGet q s).1 := by
  unfold serveParamGet
  repeat' split
  all_goals exact .refl s

/-! ### Requests of parameters (R162) -/

theorem serveParamSet_claims {own : Byte → Byte → Nat → State → State × Reply}
    (h : ∀ id index v s, Claims used s (own id index v s).1) (q : Frame) (s : State) :
    Claims used s (serveParamSet own q s).1 := by
  unfold serveParamSet
  simp only
  repeat' split
  case h_1.isFalse.isFalse => exact h _ _ _ s
  all_goals exact .refl s

theorem ownParam_claims (id index : Byte) (v : Nat) (s : State) : Claims used s (ownParam id index v s).1 :=
  .aside rfl rfl rfl

theorem ownStaged_claims (id index : Byte) (v : Nat) (s : State) : Claims used s (ownStaged id index v s).1 := by
  unfold ownStaged State.paramReply
  simp only
  repeat' split
  all_goals exact .aside rfl rfl rfl

theorem ownStoppedClass_claims (id index : Byte) (v : Nat) (s : State) : Claims used s (ownStoppedClass id index v s).1 := by
  unfold ownStoppedClass
  split <;> exact .aside rfl rfl rfl

theorem ownSyncOutSrc_claims (id index : Byte) (v : Nat) (s : State) : Claims used s (ownSyncOutSrc id index v s).1 := by
  unfold ownSyncOutSrc State.paramReply
  simp only
  split <;> exact .aside rfl rfl rfl

theorem ownHoldLevel_claims (o : Order) (id index : Byte) (v : Nat) (s : State) :
    Claims used s (ownHoldLevel o id index v s).1 :=
  Claims.trans (t := { s with params := { s.params with holdLevel := decide (v = 1) } }) (.aside rfl rfl rfl)
    ((State.judgeHold_confined (who := ∅) _ o _).trans (State.settle_confined _ o)).claims

theorem ownInEdge_claims (id index : Byte) (v : Nat) (s : State) : Claims used s (ownInEdge id index v s).1 := by
  unfold ownInEdge State.paramReply
  simp only
  repeat' split
  all_goals exact .aside rfl rfl rfl

theorem ownInFilter_claims (id index : Byte) (v : Nat) (s : State) : Claims used s (ownInFilter id index v s).1 := by
  unfold ownInFilter
  split <;> exact .aside rfl rfl rfl

/-! ### Image operations (R174 to R177) -/

theorem State.produce_claims (s : State) (body : NoticeBody) : Claims used s (s.produce body) :=
  (s.produce_confined (who := ∅) body).claims

theorem State.setBank_claims (s : State) (k : BankId) (b : Bank) : Claims used s (s.setBank k b) := by
  cases k <;> exact .aside rfl rfl rfl

theorem State.setHeader_claims (s : State) (k : BankId) (st : BankState) : Claims used s (s.setHeader k st) :=
  (s.setBank_claims k _).trans (.aside rfl rfl rfl)

theorem serveImageSave_claims (q : Frame) (s : State) : Claims used s (serveImageSave q s).1 := by
  unfold serveImageSave
  split
  · exact .refl s
  · split
    · exact .refl s
    · exact (s.setHeader_claims _ .writing).trans (.aside rfl rfl rfl)

theorem serveImageErase_claims (q : Frame) (s : State) : Claims used s (serveImageErase q s).1 := by
  unfold serveImageErase
  split
  · exact .refl s
  · exact (s.setHeader_claims .a .writing).trans (.aside rfl rfl rfl)

/-- Judging the banks, the end of the operation and its notice move no list, no player and no owner. -/
theorem State.judged_endOp_produce_claims (s : State) (body : NoticeBody) :
    Claims used s (s.judgeBanks.endOp.produce body) :=
  Claims.trans (t := s.judgeBanks.endOp) (.aside rfl rfl rfl) (State.produce_claims _ body)

theorem State.completeSave_claims (s : State) (ok : Bool) : Claims used s (s.completeSave ok) := by
  unfold State.completeSave
  split
  · split
    · exact (s.setBank_claims _ _).trans (State.judged_endOp_produce_claims _ _)
    · exact (s.setHeader_claims _ .damaged).trans (State.judged_endOp_produce_claims _ _)
  all_goals exact .refl s

theorem State.treatedA_claims (s : State) (ok : Bool) : Claims used s (s.treatedA ok) := by
  unfold State.treatedA
  split
  · exact ((s.setHeader_claims .a (erasedState ok)).trans (State.setHeader_claims _ .b .writing)).trans (.aside rfl rfl rfl)
  all_goals exact .refl s

theorem State.completeErase_claims (s : State) (ok : Bool) : Claims used s (s.completeErase ok) := by
  unfold State.completeErase
  split
  · exact (s.setHeader_claims .b _).trans (State.judged_endOp_produce_claims _ _)
  all_goals exact .refl s

/-! ### Resets (R164, R165, R179) -/

/-- The start-up values hold no SEALED list, no owner and no claim. -/
theorem State.startUpValues_claims (s : State) : Claims used s s.startUpValues := by
  refine .fresh State.replicate_player (fun k => ?_) fun _ l hl => ?_
  · simp [State.owner, State.startUpValues, Lines.blank]
  · simp [State.list, State.startUpValues, Store.blank, ListRec.blank] at hl

/-- A WARM reset keeps the lists, and no player that uses one (R164). -/
theorem State.warmReset_claims (s : State) : Claims used s s.warmReset := by
  have hlist : ∀ l, s.warmReset.list l = (s.list l).cue := fun l => s.store.warm_list l
  refine .fresh State.replicate_player (fun k => ?_) fun h l => ?_
  · simp [State.owner, State.warmReset, State.judgeHoldAtBoot, Lines.blank]
  · obtain ⟨hderived, -⟩ := h
    rw [hlist]
    exact hderived l

theorem serveResetWarm_claims (q : Frame) (s : State) : Claims used s (serveResetWarm q s).1 := by
  unfold serveResetWarm
  split
  · exact s.warmReset_claims
  · exact .refl s

/-! ### Link events (R143 to R149, R165) -/

theorem State.linkError_claims (s : State) (cause : LinkCause) : Claims used s (s.linkError cause) :=
  Claims.trans (t := s.setRx .hunt none) (.aside rfl rfl rfl) (State.produce_claims _ _)

theorem State.enterInbox_claims (s : State) (f : Frame) : Claims used s (s.enterInbox f) := by
  unfold State.enterInbox
  repeat' split
  all_goals exact .aside rfl rfl rfl

theorem State.setRx_claims (s : State) (rx : Receiver) (timer : Option Nat) : Claims used s (s.setRx rx timer) :=
  .aside rfl rfl rfl

theorem State.rxByte_claims (s : State) (b : Byte) : Claims used s (s.rxByte b) := by
  have hjudge : ∀ got check, Claims used s (s.judgeFrame got check) := fun got check => by
    unfold State.judgeFrame
    split
    · split
      · exact (s.setRx_claims _ _).trans (State.enterInbox_claims _ _)
      · exact s.linkError_claims _
    · exact s.linkError_claims _
  unfold State.rxByte
  split
  · split
    · exact s.setRx_claims _ _
    · exact .refl s
  · split
    · exact s.setRx_claims _ _
    · exact s.linkError_claims _
  · split <;> exact s.setRx_claims _ _
  · exact s.setRx_claims _ _
  · exact hjudge _ _

theorem State.rxBytes_claims (s : State) (bs : List Byte) : Claims used s (s.rxBytes bs) := by
  rw [State.rxBytes_eq]
  induction bs generalizing s with
  | nil => exact .refl s
  | cons b bs ih => exact (s.rxByte_claims b).trans (ih _)

theorem State.byteError_claims (s : State) : Claims used s s.byteError := by
  unfold State.byteError
  split
  · exact s.linkError_claims _
  · exact .refl s

theorem State.replyEnd_claims (s : State) (e : ReplyEffect) : Claims used s (s.replyEnd e) := by
  cases e with
  | plain => exact .refl s
  | setRate r => exact .aside rfl rfl rfl
  | reload => exact s.startUpValues_claims.trans (.aside rfl rfl rfl)

theorem State.frameEnd_claims (s : State) : Claims used s s.frameEnd := by
  unfold State.frameEnd
  split
  · exact .refl s
  · simp only
    split
    · exact .after (State.replyEnd_claims _ _) (.aside rfl rfl rfl)
    · exact .aside rfl rfl rfl

/-! ### Start-up (R179, R180) -/

/-- The lists of an image come in SEALED, with what their steps give derived (R21). -/
theorem State.restoreLists_derives : ∀ (lists : List SavedList) (s : State),
    (∀ l, (s.list l).Derives) → ∀ l, ((lists.foldl State.restoreList s).list l).Derives
  | [], _, h => h
  | sl :: rest, s, h => by
    refine State.restoreLists_derives rest (s.restoreList sl) fun l => ?_
    rw [s.restoreList_list]
    split
    · exact fun _ => rfl
    · exact h l

/-- An image comes into a part whose players use no list yet. -/
theorem State.loadImage_claims {s : State} (img : Image) (hp : ∀ p, s.player p = Player.blank) :
    Claims used s (s.loadImage img) := by
  obtain ⟨hframe, -⟩ := State.restoreLists_frame img.lists s
  have hplayers : (s.loadImage img).players = s.players := by
    change (img.lists.foldl State.restoreList s).players = s.players
    rw [hframe]
  have howners : (s.loadImage img).lines.owners = s.lines.owners := by
    change (img.lists.foldl State.restoreList s).lines.owners = s.lines.owners
    rw [hframe]
  refine ⟨fun h => h.of_players hplayers howners, fun _ h => ⟨?_, fun p l hl => ?_⟩⟩
  · obtain ⟨hderived, -⟩ := h
    exact State.restoreLists_derives img.lists s hderived
  · have hblank : (s.loadImage img).player p = Player.blank := by rw [← hp p]; simp only [State.player, hplayers]
    rw [hblank] at hl
    rcases hl with hl | hl <;> cases hl

theorem State.loadBanks_claims {s : State} (hp : ∀ p, s.player p = Player.blank) : Claims used s s.loadBanks.1 := by
  have hjudge : Claims used s s.judgeBanks := .aside rfl rfl rfl
  unfold State.loadBanks
  simp only
  split
  · split
    · exact hjudge.trans (State.loadImage_claims _ hp)
    · exact hjudge
  · exact hjudge

/-- An entry binds an IDLE player as PLAYER_BIND does, and starts it (R180). -/
theorem State.runEntry_claims {s : State} (o : Order) {p : PlayerId} (hp : s.player p = Player.blank) :
    Claims used s (s.runEntry o p).1 := by
  unfold State.runEntry
  split
  case h_1 => exact .refl s
  case h_2 e _ =>
    split
    case h_1 hl hd =>
      split
      · exact .refl s
      case isFalse hw =>
        split
        · exact .refl s
        case isFalse hfree =>
          have hbind : Claims used s (s.bindPlayer p e.list e.lines) :=
            State.bindPlayer_claims (by rw [hp]; rfl) hl hd hw (by simpa using hfree)
          simp only
          split
          · exact hbind
          · exact hbind.trans ((State.startPlayer_confined _ p _ _ _).trans (State.settle_confined _ o)).claims
    case h_2 => exact .refl s

theorem State.startUpAction_claims {s : State} (h : s.bootClean) (o : Order) : Claims used s (s.startUpAction o) := by
  cases hb : s.boot with
  | ready =>
    have hstill : s.startUpAction o = s := by simp [State.startUpAction, hb]
    rw [hstill]
    exact .refl s
  | booting stage =>
    cases stage with
    | values =>
      obtain ⟨-, hp, -⟩ : s.image.op = .none ∧ (∀ p, s.player p = Player.blank) ∧ s.tb.state = .stopped ∧
        s.safe.idle ∧ s.store = Store.blank := by simpa only [State.bootClean, hb] using h
      rw [State.startUpAction_values hb]
      exact (State.loadBanks_claims hp).trans (.aside rfl rfl rfl)
    | loaded load =>
      rw [State.startUpAction_loaded hb]
      exact .aside rfl rfl rfl
    | judged load =>
      rw [State.startUpAction_judged hb]
      refine Claims.trans (t := s.autostartTimebase o) ?_ (.aside rfl rfl rfl)
      unfold State.autostartTimebase
      split
      · exact (s.tbStartAction_confined o).claims
      · exact .refl s
    | autostart load results =>
      obtain ⟨-, hlen, hp⟩ : s.image.op = .none ∧ results.length ≤ 6 ∧
        ∀ p : PlayerId, results.length ≤ p.val → s.player p = Player.blank := by simpa only [State.bootClean, hb] using h
      rcases Nat.lt_or_ge results.length 6 with hlt | hge
      · rw [State.startUpAction_entry (p := ⟨results.length, hlt⟩) hb rfl]
        exact (State.runEntry_claims o (hp ⟨results.length, hlt⟩ (Nat.le_refl _))).trans (.aside rfl rfl rfl)
      · rw [State.startUpAction_last hb (by omega)]
        exact (s.produce_claims _).trans (.aside rfl rfl rfl)

theorem State.startUp_claims (o : Order) : ∀ (n : Nat) {s : State}, s.bootClean → Claims used s (s.startUp o n)
  | 0, s, _ => .refl s
  | n + 1, s, h => by
    rw [State.startUp_succ]
    exact (State.startUpAction_claims h o).trans (State.startUp_claims o n (State.startUpAction_keeps h o).2)

end Blocks

/-! ### Every row and every step -/

/-- What an outcome's next state keeps. -/
theorem Claims.of_next {used : Prop} {s t u : State} (h : (Host.Outcome.next u : Host.Outcome State Fault Refusal) = .next t)
    (hu : Claims used s u) : Claims used s t := by
  cases h; exact hu

/-- A take of a request that is confined play. -/
theorem State.take_play {used : Prop} {s : State} {mine : Frame → Bool} {serve : Frame → State → State × Reply}
    (h : ∀ q s, Confined Set.univ s (serve q s).1) : Claims used s (s.take mine serve) :=
  (State.take_confined h).claims

/-- A take of a report. -/
theorem State.take_report {used : Prop} {s : State} {mine : Frame → Bool} {serve : Frame → State → State × Reply}
    (h : ∀ q s, (serve q s).1 = s) : Claims used s (s.take mine serve) :=
  State.take_play fun q s => by rw [h]; exact .refl _ s

/-- Every row keeps the claim table in agreement, given what a start-up has not reached yet, and the lists in use within the
claims, given that the use counts agree. -/
theorem exec_claims {s t : State} (c : Instr) (hb : s.bootClean) (h : exec c s = .next t) : Claims s.usesAgree s t := by
  have hset : ∀ {mine own}, (∀ id index v u, Claims s.usesAgree u (own id index v u).1) →
      Claims s.usesAgree s (s.take mine (serveParamSet own)) := fun hown =>
    State.take_claims fun q _ => serveParamSet_claims hown q _
  cases c with
  | listCreate => exact .of_next h (State.take_claims fun q _ => serveListCreate_claims q id)
  | listAppend => exact .of_next h (State.take_claims fun q _ => serveListAppend_claims q id)
  | listTruncate => exact .of_next h (State.take_claims fun q _ => serveListTruncate_claims q id)
  | listSeal => exact .of_next h (State.take_claims fun q _ => serveListSeal_claims q)
  | listUnseal => exact .of_next h (State.take_claims fun q _ => serveListUnseal_claims q)
  | listDelete => exact .of_next h (State.take_claims fun q _ => serveListDelete_claims q id)
  | listInfo => exact .of_next h (State.take_claims fun q _ => serveListInfo_claims q _)
  | listRead => exact .of_next h (State.take_claims fun q _ => serveListRead_claims q _)
  | storeInfo => exact .of_next h (State.take_report fun _ _ => rfl)
  | playerBind => exact .of_next h (State.take_claims fun q _ => servePlayerBind_claims q _)
  | playerUnbind => exact .of_next h (State.take_claims fun q _ => servePlayerUnbind_claims q _)
  | playerStart o => exact .of_next h (State.take_play (servePlayerStart_confined o))
  | playerCancel => exact .of_next h (State.take_play servePlayerCancel_confined)
  | playerStop => exact .of_next h (State.take_play servePlayerStop_confined)
  | playerHold => exact .of_next h (State.take_play servePlayerHold_confined)
  | playerResume o => exact .of_next h (State.take_play (servePlayerResume_confined o))
  | playerSetStop => exact .of_next h (State.take_play servePlayerSetStop_confined)
  | playerClear => exact .of_next h (State.take_play servePlayerClear_confined)
  | playerStatus => exact .of_next h (State.take_claims fun q _ => servePlayerStatus_claims q _)
  | playerReplace => exact .of_next h (State.take_claims fun q _ => servePlayerReplace_claims q _)
  | playerWithdraw => exact .of_next h (State.take_play servePlayerWithdraw_confined)
  | tbStart o => exact .of_next h (State.take_play (serveTbStart_confined o))
  | tbStop o => exact .of_next h (State.take_play (serveTbStop_confined o))
  | tbStatus => exact .of_next h (State.take_report fun _ _ => rfl)
  | lineDrive => exact .of_next h (State.take_claims fun q _ => serveLineDrive_claims q _)
  | lineStatus => exact .of_next h (State.take_report fun _ _ => rfl)
  | inputRead => exact .of_next h (State.take_claims fun q _ => serveInputRead_claims q _)
  | safeEnter o => exact .of_next h (State.take_play (serveSafeEnter_confined o))
  | safeRelease o => exact .of_next h (State.take_play (serveSafeRelease_confined o))
  | safeStatus => exact .of_next h (State.take_report fun _ _ => rfl)
  | paramGet => exact .of_next h (State.take_claims fun q _ => serveParamGet_claims q _)
  | paramSet => exact .of_next h (hset ownParam_claims)
  | paramSetStaged => exact .of_next h (hset ownStaged_claims)
  | paramSetStoppedClass => exact .of_next h (hset ownStoppedClass_claims)
  | paramSetSyncOutSrc => exact .of_next h (hset ownSyncOutSrc_claims)
  | paramSetLinkRate => exact .of_next h (hset fun _ _ _ u => .refl u)
  | paramSetHoldLevel o => exact .of_next h (hset (ownHoldLevel_claims o))
  | paramSetInEdge => exact .of_next h (hset ownInEdge_claims)
  | paramSetInFilter => exact .of_next h (hset ownInFilter_claims)
  | paramSetLineIdle => exact .of_next h (hset fun _ _ _ _ => .aside rfl rfl rfl)
  | paramSetLineSafe => exact .of_next h (hset fun _ _ _ _ => .aside rfl rfl rfl)
  | paramSetNoticeMask => exact .of_next h (hset fun _ _ _ _ => .aside rfl rfl rfl)
  | noticeMute => exact .of_next h (State.take_claims fun q _ => serveMute_claims true q _)
  | noticeUnmute => exact .of_next h (State.take_claims fun q _ => serveMute_claims false q _)
  | imageSave => exact .of_next h (State.take_claims fun q _ => serveImageSave_claims q _)
  | imageErase => exact .of_next h (State.take_claims fun q _ => serveImageErase_claims q _)
  | imageInfo => exact .of_next h (State.take_report fun _ _ => rfl)
  | autostartSet => exact .of_next h (State.take_claims fun q _ => serveAutostartSet_claims q _)
  | autostartClear => exact .of_next h (State.take_claims fun q _ => serveAutostartClear_claims q _)
  | autostartRead => exact .of_next h (State.take_report fun _ _ => rfl)
  | deviceStatus => exact .of_next h (State.take_report fun _ _ => rfl)
  | deviceResetWarm => exact .of_next h (State.take_claims fun q _ => serveResetWarm_claims q _)
  | deviceResetReload => exact .of_next h (State.take_claims fun _ _ => .aside rfl rfl rfl)
  | unknownKindRequest => exact .of_next h (State.take_report fun _ _ => rfl)
  | frameReceived f =>
    refine .of_next h (State.live_claims fun s => ?_)
    split
    · exact s.rxBytes_claims _
    · exact .refl s
  | linkBadLength len =>
    refine .of_next h (State.live_claims fun s => ?_)
    split
    · exact s.rxByte_claims len
    · exact .refl s
  | linkByteError => exact .of_next h (State.live_claims State.byteError_claims)
  | linkTimeout =>
    refine .of_next h (State.live_claims fun s => ?_)
    split
    · exact s.linkError_claims _
    · exact .refl s
  | frameSent => exact .of_next h (State.live_claims State.frameEnd_claims)
  | internalTick o => exact (execInternalTick_confined h).claims
  | tickInEdge o => exact (execTickInEdge_confined h).claims
  | syncInEdge level o => exact (execSyncInEdge_confined h).claims
  | syncOutPulseEnd => exact (execSyncOutPulseEnd_confined h).claims
  | setDwellEnd p o => exact .of_next h (s.phaseRow_confined p o _ _).claims
  | pulseTrailingEdge p o => exact .of_next h (s.phaseRow_confined p o _ _).claims
  | pulseDwellEnd p o => exact .of_next h (s.phaseRow_confined p o _ _).claims
  | waitEdgeTimeout p o => exact .of_next h (s.phaseRow_confined p o _ _).claims
  | acceptedChange n o => exact .of_next h (State.live_claims fun s => (s.acceptChange_confined n o).claims)
  | holdInChange level o => exact (execHoldInChange_confined h).claims
  | saveCompletion ok => exact .of_next h (State.live_claims fun s => s.completeSave_claims ok)
  | eraseCompletion ok => exact .of_next h (State.live_claims fun s => s.completeErase_claims ok)
  | startUpReset cause =>
    change execStartUpReset cause s = .next t at h
    unfold execStartUpReset at h
    split at h
    · exact .of_next h (.refl s)
    · exact .of_next h (s.startUpValues_claims.trans (.aside rfl rfl rfl))
  | imageLoad o =>
    refine .of_next h ?_
    unfold State.live
    split
    · exact (State.startUp_claims o _ hb).trans (State.transmit_claims _)
    all_goals exact .refl s
  | sofReceived =>
    refine .of_next h (State.live_claims fun s => ?_)
    split
    · exact s.rxByte_claims _
    · exact .refl s
  | inputSample n level o => exact .of_next h (State.live_claims fun s => (s.sample_confined n level o).claims)
  | bankATreated ok => exact .of_next h (State.live_claims fun s => s.treatedA_claims ok)
  | resetNRelease =>
    change execResetNRelease s = .next t at h
    unfold execResetNRelease at h
    split at h
    · exact .of_next h (.aside rfl rfl rfl)
    all_goals exact .of_next h (.refl s)
  | powerFailure => exact .of_next h (.aside rfl rfl rfl)

theorem step_claims {s t : State} (hb : s.bootClean) (h : step s = .next t) : Claims s.usesAgree s t := by
  unfold step at h
  split at h
  case h_1 c rest _ =>
    have hpop : Claims s.usesAgree s { s with pending := rest } := .aside rfl rfl rfl
    have hexec : Claims s.usesAgree { s with pending := rest } t := exec_claims (s := { s with pending := rest }) c hb h
    exact hpop.trans hexec
  case h_2 =>
    cases h
    exact State.live_claims fun s => (s.passMicrosecond_confined _).claims

/-- Settles O53: play moves neither owners nor claims, and a bind, an unbind and a reset move both together. -/
theorem claimTableAndPlayersAgreeAtEveryStep : Obligations.ClaimTableAndPlayersAgreeAtEveryStep :=
  fun _ _ hb ha h => (step_claims hb h).table ha

/-- Settles O55: a bind and a replacement check the footprint, play commits what was checked, and the steps of a list in use
stay. -/
theorem listsInUseStayWithinTheirClaims : Obligations.ListsInUseStayWithinTheirClaims :=
  fun _ _ hb hu hp h => (step_claims hb h).lists hu hp

end Sys2Proof.Machine

/-! PROOFS. Lines driven and reported, what the OUT pins and SAFE_OUT present, and the levels of LINK_TX (O32). -/

namespace Sys2Proof.Machine

/-! ### LINE_DRIVE and LINE_STATUS (R114, R115) -/

section Drive

variable {s : State} {q : Frame} {lines levels : LineSet}

theorem serveLineDrive_outside (hq : q.payload = lineBytes lines ++ lineBytes levels) (h : levels &&& ~~~lines ≠ 0) :
    serveLineDrive q s = refuse s .badValue := by
  have hwithin : within levels lines = false := decide_eq_false h
  simp only [serveLineDrive, hq, lineBytes, List.cons_append, List.nil_append, linesOf_lineBytes, hwithin, if_true]

/-- With the levels within the set, the lowest owned line decides. -/
theorem serveLineDrive_within (hq : q.payload = lineBytes lines ++ lineBytes levels) (h : levels &&& ~~~lines = 0) :
    (s.firstOwned lines = none → serveLineDrive q s = (s.writeLines lines levels, Reply.of .ok (lineBytes lines))) ∧
    ∀ k p, s.firstOwned lines = some (k, p) → serveLineDrive q s = refuseOwned s k p := by
  have hwithin : within levels lines = true := by simpa [within] using h
  simp only [serveLineDrive, hq, lineBytes, List.cons_append, List.nil_append, linesOf_lineBytes, hwithin, Bool.true_eq_false,
    if_false]
  exact ⟨fun hfirst => by rw [hfirst], fun k p hfirst => by rw [hfirst]⟩

end Drive

theorem orAbsent_eq {α : Type} (code : α → Byte) (a : Option α) : orAbsent code a = (a.map code).getD 0xFF := by
  cases a <;> rfl

theorem State.presented_eq (s : State) :
    s.presented = if s.safe.state = .clear then s.lines.logical else s.params.lineSafe := by
  simp only [State.presented, s.safeClear_iff]

theorem serveLineStatus_eq (q : Frame) (s : State) : serveLineStatus q s = (s, Reply.of .ok
    ((allLines.map fun k => ((s.owner k).map finByte).getD 0xFF) ++ lineBytes s.lines.logical ++
      lineBytes (if s.safe.state = .clear then s.lines.logical else s.params.lineSafe) ++
      lineBytes s.params.lineIdle ++ lineBytes s.params.lineSafe)) := by
  simp only [serveLineStatus, orAbsent_eq, s.presented_eq]

/-! ### The OUT pins and SAFE_OUT (R111, R116, R129, R140) -/

theorem State.pins_live {s : State} (h : s.phase = .live) : s.outPins = s.presented ∧ s.safeOut = !s.safeClear := by
  simp [State.outPins, State.safeOut, h]

theorem State.pins_held {s : State} (h : s.phase = .held) : s.outPins = 0 ∧ s.safeOut = true := by
  simp [State.outPins, State.safeOut, h]

/-! ### LINK_TX (R141, R150) -/

/-- Ten bit times to a byte: the levels of the j-th byte stand from bit time 10 j on (R141). -/
theorem flatMap_uartBits_getElem? (bs : List Byte) : ∀ (j i : Nat), i < 10 →
    (bs.flatMap uartBits)[10 * j + i]? = bs[j]?.bind fun b => (uartBits b)[i]? := by
  induction bs with
  | nil => intro j i _; simp
  | cons b bs ih =>
    intro j i hi
    rw [List.flatMap_cons]
    cases j with
    | zero => rw [List.getElem?_append_left (by rw [uartBits_length]; omega)]; simp
    | succ j =>
      rw [List.getElem?_append_right (by rw [uartBits_length]; omega), uartBits_length, List.getElem?_cons_succ, ← ih j i hi]
      congr 1
      omega

theorem frameLevels_length (f : Frame) : (frameLevels f).length = 10 * (frameBytes f).length := by
  simp [frameLevels, List.length_flatMap, Nat.mul_comm]

/-- The ten levels of a byte: the start bit, the data bits from the least significant, the stop bit (R141). -/
theorem uartBits_levels (b : Byte) : (uartBits b)[0]? = some false ∧ (∀ i, i < 8 → (uartBits b)[1 + i]? = some (b.getLsbD i)) ∧
    (uartBits b)[9]? = some true := by
  refine ⟨rfl, fun i hi => ?_, rfl⟩
  interval_cases i <;> rfl

theorem State.linkTx_sending {s : State} {t : Sending} (hlive : s.phase = .live) (ht : s.link.tx = some t) (k : Nat) :
    s.linkTx k = (frameLevels t.frame)[k]?.getD true := by
  simp only [State.linkTx, hlive, ht]

/-- While a frame is sent, LINK_TX has the levels of its j-th byte from bit time 10 j on. -/
theorem State.linkTx_byte {s : State} {t : Sending} {j i : Nat} {b : Byte} {level : Bool} (hlive : s.phase = .live)
    (ht : s.link.tx = some t) (hb : (frameBytes t.frame)[j]? = some b) (hi : i < 10) (hlevel : (uartBits b)[i]? = some level) :
    s.linkTx (10 * j + i) = level := by
  rw [State.linkTx_sending hlive ht, frameLevels, flatMap_uartBits_getElem? _ j i hi, hb, Option.bind_some, hlevel]
  rfl

theorem State.linkTx_after {s : State} {t : Sending} {k : Nat} (hlive : s.phase = .live) (ht : s.link.tx = some t)
    (hk : 10 * (frameBytes t.frame).length ≤ k) : s.linkTx k = true := by
  rw [State.linkTx_sending hlive ht, List.getElem?_eq_none (by rw [frameLevels_length]; exact hk)]
  rfl

theorem State.linkTx_silent {s : State} (h : s.phase = .held ∨ s.link.tx = none) (k : Nat) : s.linkTx k = true := by
  unfold State.linkTx
  split
  case h_1 t hlive ht =>
    rcases h with h | h
    · rw [hlive] at h; cases h
    · rw [ht] at h; cases h
  case h_2 => rfl

/-- Settles O32: the drive by its three cases, the report, the pins by phase, and LINK_TX bit by bit. -/
theorem linesAreDrivenPresentedAndReported : Obligations.LinesAreDrivenPresentedAndReported := by
  refine ⟨fun s q rest lines levels h => ⟨fun hout => ?_, fun k p hin hk howner hlow => ?_, fun hin hfree => ?_⟩,
    fun s q rest h => ?_, fun s => ⟨fun hlive hclear => ?_, fun hlive hnot => ?_, State.pins_held⟩,
    fun s k => ⟨fun hheld => State.linkTx_silent (.inl hheld) k, fun hnone => State.linkTx_silent (.inr hnone) k,
      fun t hlive ht => ⟨fun j b hb => ?_, State.linkTx_after hlive ht⟩⟩⟩
  · exact State.take_answered h rfl rfl (serveLineDrive_outside h.payload_eq hout)
  · have hfirst : (s.taking rest).firstOwned lines = some (k, p) := State.firstOwned_lowest hk howner hlow
    exact State.take_answered h rfl rfl ((serveLineDrive_within h.payload_eq hin).2 k p hfirst)
  · have hfirst : (s.taking rest).firstOwned lines = none := State.firstOwned_none hfree
    exact ⟨_, State.take_answered h rfl rfl ((serveLineDrive_within h.payload_eq hin).1 hfirst), rfl, rfl,
      (s.taking rest).writeLines_level lines levels⟩
  · exact State.take_answered h rfl rfl (serveLineStatus_eq q (s.taking rest))
  · obtain ⟨hpins, hsafe⟩ := State.pins_live hlive
    rw [hpins, hsafe, s.presented_eq, if_pos hclear, s.safeClear_iff.mpr hclear]
    exact ⟨rfl, rfl⟩
  · obtain ⟨hpins, hsafe⟩ := State.pins_live hlive
    rw [hpins, hsafe, s.presented_eq, if_neg hnot, Bool.eq_false_iff.mpr (s.safeClear_iff.not.mpr hnot)]
    exact ⟨rfl, rfl⟩
  · obtain ⟨hstart, hdata, hstop⟩ := uartBits_levels b
    refine ⟨State.linkTx_byte hlive ht hb (by omega) hstart, fun i hi => ?_, State.linkTx_byte hlive ht hb (by omega) hstop⟩
    rw [Nat.add_assoc]
    exact State.linkTx_byte hlive ht hb (by omega) (hdata i hi)

end Sys2Proof.Machine

/-! PROOFS. What play does to the capture latches (R118, R121, R124): an operation leaves each latch as it is or consumes it, and so a
latch that is doubled stays pending. -/

namespace Sys2Proof.Machine

/-! ### Operations that leave every latch -/

@[simp] theorem State.useDownOpt_inputs (s : State) (l : Option ListId) : (s.useDownOpt l).inputs = s.inputs := by
  cases l <;> rfl

@[simp] theorem State.rest_inputs (s : State) (p : PlayerId) (a : Activity) (n : Nat) : (s.rest p a n).inputs = s.inputs := rfl

@[simp] theorem State.changeSafe_inputs (s : State) (state : SafeState) (causes : Causes) (players : BitVec 6) :
    (s.changeSafe state causes players).inputs = s.inputs := by
  rw [s.changeSafe_frame]

@[simp] theorem State.escalate_inputs (s : State) (p : PlayerId) : (s.escalate p).inputs = s.inputs := by
  rw [s.escalate_frame]

@[simp] theorem State.noteBegin_inputs (s : State) (p : PlayerId) (st : Step) : (s.noteBegin p st).inputs = s.inputs := by
  rw [s.noteBegin_frame]

@[simp] theorem State.trailingEdge_inputs (s : State) (st : Step) : (s.trailingEdge st).inputs = s.inputs := by
  rw [s.trailingEdge_frame]

@[simp] theorem State.commitRecord_inputs (s : State) (p : PlayerId) (new : ListId) (point : CommitPoint) :
    (s.commitRecord p new point).inputs = s.inputs := by
  simp [State.commitRecord]

@[simp] theorem State.commitAtPassEnd_inputs (s : State) (p : PlayerId) : (s.commitAtPassEnd p).inputs = s.inputs := by
  unfold State.commitAtPassEnd; split <;> simp

@[simp] theorem State.faultPlayer_inputs (s : State) (p : PlayerId) (cause : FaultCause) :
    (s.faultPlayer p cause).inputs = s.inputs := by
  unfold State.faultPlayer; simp only; split <;> simp

@[simp] theorem State.endRun_inputs (s : State) (p : PlayerId) (cause : RunEndCause) : (s.endRun p cause).inputs = s.inputs := by
  simp [State.endRun]

@[simp] theorem State.holdQuestion_inputs (s : State) (p : PlayerId) (st : Step) :
    (s.holdQuestion p st).1.inputs = s.inputs := by
  unfold State.holdQuestion; simp only; split <;> simp

@[simp] theorem State.passEnd_inputs (s : State) (p : PlayerId) (st : Step) : (s.passEnd p st).1.inputs = s.inputs := by
  unfold State.passEnd; simp only; split
  · simp
  · split
    · simp
    · split <;> simp

@[simp] theorem State.resolve_inputs (s : State) (p : PlayerId) (st : Step) : (s.resolve p st).1.inputs = s.inputs := by
  unfold State.resolve; simp only; split
  · simp
  · split <;> simp

@[simp] theorem State.abandonStep_inputs (s : State) (p : PlayerId) : (s.abandonStep p).inputs = s.inputs := by
  unfold State.abandonStep; simp only; split <;> simp

@[simp] theorem State.enterPlayer_inputs (s : State) (p : PlayerId) : (s.enterPlayer p).inputs = s.inputs := by
  rw [s.enterPlayer_frame]; rfl

@[simp] theorem State.reachPlayers_inputs (s : State) (players exempt : List PlayerId) :
    (s.reachPlayers players exempt).inputs = s.inputs := by
  unfold State.reachPlayers
  split
  · rfl
  · clear * -
    induction players generalizing s with
    | nil => rfl
    | cons p ps ih =>
      rw [List.foldl_cons, ih]
      split <;> simp

@[simp] theorem State.settle_inputs (s : State) (o : Order) : (s.settle o).inputs = s.inputs := s.reachPlayers_inputs _ _

@[simp] theorem State.enterSafe_inputs (s : State) (o : Order) (state : SafeState) (causes : Causes) :
    (s.enterSafe o state causes).inputs = s.inputs := by
  simp [State.enterSafe]

@[simp] theorem State.judgeHold_inputs (s : State) (o : Order) (active : Bool) : (s.judgeHold o active).inputs = s.inputs := by
  unfold State.judgeHold; simp only; split
  · rfl
  · split
    · split <;> simp
    · split <;> simp

@[simp] theorem State.holdSample_inputs (s : State) (level : Bool) (o : Order) : (s.holdSample level o).inputs = s.inputs := by
  unfold State.holdSample; simp only; split <;> simp

@[simp] theorem State.tbNotice_inputs (s : State) (e : TbEventKind) (r : Option Stamp) :
    (s.tbNotice e r).inputs = s.inputs := s.produce_inputs _

@[simp] theorem State.commitNotice_inputs (s before : State) : (s.commitNotice before).inputs = s.inputs := by
  unfold State.commitNotice; split <;> simp

@[simp] theorem State.setTbState_inputs (s : State) (state : TbState) : (s.setTbState state).inputs = s.inputs := by
  rw [s.setTbState_frame]

@[simp] theorem State.countFrame_inputs (s : State) (index : Nat) : (s.countFrame index).inputs = s.inputs := by
  rw [s.countFrame_frame]

@[simp] theorem State.syncOutAtFrame_inputs (s : State) (super : Bool) : (s.syncOutAtFrame super).inputs = s.inputs := by
  rw [s.syncOutAtFrame_frame]

@[simp] theorem State.syncOutAtTick_inputs (s : State) : s.syncOutAtTick.inputs = s.inputs := by rw [s.syncOutAtTick_frame]

@[simp] theorem State.raiseIf_inputs (s : State) (src : SyncOutSrc) : (s.raiseIf src).inputs = s.inputs := by
  rw [s.raiseIf_frame]

@[simp] theorem State.timeByte_inputs (s : State) : s.timeByte.inputs = s.inputs := by rw [s.timeByte_frame]

@[simp] theorem State.endSyncHold_inputs (s : State) : s.endSyncHold.inputs = s.inputs := by rw [s.endSyncHold_frame]

@[simp] theorem State.inactiveEdge_inputs (s : State) : s.inactiveEdge.inputs = s.inputs := by
  unfold State.inactiveEdge; split <;> simp

@[simp] theorem State.tbStopAction_inputs (s : State) : s.tbStopAction.inputs = s.inputs := by
  unfold State.tbStopAction; simp only [State.tbNotice_inputs]; split <;> simp

@[simp] theorem State.stopPlayer_inputs (s : State) (p : PlayerId) : (s.stopPlayer p).inputs = s.inputs := by
  simp [State.stopPlayer]

/-! ### What play makes of a latch -/

theorem Input.consumed_consumed (r : Input) : r.consumed.consumed = r.consumed := rfl

theorem Input.consumed_sound (r : Input) (h : r.consumed.doubled = true) : r.consumed.pending = true := nomatch h

/-- From `s` to `t` latches have been consumed at most. -/
def Drains (s t : State) : Prop := ∀ n, t.input n = s.input n ∨ t.input n = (s.input n).consumed

namespace Drains

variable {s t u : State}

theorem refl (s : State) : Drains s s := fun _ => .inl rfl

theorem trans (h1 : Drains s t) (h2 : Drains t u) : Drains s u := fun n => by
  rcases h1 n with e1 | e1 <;> rcases h2 n with e2 | e2 <;> rw [e1] at e2
  · exact .inl e2
  · exact .inr e2
  · exact .inr e2
  · exact .inr (e2.trans (Input.consumed_consumed _))

/-- `Drains.trans` with the later operation first, which fixes the state between. -/
theorem after (h2 : Drains t u) (h1 : Drains s t) : Drains s u := h1.trans h2

theorem same (h : t.inputs = s.inputs) : Drains s t := fun n => .inl (by simp only [State.input, h])

/-- A latch that was consumed stays consumed. -/
theorem input_consumed (h : Drains s t) {n : InputId} (hn : (s.input n).consumed = s.input n) : t.input n = s.input n :=
  (h n).elim id fun e => e.trans hn

theorem latchesSound (h : Drains s t) (hs : s.latchesSound) : t.latchesSound := fun n => by
  rcases h n with e | e <;> rw [e]
  · exact hs n
  · exact Input.consumed_sound _

end Drains

theorem State.clearLatch_input_same (s : State) (n : InputId) : (s.clearLatch n).input n = (s.input n).consumed :=
  s.setInput_input_same n _

theorem State.clearLatch_input_ne (s : State) {n n' : InputId} (h : n' ≠ n) : (s.clearLatch n).input n' = s.input n' :=
  s.setInput_input_ne _ h

theorem State.clearLatch_drains (s : State) (n : InputId) : Drains s (s.clearLatch n) := fun n' => by
  by_cases e : n' = n
  · subst e; exact .inr (s.clearLatch_input_same n')
  · exact .inl (s.clearLatch_input_ne e)

/-! ### Admissions -/

theorem State.beginWait_drains (s : State) (p : PlayerId) (st : Step) (n : InputId) (timeout : BitVec 16) :
    Drains s (s.beginWait p st n timeout).1 := by
  unfold State.beginWait
  simp only
  split
  · refine (s.clearLatch_drains n).trans ?_
    split
    · exact .same (by simp)
    · split
      · exact .same (by simp)
      · exact .refl _
  · exact .same (by simp)

theorem State.beginStep_drains (s : State) (p : PlayerId) (st : Step) : Drains s (s.beginStep p st).1 := by
  refine Drains.trans (t := s.noteBegin p st) (.same (by simp)) ?_
  unfold State.beginStep
  simp only
  split
  case h_3 => exact State.beginWait_drains _ p st _ _
  case h_2 => exact .same (by simp)
  all_goals split <;> exact .same (by simp)

theorem State.admitStep_drains (s : State) (p : PlayerId) : Drains s (s.admitStep p).1 := by
  unfold State.admitStep
  split
  · exact .refl s
  · split
    · split
      · exact .same (by simp)
      · exact s.beginStep_drains p _
      · exact .same (by simp)
    · exact s.beginStep_drains p _

theorem State.admitNext_drains (s : State) (p : PlayerId) : Drains s (s.admitNext p).1 := by
  unfold State.admitNext
  simp only
  split
  · split
    · exact .same rfl
    · exact .after (State.admitStep_drains _ p) (.same rfl)
  · exact s.admitStep_drains p

theorem chain_drains : ∀ (fuel : Nat) (p : PlayerId) (s : State), Drains s (chain fuel p s)
  | 0, _, s => .refl s
  | fuel + 1, p, s => by
    have hadmit := s.admitNext_drains p
    unfold chain
    split
    case h_1 s1 h => rw [h] at hadmit; exact hadmit
    case h_2 s1 st h =>
      rw [h] at hadmit
      have hresolve : Drains s1 (s1.resolve p st).1 := .same (s1.resolve_inputs p st)
      split
      case h_1 s2 h2 => rw [h2] at hresolve; exact (hadmit.trans hresolve).trans (chain_drains fuel p s2)
      case h_2 s2 h2 => rw [h2] at hresolve; exact hadmit.trans hresolve

theorem State.admitChain_drains (s : State) (p : PlayerId) : Drains s (s.admitChain p) := chain_drains _ p s

theorem State.endStep_drains (s : State) (p : PlayerId) (st : Step) : Drains s (s.endStep p st) := by
  have hresolve : Drains s (s.resolve p st).1 := .same (s.resolve_inputs p st)
  unfold State.endStep
  split
  case h_1 s1 h => rw [h] at hresolve; exact hresolve.trans (s1.admitChain_drains p)
  case h_2 s1 h => rw [h] at hresolve; exact hresolve

theorem State.follow_drains (a : State × Admission) (p : PlayerId) : Drains a.1 (State.follow a p) := by
  unfold State.follow
  split
  · exact .refl _
  · exact State.endStep_drains _ p _

theorem State.beginRun_drains (s : State) (p : PlayerId) (cause : StartCause) : Drains s (s.beginRun p cause) :=
  .after (State.admitChain_drains _ p) (.same (by simp))

theorem State.startPlayer_drains (s : State) (p : PlayerId) (sp : StartPoint) (limit : Nat) (stop : Option Nat) :
    Drains s (s.startPlayer p sp limit stop) := by
  unfold State.startPlayer
  simp only
  split
  · exact State.beginRun_drains _ p _
  all_goals exact .same rfl

/-! ### Phases that end, commits at a superframe start, resumes -/

theorem State.phaseEnd_drains (s : State) (p : PlayerId) : Drains s (s.phaseEnd p) := by
  have hcounted : Drains s (s.counted p) := .same rfl
  unfold State.phaseEnd
  simp only
  split
  · refine hcounted.trans ?_
    split
    · exact State.endStep_drains _ p _
    · split
      · exact .after (State.endStep_drains _ p _) (.same (State.trailingEdge_inputs _ _))
      · exact .same (State.trailingEdge_inputs _ _)
    · unfold State.expire
      split
      · exact .same (State.faultPlayer_inputs _ p _)
      · exact State.endStep_drains _ p _
    · exact .refl _
  · exact .refl s

theorem State.commitSuper_drains (s : State) (p : PlayerId) : Drains s (s.commitSuper p) := by
  unfold State.commitSuper
  split
  case h_1 new _ =>
    have hcommit : Drains s ((s.abandonStep p).commitRecord p new .superframe) := .same (by simp)
    simp only
    split
    · exact hcommit.trans (State.admitChain_drains _ p)
    all_goals exact hcommit
  case h_2 => exact .refl s

theorem State.resumeWait_drains (s : State) (p : PlayerId) (st : Step) (n : InputId) : Drains s (s.resumeWait p st n) := by
  unfold State.resumeWait
  simp only
  split
  · refine (s.clearLatch_drains n).trans ?_
    split
    · exact .same (by simp)
    · exact State.endStep_drains _ p _
  · exact .refl s

theorem State.resumePlayer_drains (s : State) (p : PlayerId) : Drains s (s.resumePlayer p) := by
  have hunheld : Drains s (s.unheld p) := .same rfl
  refine hunheld.trans ?_
  unfold State.resumePlayer
  simp only
  split
  · exact State.admitChain_drains _ p
  · split
    · exact State.resumeWait_drains _ p _ _
    all_goals exact .refl _
  · split
    · split
      · exact State.endStep_drains _ p _
      · exact .refl _
    all_goals exact .refl _
  · exact .refl _

theorem State.autoResume_drains (s : State) (o : Order) (super : Bool) (p : PlayerId) :
    Drains s (s.autoResume o super p) := by
  unfold State.autoResume
  simp only
  split
  · split
    · exact .after (State.commitSuper_drains _ p) (.same rfl)
    · exact s.resumePlayer_drains p
  · exact .refl s

/-! ### Events on one player -/

theorem State.countTick_drains (s : State) (o : Order) (p : PlayerId) : Drains s (s.countTick o p) := by
  unfold State.countTick
  simp only
  split
  · split
    · exact .after (State.phaseEnd_drains _ p) (.same rfl)
    · exact .same rfl
  · exact .same rfl

theorem State.alignEvent_drains (s : State) (p : PlayerId) (ev : TbEvent) : Drains s (s.alignEvent p ev) := by
  unfold State.alignEvent
  split
  · split
    · split
      · exact s.endStep_drains p _
      · exact .refl s
    all_goals exact .refl s
  · exact .refl s

theorem State.fitEvent_drains (s : State) (p : PlayerId) (ev : TbEvent) : Drains s (s.fitEvent p ev) := by
  unfold State.fitEvent
  split
  · split
    · exact .same (by simp)
    · exact (s.beginStep_drains p _).trans (State.follow_drains _ p)
    · exact .refl s
  · exact .refl s

theorem State.runningEvent_drains (s : State) (o : Order) (p : PlayerId) (ev : TbEvent) :
    Drains s (s.runningEvent o p ev) := by
  have hcount : ∀ b : Bool, Drains s (if b then s.countTick o p else s) := fun b => by
    split
    · exact s.countTick_drains o p
    · exact .refl s
  unfold State.runningEvent
  simp only
  split
  · split
    · exact .after (State.admitChain_drains _ p) (.same rfl)
    · exact .refl s
  · split
    · exact hcount _
    · exact hcount _
    · exact hcount _
    · exact s.alignEvent_drains p ev
    · exact s.fitEvent_drains p ev
    · exact .refl s

theorem State.playerEvent_drains (s : State) (o : Order) (ev : TbEvent) (before : PlayerState) (p : PlayerId) :
    Drains s (s.playerEvent o ev before p) := by
  have hsuper : Drains s (s.superEvent o p ev) := by
    unfold State.superEvent
    split
    · split
      · exact (s.beginRun_drains p _).trans (State.commitSuper_drains _ p)
      · exact (s.commitSuper_drains p).trans (State.beginRun_drains _ p _)
    · exact s.commitSuper_drains p
  unfold State.playerEvent
  simp only
  split
  · exact hsuper
  · split
    · exact s.runningEvent_drains o p ev
    · split
      · exact s.beginRun_drains p _
      · exact .refl s
    · exact .refl s

theorem State.handTo_drains (s : State) (o : Order) (ev : TbEvent) (before : Player) (p : PlayerId) :
    Drains s (s.handTo o ev before p) := by
  unfold State.handTo
  simp only
  split
  · split
    · exact .same rfl
    · exact .refl s
  · exact s.playerEvent_drains o ev _ p

theorem State.owedEvent_drains (s : State) (p : PlayerId) : Drains s (s.owedEvent p) := by
  unfold State.owedEvent
  simp only
  split
  · exact .after (State.playerEvent_drains _ _ _ _ p) (.same rfl)
  · exact .refl s

theorem State.owedNow_drains (s : State) (p : PlayerId) : Drains s (s.owedNow p) := by
  unfold State.owedNow
  split
  · exact (s.owedEvent_drains p).trans (.same (by simp))
  · exact .refl s

theorem State.edgeReaches_drains (s : State) (n : InputId) (doubled : Bool) (p : PlayerId) :
    Drains s (s.edgeReaches n doubled p) := by
  unfold State.edgeReaches
  simp only
  split
  · exact s.beginRun_drains p _
  · split
    · split
      · exact .same (by simp)
      · exact .after (State.endStep_drains _ p _) (.same rfl)
    · exact .refl s

theorem State.edgePart_drains (latched : State) (n : InputId) (doubled : Bool) (p : PlayerId) (s : State) :
    Drains s (latched.edgePart n doubled p s) := by
  unfold State.edgePart
  split
  · exact (s.edgeReaches_drains n doubled p).trans (State.owedEvent_drains _ p)
  · exact .refl s

/-! ### Events that reach several players -/

theorem runActors_drains {o : Order} {act : Actor → State → State} (h : ∀ a s, Drains s (act a s)) :
    ∀ (actors : List Actor) (s : State), Drains s (runActors o act actors s)
  | [], s => .refl s
  | a :: rest, s => by
    unfold runActors
    exact ((h a s).trans (.same (by simp))).trans (runActors_drains h rest _)

theorem eachPlayer_drains {o : Order} {act : PlayerId → State → State} (h : ∀ p s, Drains s (act p s)) (s : State) :
    Drains s (eachPlayer o act s) := by
  refine runActors_drains (fun a s => ?_) _ s
  cases a with
  | player p => exact h p s
  | safeUnit | superframeNotice => exact .refl s

theorem State.releaseSafe_drains (s : State) (o : Order) (super : Bool) : Drains s (s.releaseSafe o super) := by
  refine Drains.trans (t := s.changeSafe .clear Causes.empty 0) (.same (by simp)) ?_
  unfold State.releaseSafe
  simp only
  split
  · exact eachPlayer_drains (fun p s => s.autoResume_drains o super p) _
  · exact .refl _

theorem State.autoRelease_drains (s : State) (o : Order) : Drains s (s.autoRelease o) := by
  unfold State.autoRelease
  split
  · exact s.releaseSafe_drains o true
  · exact .refl s

theorem State.handOut_drains (s : State) (o : Order) (ev : TbEvent) : Drains s (s.handOut o ev) := by
  refine runActors_drains (fun a s' => ?_) _ s
  cases a with
  | player p => exact s'.handTo_drains o ev _ p
  | safeUnit =>
    simp only
    split
    · exact s'.autoRelease_drains o
    · exact .refl s'
  | superframeNotice =>
    simp only
    split
    · exact .same (by simp)
    · exact .refl s'

/-- A frame start, where the notices before it leave the latches. -/
theorem State.frameStart_drains (s : State) (o : Order) (index : Nat) {first : State → State} (tick sync : Bool)
    (h : ∀ s, (first s).inputs = s.inputs) : Drains s (s.frameStart o index first tick sync) :=
  .after (State.handOut_drains _ _ _) (.same (by simp [h]))

theorem State.catchUp_drains (s : State) (o : Order) : Drains s (s.catchUp o) :=
  eachPlayer_drains (fun p s => (s.phaseEnd_drains p).trans (State.owedEvent_drains _ p)) s

theorem State.tick_drains (s : State) (o : Order) : Drains s (s.tick o) := by
  have hstart : Drains s ((s.catchUp o).syncOutAtTick).clearPassBegun :=
    (s.catchUp_drains o).trans (.same (by simp [State.clearPassBegun]))
  refine hstart.trans ?_
  unfold State.tick
  simp only
  split
  · exact .after (State.handOut_drains _ _ _) (.same rfl)
  · exact State.frameStart_drains _ o _ true false fun _ => rfl

theorem State.beginTbRun_drains (s : State) (o : Order) (st : TbState) (sync : Bool) : Drains s (s.beginTbRun o st sync) :=
  .after (State.frameStart_drains _ o 0 false sync fun u => u.tbNotice_inputs _ _) (.same (by simp [State.clearDivider]))

theorem State.tbStartAction_drains (s : State) (o : Order) : Drains s (s.tbStartAction o) := by
  unfold State.tbStartAction
  split
  case h_3 => exact .same (by simp)
  all_goals exact s.beginTbRun_drains o _ _

theorem State.activeEdge_drains (s : State) (o : Order) : Drains s (s.activeEdge o) := by
  obtain ⟨e, ev, hhands, hinputs⟩ : ∃ e ev, s.activeEdge o = State.handOut e o ev ∧ e.inputs = s.inputs := by
    unfold State.activeEdge
    split
    · exact ⟨_, _, rfl, by simp [State.clearDivider]⟩
    · split
      · unfold State.mergeEdge
        simp only
        split
        · exact ⟨_, _, rfl, rfl⟩
        · exact ⟨_, _, rfl, by simp [State.commitStaged, State.clearDivider]⟩
      · exact ⟨_, _, rfl, by simp [State.clearDivider]⟩
    · exact ⟨_, _, rfl, by simp⟩
    · exact ⟨_, _, rfl, rfl⟩
  rw [hhands]
  exact .after (e.handOut_drains o ev) (.same hinputs)

theorem State.syncChange_drains (s : State) (level : Bool) (o : Order) : Drains s (s.syncChange level o) := by
  unfold State.syncChange
  simp only
  split
  · exact .refl s
  · refine (s.catchUp_drains o).trans ?_
    split
    · exact .after (State.activeEdge_drains _ o) (.same rfl)
    · exact .same (by simp)

theorem State.divide_drains (s : State) (o : Order) : Drains s (s.divide o) := by
  unfold State.divide
  split
  · exact .after (State.tick_drains _ o) (.same rfl)
  · split
    · exact .same rfl
    · exact .refl s

theorem State.passMicrosecond_drains (s : State) (o : Order) : Drains s (s.passMicrosecond o) := by
  have hbefore : Drains s ((s.timeByte).endSyncHold) := .same (by simp)
  exact (hbefore.trans (State.catchUp_drains _ o)).trans (State.divide_drains _ o)

/-! ### Samples, changes and edges of an input (R119, R121) -/

theorem State.setInput_latchesSound {s : State} {n : InputId} {r : Input} (hr : r.doubled = true → r.pending = true)
    (h : s.latchesSound) : (s.setInput n r).latchesSound := fun n' => by
  by_cases e : n' = n
  · subst e; rw [s.setInput_input_same]; exact hr
  · rw [s.setInput_input_ne r e]; exact h n'

/-- An edge leaves its latch pending. -/
theorem State.edgeLatched_latchesSound {s : State} (h : s.latchesSound) (n : InputId) : (s.edgeLatched n).latchesSound := by
  refine Drains.latchesSound (s := s.setInput n ((s.input n).latchEdge s.stamp)) (.same ?_)
    (State.setInput_latchesSound (fun _ => rfl) h)
  unfold State.edgeLatched
  exact State.produce_inputs _ _

/-- Without a consumer an edge is latched and told, and no more. -/
theorem State.acceptEdge_latched {s : State} {n : InputId} (o : Order) (h : ∀ p, (s.edgeLatched n).consumes n p = false) :
    s.acceptEdge n o = s.edgeLatched n :=
  if_neg fun hany => by
    obtain ⟨p, -, hp⟩ := List.any_eq_true.mp hany
    exact Bool.false_ne_true ((h p).symm.trans hp)

theorem State.acceptEdge_latchesSound {s : State} (h : s.latchesSound) (n : InputId) (o : Order) :
    (s.acceptEdge n o).latchesSound := by
  have hlatched := State.edgeLatched_latchesSound h n
  by_cases hnone : ∀ p, (s.edgeLatched n).consumes n p = false
  · rw [State.acceptEdge_latched o hnone]; exact hlatched
  · obtain ⟨p, hp⟩ : ∃ p, (s.edgeLatched n).consumes n p = true := by simpa using hnone
    rw [State.acceptEdge_consumed o hp]
    exact (((s.edgeLatched n).clearLatch_drains n).trans
      (eachPlayer_drains (fun p u => State.edgePart_drains _ n _ p u) _)).latchesSound hlatched

theorem State.acceptChange_latchesSound {s : State} (h : s.latchesSound) (n : InputId) (o : Order) :
    (s.acceptChange n o).latchesSound := by
  have hmoved : ∀ level, (s.setInput n { s.input n with filtered := level, candidate := 0, sampled := true }).latchesSound :=
    fun _ => State.setInput_latchesSound (h n) h
  unfold State.acceptChange
  simp only
  split
  · exact Drains.latchesSound (.same (State.settle_inputs _ o)) (State.acceptEdge_latchesSound (hmoved _) n o)
  · exact hmoved _

theorem State.sample_latchesSound {s : State} (h : s.latchesSound) (n : InputId) (level : Bool) (o : Order) :
    (s.sample n level o).latchesSound := by
  unfold State.sample
  simp only
  split
  · exact State.setInput_latchesSound (h n) h
  · split
    · exact State.setInput_latchesSound (h n) h
    · split
      · exact State.acceptChange_latchesSound h n o
      · exact State.setInput_latchesSound (h n) h

end Sys2Proof.Machine

/-! PROOFS. What a start-up has not reached yet (R179; log 42): `Undisturbed` says of every event that it leaves that at its start-up
values, first of link events and takes, then of the events by which players play. -/

namespace Sys2Proof.Machine

/-! ### What the start-up's conditions read -/

/-- What `State.latchesSound` and `State.bootClean` read. -/
structure StartUpView where
  boot    : Boot
  op      : ImageOp
  players : Vector Player 6
  tbState : TbState
  safe    : Safe
  store   : Store
  inputs  : Vector Input 8

def State.startUpView (s : State) : StartUpView where
  boot    := s.boot
  op      := s.image.op
  players := s.players
  tbState := s.tb.state
  safe    := s.safe
  store   := s.store
  inputs  := s.inputs

@[simp] theorem State.produce_startUpView (s : State) (body : NoticeBody) : (s.produce body).startUpView = s.startUpView := by
  rw [s.produce_frame]; rfl

@[simp] theorem State.transmit_startUpView (s : State) : s.transmit.startUpView = s.startUpView := by
  rw [s.transmit_frame]; rfl

@[simp] theorem State.setRx_startUpView (s : State) (rx : Receiver) (timer : Option Nat) :
    (s.setRx rx timer).startUpView = s.startUpView := rfl

/-- The Timebase is STOPPED and every player stands at its start-up values, as they do until the Timebase's autostart. -/
def State.unstarted (s : State) : Prop := s.tb.state = .stopped ∧ ∀ p, s.player p = Player.blank

/-- From `s` to `t` boot state and operation in flight stay, and what stands at its start-up values goes on standing there: each
player, the Timebase's state, and until HOLD_IN is followed the store and the safe record. -/
structure Undisturbed (s t : State) : Prop where
  boot : t.boot = s.boot
  op : s.image.op = .none → t.image.op = .none
  blank : ∀ p, s.player p = Player.blank → t.player p = Player.blank
  stopped : s.unstarted → t.tb.state = .stopped
  early : s.unstarted → s.holdFollowed = false → t.store = s.store ∧ (s.safe.idle → t.safe.idle)

namespace Undisturbed

variable {s t u : State}

theorem same (h : t.startUpView = s.startUpView) : Undisturbed s t where
  boot := congrArg StartUpView.boot h
  op hop := (congrArg StartUpView.op h).trans hop
  blank p hp := (congrArg (fun v : StartUpView => v.players[p.val]) h).trans hp
  stopped hs := (congrArg StartUpView.tbState h).trans hs.1
  early _ _ := ⟨congrArg StartUpView.store h, fun hs => by rw [show t.safe = s.safe from congrArg StartUpView.safe h]; exact hs⟩

theorem refl (s : State) : Undisturbed s s := same rfl

theorem unstarted (h : Undisturbed s t) (hs : s.unstarted) : t.unstarted :=
  ⟨h.stopped hs, fun p => h.blank p (hs.2 p)⟩

theorem holdFollowed (h : Undisturbed s t) : t.holdFollowed = s.holdFollowed := by
  simp only [State.holdFollowed, h.boot]

theorem trans (h1 : Undisturbed s t) (h2 : Undisturbed t u) : Undisturbed s u where
  boot := h2.boot.trans h1.boot
  op hop := h2.op (h1.op hop)
  blank p hp := h2.blank p (h1.blank p hp)
  stopped hs := h2.stopped (h1.unstarted hs)
  early hs hhold := by
    obtain ⟨hstore, hsafe⟩ := h1.early hs hhold
    obtain ⟨hstore', hsafe'⟩ := h2.early (h1.unstarted hs) (h1.holdFollowed.trans hhold)
    exact ⟨hstore'.trans hstore, fun h => hsafe' (hsafe h)⟩

/-- An event of play, which moves no more than inputs, lines and SYNC_OUT where nothing has been started yet. -/
theorem play {who : Set PlayerId} (hc : Confined who s t) (hp : Plays s t)
    (hrest : s.unstarted → t.tb.state = s.tb.state ∧ t.safe = s.safe ∧ t.store = s.store) : Undisturbed s t where
  boot := hc.field Fixed.boot
  op hop := (congrArg ImageUnit.op (hc.field Fixed.image)).trans hop
  blank := hp.blank
  stopped hs := (hrest hs).1.trans hs.1
  early hs _ := ⟨(hrest hs).2.2, fun h => by rw [(hrest hs).2.1]; exact h⟩

/-- What a start-up has not reached yet goes on standing at its start-up values. -/
theorem bootClean (h : Undisturbed s t) (hs : s.bootClean) : t.bootClean := by
  unfold State.bootClean at hs ⊢
  rw [h.boot]
  have hfollow : s.boot = .booting .values ∨ (∃ load, s.boot = .booting (.loaded load)) → s.holdFollowed = false := by
    rintro (e | ⟨load, e⟩) <;> simp [State.holdFollowed, e]
  split at hs
  case h_1 e =>
    obtain ⟨hop, hp, htb, hsafe, hstore⟩ := hs
    obtain ⟨hstore', hsafe'⟩ := h.early ⟨htb, hp⟩ (hfollow (.inl e))
    exact ⟨h.op hop, fun p => h.blank p (hp p), h.stopped ⟨htb, hp⟩, hsafe' hsafe, hstore'.trans hstore⟩
  case h_2 load e =>
    obtain ⟨hop, hp, htb, hsafe⟩ := hs
    obtain ⟨-, hsafe'⟩ := h.early ⟨htb, hp⟩ (hfollow (.inr ⟨load, e⟩))
    exact ⟨h.op hop, fun p => h.blank p (hp p), h.stopped ⟨htb, hp⟩, hsafe' hsafe⟩
  case h_3 =>
    obtain ⟨hop, hp, htb⟩ := hs
    exact ⟨h.op hop, fun p => h.blank p (hp p), h.stopped ⟨htb, hp⟩⟩
  case h_4 =>
    obtain ⟨hop, hlen, hp⟩ := hs
    exact ⟨h.op hop, hlen, fun p hle => h.blank p (hp p hle)⟩
  case h_5 => trivial

end Undisturbed

theorem State.bootClean.of_ready {s : State} (h : s.boot = .ready) : s.bootClean := by
  simp only [State.bootClean, h]

theorem State.bootClean.op {s : State} (h : s.bootClean) (hb : s.boot ≠ .ready) : s.image.op = .none := by
  unfold State.bootClean at h
  split at h
  case h_5 e => exact absurd e hb
  all_goals exact h.1

/-! ### What keeps both conditions -/

/-- Doubled latches stay pending, and what a start-up has not reached yet stays at its start-up values. -/
structure KeepsStartUp (s t : State) : Prop where
  latches : s.latchesSound → t.latchesSound
  clean : s.bootClean → t.bootClean

namespace KeepsStartUp

variable {s t u : State}

theorem refl (s : State) : KeepsStartUp s s := ⟨id, id⟩

theorem trans (h1 : KeepsStartUp s t) (h2 : KeepsStartUp t u) : KeepsStartUp s u :=
  ⟨fun h => h2.latches (h1.latches h), fun h => h2.clean (h1.clean h)⟩

/-- `KeepsStartUp.trans` with the later change first, which fixes the state between. -/
theorem after (h2 : KeepsStartUp t u) (h1 : KeepsStartUp s t) : KeepsStartUp s u := h1.trans h2

/-- Nothing that the conditions read moves. -/
theorem same (h : t.startUpView = s.startUpView) : KeepsStartUp s t :=
  ⟨(Drains.same (congrArg StartUpView.inputs h)).latchesSound, (Undisturbed.same h).bootClean⟩

theorem event (hl : s.latchesSound → t.latchesSound) (hu : Undisturbed s t) : KeepsStartUp s t := ⟨hl, hu.bootClean⟩

end KeepsStartUp

/-! ### Takes -/

/-- Latches go on sound, and a part that is READY stays so. -/
structure Steady (s t : State) : Prop where
  latches : s.latchesSound → t.latchesSound
  ready : s.boot = .ready → t.boot = .ready

namespace Steady

variable {s t u : State}

theorem refl (s : State) : Steady s s := ⟨id, id⟩

theorem trans (h1 : Steady s t) (h2 : Steady t u) : Steady s u :=
  ⟨fun h => h2.latches (h1.latches h), fun h => h2.ready (h1.ready h)⟩

/-- Neither an input nor the boot state moves. -/
theorem same (hi : t.inputs = s.inputs) (hb : t.boot = s.boot) : Steady s t :=
  ⟨(Drains.same hi).latchesSound, hb.trans⟩

/-- Play consumes latches at most, and leaves the boot state (Laws/Play). -/
theorem play (hd : Drains s t) (hf : t.fixed = s.fixed) : Steady s t :=
  ⟨hd.latchesSound, (congrArg Fixed.boot hf).trans⟩

end Steady

/-- A take while BOOTING of a request other than DEVICE_STATUS is refused, and moves no more than the link (R157). -/
theorem State.take_booting {s : State} {mine : Frame → Bool} {serve : Frame → State → State × Reply}
    (hkind : ∀ q, mine q = true → q.kind ≠ 0x60) (hb : s.boot ≠ .ready) :
    (s.take mine serve).startUpView = s.startUpView := by
  unfold State.take
  split
  case h_1 q rest _ _ =>
    split
    case isTrue hmine =>
      have hrefused : (s.taking rest).answer q serve = (s.taking rest, Reply.bare .notReady) := by
        have hboot : (s.taking rest).boot ≠ .ready ∧ q.kind ≠ 0x60 := ⟨hb, hkind q hmine⟩
        rw [State.answer, State.sharedRefusal, if_pos hboot]
      change ((((s.taking rest).answer q serve).1.queueReply q ((s.taking rest).answer q serve).2).transmit).startUpView = _
      rw [hrefused, State.transmit_startUpView]
      rfl
    case isFalse => rfl
  case h_2 => rfl

theorem State.take_steady {s : State} {mine : Frame → Bool} {serve : Frame → State → State × Reply}
    (h : ∀ q s, Steady s (serve q s).1) : Steady s (s.take mine serve) := by
  unfold State.take
  split
  case h_1 q rest _ _ =>
    split
    · have hanswer : Steady (s.taking rest) ((s.taking rest).answer q serve).1 := by
        unfold State.answer
        split
        · exact .refl _
        · exact h q _
      refine Steady.trans (t := s.taking rest) (.same rfl rfl) (hanswer.trans ?_)
      exact .same (State.transmit_inputs _) (State.transmit_boot _)
    · exact .refl s
  case h_2 => exact .refl s

/-- A take row keeps both conditions: in READY nothing is left of a start-up, and while BOOTING its requests are refused. -/
theorem State.take_keepsStartUp {s : State} {mine : Frame → Bool} {serve : Frame → State → State × Reply}
    (hkind : ∀ q, mine q = true → q.kind ≠ 0x60) (h : ∀ q s, Steady s (serve q s).1) :
    KeepsStartUp s (s.take mine serve) := by
  by_cases hb : s.boot = .ready
  · have hsteady : Steady s (s.take mine serve) := State.take_steady h
    exact ⟨hsteady.latches, fun _ => .of_ready (hsteady.ready hb)⟩
  · exact .same (State.take_booting hkind hb)

/-! ### Link events (R143 to R149, R165) -/

theorem State.live_keepsStartUp {s : State} {event : State → State} (h : ∀ s, KeepsStartUp s (event s)) :
    KeepsStartUp s (s.live event) := by
  unfold State.live
  split
  · exact (h s).trans (.same (by simp))
  all_goals exact .refl s

@[simp] theorem State.linkError_startUpView (s : State) (cause : LinkCause) : (s.linkError cause).startUpView = s.startUpView := by
  simp [State.linkError]

@[simp] theorem State.enterInbox_startUpView (s : State) (f : Frame) : (s.enterInbox f).startUpView = s.startUpView := by
  unfold State.enterInbox
  split
  · rfl
  · split
    · split <;> rfl
    · split <;> rfl

@[simp] theorem State.judgeFrame_startUpView (s : State) (got : List Byte) (check : BitVec 16) :
    (s.judgeFrame got check).startUpView = s.startUpView := by
  unfold State.judgeFrame
  split
  · split <;> simp
  · simp

@[simp] theorem State.rxByte_startUpView (s : State) (b : Byte) : (s.rxByte b).startUpView = s.startUpView := by
  unfold State.rxByte
  split
  · split <;> simp
  · split <;> simp
  · split <;> simp
  · simp
  · simp

@[simp] theorem State.rxBytes_startUpView (s : State) (bs : List Byte) : (s.rxBytes bs).startUpView = s.startUpView := by
  rw [State.rxBytes_eq]
  induction bs generalizing s with
  | nil => rfl
  | cons b bs ih => rw [List.foldl_cons, ih, State.rxByte_startUpView]

@[simp] theorem State.byteError_startUpView (s : State) : s.byteError.startUpView = s.startUpView := by
  unfold State.byteError; split <;> simp

/-- Every block takes its start-up values (R179 step 1). -/
theorem State.startUpValues_keepsStartUp (s : State) (phase : Phase) :
    KeepsStartUp s { s.startUpValues with phase := phase } := by
  refine ⟨fun _ n hn => ?_, fun _ => ⟨rfl, State.replicate_player, rfl, ⟨rfl, rfl, rfl, rfl⟩, rfl⟩⟩
  have hblank : State.input { s.startUpValues with phase := phase } n = Input.blank := by simp [State.input, State.startUpValues]
  rw [hblank] at hn
  cases hn

theorem State.frameEnd_keepsStartUp (s : State) : KeepsStartUp s s.frameEnd := by
  have hend : ∀ (u : State) (e : ReplyEffect), KeepsStartUp u (u.replyEnd e) := fun u e => by
    cases e with
    | plain => exact .refl u
    | setRate r => exact .same rfl
    | reload => exact u.startUpValues_keepsStartUp .live
  unfold State.frameEnd
  split
  · exact .refl s
  · simp only
    split
    · exact .after (hend _ _) (.same rfl)
    · exact .same rfl

/-! ### Image operations (R174 to R177) -/

/-- An event of the operation in flight, of which there is none while BOOTING. -/
theorem KeepsStartUp.operation {s t : State} (hnone : s.image.op = .none → t = s) (hi : t.inputs = s.inputs)
    (hb : t.boot = s.boot) : KeepsStartUp s t := by
  refine ⟨(Drains.same hi).latchesSound, fun hs => ?_⟩
  by_cases hready : s.boot = .ready
  · exact .of_ready (hb.trans hready)
  · rw [hnone (hs.op hready)]; exact hs

@[simp] theorem State.setHeader_inputs (s : State) (k : BankId) (st : BankState) : (s.setHeader k st).inputs = s.inputs := by
  cases k <;> rfl

@[simp] theorem State.setHeader_boot (s : State) (k : BankId) (st : BankState) : (s.setHeader k st).boot = s.boot := by
  cases k <;> rfl

@[simp] theorem State.setBank_inputs (s : State) (k : BankId) (b : Bank) : (s.setBank k b).inputs = s.inputs := by cases k <;> rfl

@[simp] theorem State.setBank_boot (s : State) (k : BankId) (b : Bank) : (s.setBank k b).boot = s.boot := by cases k <;> rfl

theorem State.completeSave_keepsStartUp (s : State) (ok : Bool) : KeepsStartUp s (s.completeSave ok) := by
  refine .operation (fun h => by simp [State.completeSave, h]) ?_ ?_ <;> unfold State.completeSave
  all_goals
    split
    · split <;> simp [State.endOp, State.judgeBanks]
    all_goals rfl

theorem State.treatedA_keepsStartUp (s : State) (ok : Bool) : KeepsStartUp s (s.treatedA ok) := by
  refine .operation (fun h => by simp [State.treatedA, h]) ?_ ?_ <;> unfold State.treatedA <;> split <;> simp

theorem State.completeErase_keepsStartUp (s : State) (ok : Bool) : KeepsStartUp s (s.completeErase ok) := by
  refine .operation (fun h => by simp [State.completeErase, h]) ?_ ?_ <;> unfold State.completeErase <;> split <;>
    simp [State.endOp, State.judgeBanks]

/-! ### Where nothing has been started yet -/

namespace State.unstarted

variable {s : State}

theorem still (h : s.unstarted) (players exempt : List PlayerId) : s.reachPlayers players exempt = s :=
  State.reachPlayers_still (fun p => by rw [h.2 p]; exact ⟨nofun, nofun⟩) players exempt

theorem settle (h : s.unstarted) (o : Order) : s.settle o = s := h.still _ _

theorem catchUp (h : s.unstarted) (o : Order) : s.catchUp o = s :=
  State.catchUp_still o (fun p => by rw [h.2 p]; rfl) (fun p => by rw [h.2 p]; rfl) h.still

theorem not_ticks (h : s.unstarted) (source : TickSource) : s.ticksFrom source = false := by
  simp [State.ticksFrom, State.ticking, h.1]

/-- An event other than a superframe start finds nobody to act on it. -/
theorem handOut (h : s.unstarted) (o : Order) {ev : TbEvent} (hev : ev.super = false) : s.handOut o ev = s := by
  refine runActors_still h.still _ fun a _ => ?_
  cases a with
  | player p =>
    have hpart : (s.player p).takesPart ev = false := by rw [h.2 p]; simp [Player.takesPart, Player.blank, hev]
    unfold State.handTo
    simp only
    split
    · rw [hpart]; rfl
    · exact State.playerEvent_blank (h.2 p) o ev _
  | safeUnit | superframeNotice => simp only [hev]; rfl

theorem consumes (h : s.unstarted) (n : InputId) (p : PlayerId) : s.consumes n p = false := State.consumes_blank (h.2 p) n

end State.unstarted

/-! ### The Timebase's events (R25 to R27, R31, R41) -/

theorem State.syncChange_undisturbed (s : State) (level : Bool) (o : Order) : Undisturbed s (s.syncChange level o) := by
  refine .play (s.syncChange_confined level o) (s.syncChange_plays level o) fun h => ?_
  have hsampled : State.unstarted { s with tb := { s.tb with syncIn := level } } := h
  have hstop : s.tb.state = .stopped := h.1
  unfold State.syncChange
  rw [h.catchUp]
  simp only
  split
  · exact ⟨rfl, rfl, rfl⟩
  · split
    · rw [State.activeEdge_other o (by simp [hstop]) (by simp [hstop]) (by simp [hstop]), hsampled.handOut o rfl]
      exact ⟨rfl, rfl, rfl⟩
    · simp only [State.inactiveEdge, hstop]
      exact ⟨trivial, trivial, trivial⟩

theorem State.tick_undisturbed (s : State) (source : TickSource) (o : Order) :
    Undisturbed s (if s.ticksFrom source then s.tick o else s) := by
  split
  case isTrue hticks =>
    refine .play (s.tick_confined o) (s.tick_plays o) fun h => ?_
    rw [h.not_ticks] at hticks
    cases hticks
  case isFalse => exact .refl s

theorem State.passMicrosecond_undisturbed (s : State) (o : Order) : Undisturbed s (s.passMicrosecond o) := by
  have hbyte : s.timeByte.startUpView = s.startUpView := by
    unfold State.timeByte
    split
    · simp
    · rfl
  have hhold : s.timeByte.endSyncHold.startUpView = s.startUpView := by
    unfold State.endSyncHold
    split <;> exact hbyte
  have hbefore := Undisturbed.same hhold
  have hplays : Plays s (s.passMicrosecond o) :=
    (Plays.same (congrArg StartUpView.store hbyte) (congrArg StartUpView.players hbyte)).trans (s.passMicrosecond_plays o)
  refine .play (s.passMicrosecond_confined o) hplays fun h => ?_
  have hlater := hbefore.unstarted h
  have hpass : s.passMicrosecond o = s.timeByte.endSyncHold := by
    simp [State.passMicrosecond, hlater.catchUp, State.divide, State.dividerExpires, hlater.not_ticks]
  rw [hpass]
  exact ⟨congrArg StartUpView.tbState hhold, congrArg StartUpView.safe hhold, congrArg StartUpView.store hhold⟩

/-! ### Phase ends, inputs and HOLD_IN -/

theorem State.phaseRow_undisturbed (s : State) (p : PlayerId) (o : Order) (a : Activity) (ofRow : StepAction → Bool) :
    Undisturbed s (s.phaseRow p o a ofRow) := by
  by_cases hlive : s.phase = .live
  · by_cases hdue : s.dueOn p a ofRow = true
    · refine .play (s.phaseRow_confined p o a ofRow) ?_ fun h => ?_
      · rw [State.phaseRow, State.live_live hlive, if_pos hdue]
        refine .after (.same (State.transmit_store _) (State.transmit_players _)) (runActors_plays (fun a s' => ?_) _ s)
        cases a with
        | player p' =>
          simp only
          split
          · exact s'.phaseEnd_plays p'
          · exact .refl s'
        | safeUnit | superframeNotice => exact .refl s'
      · simp [State.dueOn, h.2 p, Player.blank] at hdue
    · rw [State.phaseRow, State.live_live hlive, if_neg hdue]
      exact .same (by simp)
  · rw [State.phaseRow, State.live_other hlive]
    exact .refl s

theorem State.acceptChange_unstarted {s : State} (h : s.unstarted) (n : InputId) (o : Order) :
    (s.acceptChange n o).tb.state = s.tb.state ∧ (s.acceptChange n o).safe = s.safe ∧
      (s.acceptChange n o).store = s.store := by
  have hlatched : ∀ r, ((s.setInput n r).acceptEdge n o).settle o = (s.setInput n r).edgeLatched n := fun r => by
    have hstart : ((s.setInput n r).edgeLatched n).unstarted :=
      ⟨by simp [State.edgeLatched, h.1], fun p => by simp [State.edgeLatched, h.2 p]⟩
    rw [State.acceptEdge_latched o (hstart.consumes n), hstart.settle]
  unfold State.acceptChange
  simp only
  split
  · rw [hlatched]
    simp [State.edgeLatched]
  · exact ⟨rfl, rfl, rfl⟩

theorem State.acceptChange_undisturbed (s : State) (n : InputId) (o : Order) : Undisturbed s (s.acceptChange n o) :=
  .play (s.acceptChange_confined n o) (s.acceptChange_plays n o) fun h => State.acceptChange_unstarted h n o

theorem State.sample_undisturbed (s : State) (n : InputId) (level : Bool) (o : Order) : Undisturbed s (s.sample n level o) := by
  refine .play (s.sample_confined n level o) (s.sample_plays n level o) fun h => ?_
  unfold State.sample
  simp only
  split
  · exact ⟨rfl, rfl, rfl⟩
  · split
    · exact ⟨rfl, rfl, rfl⟩
    · split
      · exact State.acceptChange_unstarted h n o
      · exact ⟨rfl, rfl, rfl⟩

/-- HOLD_IN enters a safe state once it is followed, and before that its level alone is recorded (R140). -/
theorem State.holdSample_undisturbed (s : State) (level : Bool) (o : Order) : Undisturbed s (s.holdSample level o) where
  boot := congrArg Fixed.boot (s.holdSample_fixed level o)
  op hop := (congrArg (fun f : Fixed => f.image.op) (s.holdSample_fixed level o)).trans hop
  blank := (s.holdSample_plays level o).blank
  stopped h := (Timebase.state_of_counts (State.counts_of_clock (s.holdSample_clock level o))).trans h.1
  early _ hhold := by
    rw [State.holdSample, if_neg (by simp [hhold])]
    exact ⟨rfl, id⟩

end Sys2Proof.Machine

/-! PROOFS. Each block's requests: latches go on sound, and a part that is READY stays so. -/

namespace Sys2Proof.Machine

/-! ### Requests of the Cue Store (R11 to R20) -/

theorem State.changeList_steady {s : State} {b : Byte} {own : ListId → State × Reply} (h : ∀ l, Steady s (own l).1) :
    Steady s (s.changeList b own).1 := by
  unfold State.changeList
  split
  · exact .refl s
  · split
    · exact .refl s
    · exact h _

theorem serveListCreate_steady (q : Frame) (s : State) : Steady s (serveListCreate q s).1 := by
  unfold serveListCreate
  repeat' split
  all_goals exact .same rfl rfl

theorem serveListAppend_steady (q : Frame) (s : State) : Steady s (serveListAppend q s).1 := by
  unfold serveListAppend
  split
  · refine State.changeList_steady fun l => ?_
    repeat' split
    all_goals exact .same rfl rfl
  · exact .refl s

theorem serveListTruncate_steady (q : Frame) (s : State) : Steady s (serveListTruncate q s).1 := by
  unfold serveListTruncate
  split
  · refine State.changeList_steady fun l => ?_
    simp only
    repeat' split
    all_goals exact .same rfl rfl
  · exact .refl s

theorem serveListSeal_steady (q : Frame) (s : State) : Steady s (serveListSeal q s).1 := by
  unfold serveListSeal
  split
  · refine State.changeList_steady fun l => ?_
    simp only
    repeat' split
    all_goals exact .same rfl rfl
  · exact .refl s

theorem serveListUnseal_steady (q : Frame) (s : State) : Steady s (serveListUnseal q s).1 := by
  unfold serveListUnseal
  split
  · refine State.changeList_steady fun l => ?_
    simp only
    repeat' split
    all_goals exact .same rfl rfl
  · exact .refl s

theorem serveListDelete_steady (q : Frame) (s : State) : Steady s (serveListDelete q s).1 := by
  unfold serveListDelete
  split
  · refine State.changeList_steady fun l => ?_
    simp only
    repeat' split
    all_goals exact .same rfl rfl
  · exact .refl s

theorem serveListInfo_steady (q : Frame) (s : State) : Steady s (serveListInfo q s).1 := by
  unfold serveListInfo
  repeat' split
  all_goals exact .refl s

theorem serveListRead_steady (q : Frame) (s : State) : Steady s (serveListRead q s).1 := by
  unfold serveListRead
  simp only
  repeat' split
  all_goals exact .refl s

/-! ### Requests of the players (R70 to R94) -/

theorem onPlayer_steady {q : Frame} {s : State} {own : PlayerId → State × Reply} (h : ∀ p, Steady s (own p).1) :
    Steady s (onPlayer q s own).1 := by
  unfold onPlayer
  split
  · split
    · exact h _
    · exact .refl s
  · exact .refl s

theorem thenOwed_steady {s : State} (p : PlayerId) {a : State × Reply} (h : Steady s a.1) : Steady s (thenOwed p a).1 :=
  h.trans (.play (State.owedNow_drains _ p) (State.owedNow_fixed _ p))

theorem servePlayerBind_steady (q : Frame) (s : State) : Steady s (servePlayerBind q s).1 := by
  unfold servePlayerBind
  simp only
  repeat' split
  all_goals exact .same rfl rfl

@[simp] theorem State.useDownOpt_boot (s : State) (l : Option ListId) : (s.useDownOpt l).boot = s.boot := by
  cases l <;> rfl

theorem servePlayerUnbind_steady (q : Frame) (s : State) : Steady s (servePlayerUnbind q s).1 := by
  have hunbind : ∀ p, Steady s (s.unbindPlayer p) := fun p =>
    .same (by simp [State.unbindPlayer]) (by simp [State.unbindPlayer])
  refine onPlayer_steady fun p => ?_
  split
  · exact hunbind p
  · exact hunbind p
  all_goals exact .refl s

theorem State.startPlayer_steady (s : State) (p : PlayerId) (sp : StartPoint) (limit : Nat) (stop : Option Nat) (o : Order) :
    Steady s ((s.startPlayer p sp limit stop).settle o) :=
  .play ((s.startPlayer_drains p sp limit stop).trans (.same (State.settle_inputs _ o))) (by simp)

theorem servePlayerStart_steady (o : Order) (q : Frame) (s : State) : Steady s (servePlayerStart o q s).1 := by
  unfold servePlayerStart
  split
  · split
    · exact .refl s
    · split
      · exact .refl s
      · split
        · exact .refl s
        · split
          · exact .refl s
          · exact .refl s
          · exact .refl s
          · exact thenOwed_steady _ (s.startPlayer_steady _ _ _ _ o)
          · exact thenOwed_steady _ (s.startPlayer_steady _ _ _ _ o)
          · split
            · exact .refl s
            · exact thenOwed_steady _ (.same rfl rfl)
  · exact .refl s

theorem servePlayerCancel_steady (q : Frame) (s : State) : Steady s (servePlayerCancel q s).1 := by
  refine onPlayer_steady fun p => ?_
  split
  · exact thenOwed_steady p (.same rfl rfl)
  all_goals exact .refl s

theorem State.stopPlayer_steady (s : State) (p : PlayerId) : Steady s (s.stopPlayer p) :=
  .same (s.stopPlayer_inputs p) (congrArg Fixed.boot (State.commitAtPassEnd_fixed _ p))

theorem servePlayerStop_steady (q : Frame) (s : State) : Steady s (servePlayerStop q s).1 := by
  refine onPlayer_steady fun p => ?_
  simp only
  split
  case h_4 => exact .refl s
  case h_5 | h_6 => exact .refl s
  all_goals exact thenOwed_steady p (s.stopPlayer_steady p)

theorem servePlayerHold_steady (q : Frame) (s : State) : Steady s (servePlayerHold q s).1 := by
  refine onPlayer_steady fun p => ?_
  simp only
  split
  · exact thenOwed_steady p (.same rfl rfl)
  · split
    · exact thenOwed_steady p (.same rfl rfl)
    · exact .refl s
  all_goals exact .refl s

theorem servePlayerResume_steady (o : Order) (q : Frame) (s : State) : Steady s (servePlayerResume o q s).1 := by
  refine onPlayer_steady fun p => ?_
  split
  · exact .refl s
  · split
    · exact thenOwed_steady p (.play ((s.resumePlayer_drains p).trans (.same (State.settle_inputs _ o)))
        ((State.settle_fixed _ o).trans (s.resumePlayer_fixed p)))
    all_goals exact .refl s

theorem servePlayerSetStop_steady (q : Frame) (s : State) : Steady s (servePlayerSetStop q s).1 := by
  unfold servePlayerSetStop
  split
  · split
    · exact .refl s
    · simp only
      split
      · exact .refl s
      · exact thenOwed_steady _ (.same rfl rfl)
  · exact .refl s

theorem servePlayerClear_steady (q : Frame) (s : State) : Steady s (servePlayerClear q s).1 := by
  refine onPlayer_steady fun p => ?_
  simp only
  split <;> exact .same rfl rfl

theorem servePlayerReplace_steady (q : Frame) (s : State) : Steady s (servePlayerReplace q s).1 := by
  have happly : ∀ p l, Steady s (s.applyReplacement p l) := fun p l =>
    .same (by simp [State.applyReplacement]) (by simp [State.applyReplacement])
  have hpend : ∀ p l point, Steady s (s.pendReplacement p l point) := fun p l point =>
    .same (by simp [State.pendReplacement]) (by simp [State.pendReplacement])
  unfold servePlayerReplace
  split
  · split
    · split
      · exact .refl s
      · simp only
        split
        · exact .refl s
        · split
          · split
            · exact .refl s
            · split
              · exact thenOwed_steady _ (happly _ _)
              · split <;> exact thenOwed_steady _ (hpend _ _ _)
          · exact .refl s
    · exact .refl s
  · exact .refl s

theorem servePlayerWithdraw_steady (q : Frame) (s : State) : Steady s (servePlayerWithdraw q s).1 := by
  refine onPlayer_steady fun p => ?_
  simp only
  split
  · exact thenOwed_steady p (.same rfl rfl)
  · exact .refl s

/-! ### Requests of the Timebase, of lines and inputs, of the Safe Unit -/

theorem serveTbStart_steady (o : Order) (q : Frame) (s : State) : Steady s (serveTbStart o q s).1 := by
  have hstart : Steady s ((s.catchUp o).tbStartAction o) :=
    .play ((s.catchUp_drains o).trans (State.tbStartAction_drains _ o)) (by simp)
  unfold serveTbStart
  split
  · simp only
    split <;> exact hstart
  all_goals exact .refl s

theorem serveTbStop_steady (o : Order) (q : Frame) (s : State) : Steady s (serveTbStop o q s).1 := by
  unfold serveTbStop
  split
  · exact .refl s
  all_goals exact .play ((s.catchUp_drains o).trans (.same (State.tbStopAction_inputs _))) (by simp)

theorem serveLineDrive_steady (q : Frame) (s : State) : Steady s (serveLineDrive q s).1 := by
  unfold serveLineDrive
  simp only
  repeat' split
  all_goals exact .same rfl rfl

theorem State.clearLatch_steady (s : State) (n : InputId) : Steady s (s.clearLatch n) := .play (s.clearLatch_drains n) rfl

theorem serveInputRead_steady (q : Frame) (s : State) : Steady s (serveInputRead q s).1 := by
  unfold serveInputRead
  split
  · split
    · exact .refl s
    · split
      · exact .refl s
      · simp only
        split
        · exact s.clearLatch_steady _
        · exact .refl s
  · exact .refl s

theorem serveSafeEnter_steady (o : Order) (q : Frame) (s : State) : Steady s (serveSafeEnter o q s).1 := by
  unfold serveSafeEnter
  simp only
  split
  · exact .play (.same (by simp)) (by simp)
  · split
    · exact .refl s
    · exact .play (.same (by simp)) (by simp)

theorem serveSafeRelease_steady (o : Order) (q : Frame) (s : State) : Steady s (serveSafeRelease o q s).1 := by
  unfold serveSafeRelease
  split
  · exact .play ((s.releaseSafe_drains o false).trans (.same (State.settle_inputs _ o))) (by simp)
  all_goals exact .refl s

/-! ### Requests of parameters (R161, R162) -/

theorem serveParamGet_steady (q : Frame) (s : State) : Steady s (serveParamGet q s).1 := by
  unfold serveParamGet
  repeat' split
  all_goals exact .refl s

theorem serveParamSet_steady {own : Byte → Byte → Nat → State → State × Reply}
    (h : ∀ id index v s, Steady s (own id index v s).1) (q : Frame) (s : State) : Steady s (serveParamSet own q s).1 := by
  unfold serveParamSet
  split
  · simp only
    split
    · exact .refl s
    · split
      · exact .refl s
      · exact h _ _ _ s
  · exact .refl s

theorem ownStaged_steady (id index : Byte) (v : Nat) (s : State) : Steady s (ownStaged id index v s).1 := by
  unfold ownStaged State.paramReply
  split <;> simp only <;> split <;> exact .same rfl rfl

theorem ownStoppedClass_steady (id index : Byte) (v : Nat) (s : State) : Steady s (ownStoppedClass id index v s).1 := by
  unfold ownStoppedClass
  split <;> exact .same rfl rfl

theorem ownSyncOutSrc_steady (id index : Byte) (v : Nat) (s : State) : Steady s (ownSyncOutSrc id index v s).1 := by
  unfold ownSyncOutSrc State.paramReply
  simp only
  split <;> exact .same rfl rfl

theorem ownHoldLevel_steady (o : Order) (id index : Byte) (v : Nat) (s : State) : Steady s (ownHoldLevel o id index v s).1 := by
  have hlevel : Steady s { s with params := { s.params with holdLevel := decide (v = 1) } } := .same rfl rfl
  exact hlevel.trans (.play (.same ((State.settle_inputs _ o).trans (State.judgeHold_inputs _ o _)))
    ((State.settle_fixed _ o).trans (State.judgeHold_fixed _ o _)))

/-- IN_EDGE set to OFF clears the latch's marks (R120). -/
theorem ownInEdge_steady (id index : Byte) (v : Nat) (s : State) : Steady s (ownInEdge id index v s).1 := by
  unfold ownInEdge State.paramReply
  split
  case h_1 n _ =>
    have hedge : Steady s { s with params := { s.params with inEdge := s.params.inEdge.set n.val (InEdge.ofCode v) } } :=
      .same rfl rfl
    simp only
    split
    · exact hedge.trans (State.clearLatch_steady _ n)
    · exact hedge
  case h_2 => exact .refl s

theorem ownInFilter_steady (id index : Byte) (v : Nat) (s : State) : Steady s (ownInFilter id index v s).1 := by
  unfold ownInFilter
  split <;> exact .same rfl rfl

/-! ### Requests of notices, images, the autostart table and the device -/

theorem serveMute_steady (on : Bool) (q : Frame) (s : State) : Steady s (serveMute on q s).1 := by
  unfold serveMute
  split <;> exact .same rfl rfl

theorem serveImageSave_steady (q : Frame) (s : State) : Steady s (serveImageSave q s).1 := by
  unfold serveImageSave
  split
  · exact .refl s
  · split
    · exact .refl s
    · exact .same (State.setHeader_inputs _ _ _) (State.setHeader_boot _ _ _)

theorem serveImageErase_steady (q : Frame) (s : State) : Steady s (serveImageErase q s).1 := by
  unfold serveImageErase
  split <;> exact .same rfl rfl

theorem serveAutostartSet_steady (q : Frame) (s : State) : Steady s (serveAutostartSet q s).1 := by
  unfold serveAutostartSet serveAutoEntry serveAutoFlag
  repeat' split
  all_goals exact .same rfl rfl

theorem serveAutostartClear_steady (q : Frame) (s : State) : Steady s (serveAutostartClear q s).1 := by
  unfold serveAutostartClear
  repeat' split
  all_goals exact .same rfl rfl

/-- A WARM reset clears every latch, and ends in READY (R128, R164). -/
theorem serveResetWarm_steady (q : Frame) (s : State) : Steady s (serveResetWarm q s).1 := by
  unfold serveResetWarm
  split
  · refine ⟨fun _ n hn => ?_, fun _ => rfl⟩
    have hwarm : s.warmReset.input n = (s.input n).warm := by simp [State.input, State.warmReset, State.judgeHoldAtBoot]
    rw [hwarm] at hn
    cases hn
  · exact .refl s

/-! ### Start-up (R179, R180) -/

theorem State.loadBanks_inputs (s : State) : s.loadBanks.1.inputs = s.inputs := by
  unfold State.loadBanks
  simp only
  split
  · split
    · rename_i img _
      have hlists := (State.restoreLists_frame img.lists s.judgeBanks).1
      unfold State.loadImage
      simp only
      rw [hlists]
      rfl
    · rfl
  · rfl

theorem State.runEntry_drains (s : State) (o : Order) (p : PlayerId) : Drains s (s.runEntry o p).1 := by
  unfold State.runEntry
  split
  · exact .refl s
  · split
    · split
      · exact .refl s
      · split
        · exact .refl s
        · have hbind : ∀ l lines, Drains s (s.bindPlayer p l lines) := fun _ _ => .same rfl
          simp only
          split
          · exact hbind _ _
          · exact (hbind _ _).trans ((State.startPlayer_drains _ p _ _ _).trans (.same (State.settle_inputs _ o)))
    · exact .refl s

theorem State.startUpAction_drains (s : State) (o : Order) : Drains s (s.startUpAction o) := by
  unfold State.startUpAction
  split
  · exact .same s.loadBanks_inputs
  · exact .same rfl
  · refine Drains.trans (t := s.autostartTimebase o) ?_ (.same rfl)
    unfold State.autostartTimebase
    split
    · exact s.tbStartAction_drains o
    · exact .refl s
  · split
    · exact (s.runEntry_drains o _).trans (.same rfl)
    · exact .same (State.produce_inputs _ _)
  · exact .refl s

theorem State.startUp_keepsStartUp (s : State) (o : Order) (n : Nat) : KeepsStartUp s (s.startUp o n) := by
  induction n generalizing s with
  | zero => exact .refl s
  | succ n ih =>
    exact KeepsStartUp.trans ⟨(s.startUpAction_drains o).latchesSound, fun h => (State.startUpAction_keeps h o).2⟩ (ih _)

end Sys2Proof.Machine

/-! PROOFS. Every row, and every step: doubled latches stay pending, and what a start-up has not reached yet stays at its start-up
values (O52). -/

namespace Sys2Proof.Machine

theorem KeepsStartUp.of_next {s t u : State} (h : (Host.Outcome.next u : Host.Outcome State Fault Refusal) = .next t)
    (hu : KeepsStartUp s u) : KeepsStartUp s t := by
  cases h; exact hu

/-- A take row whose requests are none of DEVICE_STATUS. -/
theorem KeepsStartUp.of_mine {s t : State} {mine : Frame → Bool} {serve : Frame → State → State × Reply}
    (hmine : ∀ q, mine q = true → q.kind ≠ 0x60) (hserve : ∀ q s, Steady s (serve q s).1)
    (h : (Host.Outcome.next (s.take mine serve) : Host.Outcome State Fault Refusal) = .next t) : KeepsStartUp s t :=
  .of_next h (State.take_keepsStartUp hmine hserve)

/-- A take row of one KIND. -/
theorem KeepsStartUp.of_take {s t : State} {kind : Byte} {serve : Frame → State → State × Reply} (hkind : kind ≠ 0x60)
    (hserve : ∀ q s, Steady s (serve q s).1)
    (h : (Host.Outcome.next (s.take (ofKind kind) serve) : Host.Outcome State Fault Refusal) = .next t) : KeepsStartUp s t :=
  .of_mine (fun q hq => by rw [of_decide_eq_true hq]; exact hkind) hserve h

/-- A row whose requests are of one KIND and of a form takes no DEVICE_STATUS, if that KIND is another. -/
theorem Frame.kind_ne_deviceStatus {q : Frame} {kind : Byte} {form : Bool} (hkind : kind ≠ 0x60)
    (h : (decide (q.kind = kind) && form) = true) : q.kind ≠ 0x60 := by
  rw [of_decide_eq_true (Bool.and_eq_true_iff.mp h).1]
  exact hkind

theorem unknownKind_ne_deviceStatus {q : Frame} (h : unknownKind q = true) : q.kind ≠ 0x60 := fun hkind => by
  rw [unknownKind, hkind] at h
  exact absurd h (by decide)

/-- A row that sets parameters of its own. -/
theorem KeepsStartUp.of_set {s t : State} {ids : List Byte} {own : Byte → Byte → Nat → State → State × Reply}
    (hown : ∀ id index v s, Steady s (own id index v s).1)
    (h : (Host.Outcome.next (s.take (setsParam ids) (serveParamSet own)) : Host.Outcome State Fault Refusal) = .next t) :
    KeepsStartUp s t :=
  .of_mine (fun _ => Frame.kind_ne_deviceStatus (by decide)) (serveParamSet_steady hown) h

/-- DEVICE_STATUS is served while BOOTING too, and reports alone (R163). -/
theorem State.take_deviceStatus (s : State) : (s.take (ofKind 0x60) serveDeviceStatus).startUpView = s.startUpView := by
  unfold State.take
  split
  case h_1 q rest _ _ =>
    split
    · have hanswer : ((s.taking rest).answer q serveDeviceStatus).1 = s.taking rest := by
        unfold State.answer
        split <;> rfl
      change ((((s.taking rest).answer q serveDeviceStatus).1.queueReply q
        ((s.taking rest).answer q serveDeviceStatus).2).transmit).startUpView = _
      rw [hanswer, State.transmit_startUpView]
      rfl
    · rfl
  case h_2 => rfl

/-! ### Rows of events -/

section Events

variable {s t : State} {o : Order} {level : Bool}

theorem execFrameReceived_keepsStartUp {f : Frame} (h : execFrameReceived f s = .next t) : KeepsStartUp s t := by
  refine .of_next h (State.live_keepsStartUp fun s => .same ?_)
  split <;> simp

theorem execLinkBadLength_keepsStartUp {len : Byte} (h : execLinkBadLength len s = .next t) : KeepsStartUp s t := by
  refine .of_next h (State.live_keepsStartUp fun s => .same ?_)
  split <;> simp

theorem execLinkTimeout_keepsStartUp (h : execLinkTimeout s = .next t) : KeepsStartUp s t := by
  refine .of_next h (State.live_keepsStartUp fun s => .same ?_)
  split <;> simp

theorem execSofReceived_keepsStartUp (h : execSofReceived s = .next t) : KeepsStartUp s t := by
  refine .of_next h (State.live_keepsStartUp fun s => .same ?_)
  split <;> simp

theorem State.passMicrosecond_keepsStartUp (s : State) (o : Order) : KeepsStartUp s (s.passMicrosecond o) :=
  .event (s.passMicrosecond_drains o).latchesSound (s.passMicrosecond_undisturbed o)

theorem execInternalTick_keepsStartUp (h : execInternalTick o s = .next t) : KeepsStartUp s t := by
  refine .of_next h (State.live_keepsStartUp fun s => ?_)
  split
  · exact s.passMicrosecond_keepsStartUp o
  · exact .refl s

theorem execTickInEdge_keepsStartUp (h : execTickInEdge o s = .next t) : KeepsStartUp s t := by
  refine .of_next h (State.live_keepsStartUp fun s => .event (Drains.latchesSound ?_) (s.tick_undisturbed .tickIn o))
  split
  · exact s.tick_drains o
  · exact .refl s

/-- SYNC_IN is followed by a part that is not live, and by nothing else of it (log 13). -/
theorem execSyncInEdge_keepsStartUp (h : execSyncInEdge level o s = .next t) : KeepsStartUp s t := by
  unfold execSyncInEdge at h
  split at h
  · exact .of_next h (State.live_keepsStartUp fun s =>
      .event (s.syncChange_drains level o).latchesSound (s.syncChange_undisturbed level o))
  all_goals exact .of_next h (.same rfl)

theorem execSyncOutPulseEnd_keepsStartUp (h : execSyncOutPulseEnd s = .next t) : KeepsStartUp s t := by
  refine .of_next h (State.live_keepsStartUp fun s => ?_)
  split
  · exact .same rfl
  · exact .refl s

theorem State.live_drains {event : State → State} (h : ∀ s, Drains s (event s)) : Drains s (s.live event) := by
  unfold State.live
  split
  · exact (h s).trans (.same (State.transmit_inputs _))
  all_goals exact .refl s

theorem State.phaseRow_drains (s : State) (p : PlayerId) (o : Order) (a : Activity) (ofRow : StepAction → Bool) :
    Drains s (s.phaseRow p o a ofRow) := by
  refine State.live_drains fun s => ?_
  split
  · refine runActors_drains (fun a s' => ?_) _ s
    cases a with
    | player p' =>
      simp only
      split
      · exact s'.phaseEnd_drains p'
      · exact .refl s'
    | safeUnit | superframeNotice => exact .refl s'
  · exact .refl s

theorem State.phaseRow_keepsStartUp (s : State) (p : PlayerId) (o : Order) (a : Activity) (ofRow : StepAction → Bool) :
    KeepsStartUp s (s.phaseRow p o a ofRow) :=
  .event (s.phaseRow_drains p o a ofRow).latchesSound (s.phaseRow_undisturbed p o a ofRow)

/-- HOLD_IN is followed by a part that is not live, and by nothing else of it (log 13). -/
theorem execHoldInChange_keepsStartUp (h : execHoldInChange level o s = .next t) : KeepsStartUp s t := by
  have hheld : KeepsStartUp s { s with safe := { s.safe with holdIn := level } } :=
    .event id ⟨rfl, id, fun _ => id, fun hs => hs.1, fun _ _ => ⟨rfl, id⟩⟩
  unfold execHoldInChange at h
  split at h
  · exact .of_next h (State.live_keepsStartUp fun s =>
      .event (Drains.same (s.holdSample_inputs level o)).latchesSound (s.holdSample_undisturbed level o))
  all_goals exact .of_next h hheld

theorem execStartUpReset_keepsStartUp {cause : ResetCause} (h : execStartUpReset cause s = .next t) : KeepsStartUp s t := by
  unfold execStartUpReset at h
  split at h
  · exact .of_next h (.refl s)
  · exact .of_next h (s.startUpValues_keepsStartUp .held)

theorem execResetNRelease_keepsStartUp (h : execResetNRelease s = .next t) : KeepsStartUp s t := by
  unfold execResetNRelease at h
  split at h
  · exact .of_next h (.same rfl)
  all_goals exact .of_next h (.refl s)

/-- A power failure abandons an operation in flight, and moves nothing else that the conditions read (R150). -/
theorem execPowerFailure_keepsStartUp (h : execPowerFailure s = .next t) : KeepsStartUp s t :=
  .of_next h (.event id ⟨rfl, fun _ => rfl, fun _ => id, fun hs => hs.1, fun _ _ => ⟨rfl, id⟩⟩)

end Events

/-! ### Every row -/

/-- Every row keeps both conditions. -/
theorem exec_keepsStartUp {s t : State} (c : Instr) (h : exec c s = .next t) : KeepsStartUp s t := by
  have hreports : ∀ u : State, Steady u u := .refl
  cases c with
  | listCreate => exact .of_take (by decide) serveListCreate_steady h
  | listAppend => exact .of_take (by decide) serveListAppend_steady h
  | listTruncate => exact .of_take (by decide) serveListTruncate_steady h
  | listSeal => exact .of_take (by decide) serveListSeal_steady h
  | listUnseal => exact .of_take (by decide) serveListUnseal_steady h
  | listDelete => exact .of_take (by decide) serveListDelete_steady h
  | listInfo => exact .of_take (by decide) serveListInfo_steady h
  | listRead => exact .of_take (by decide) serveListRead_steady h
  | storeInfo => exact .of_take (by decide) (fun _ => hreports) h
  | playerBind => exact .of_take (by decide) servePlayerBind_steady h
  | playerUnbind => exact .of_take (by decide) servePlayerUnbind_steady h
  | playerStart o => exact .of_take (by decide) (servePlayerStart_steady o) h
  | playerCancel => exact .of_take (by decide) servePlayerCancel_steady h
  | playerStop => exact .of_take (by decide) servePlayerStop_steady h
  | playerHold => exact .of_take (by decide) servePlayerHold_steady h
  | playerResume o => exact .of_take (by decide) (servePlayerResume_steady o) h
  | playerSetStop => exact .of_take (by decide) servePlayerSetStop_steady h
  | playerClear => exact .of_take (by decide) servePlayerClear_steady h
  | playerStatus => exact .of_take (by decide) (fun _ u => onPlayer_steady fun _ => hreports u) h
  | playerReplace => exact .of_take (by decide) servePlayerReplace_steady h
  | playerWithdraw => exact .of_take (by decide) servePlayerWithdraw_steady h
  | tbStart o => exact .of_take (by decide) (serveTbStart_steady o) h
  | tbStop o => exact .of_take (by decide) (serveTbStop_steady o) h
  | tbStatus => exact .of_take (by decide) (fun _ => hreports) h
  | lineDrive => exact .of_take (by decide) serveLineDrive_steady h
  | lineStatus => exact .of_take (by decide) (fun _ => hreports) h
  | inputRead => exact .of_take (by decide) serveInputRead_steady h
  | safeEnter o => exact .of_take (by decide) (serveSafeEnter_steady o) h
  | safeRelease o => exact .of_take (by decide) (serveSafeRelease_steady o) h
  | safeStatus => exact .of_take (by decide) (fun _ => hreports) h
  | paramGet => exact .of_take (by decide) serveParamGet_steady h
  | paramSet =>
    exact .of_mine (fun _ => Frame.kind_ne_deviceStatus (by decide)) (serveParamSet_steady fun _ _ _ _ => .same rfl rfl) h
  | paramSetStaged => exact .of_set ownStaged_steady h
  | paramSetStoppedClass => exact .of_set ownStoppedClass_steady h
  | paramSetSyncOutSrc => exact .of_set ownSyncOutSrc_steady h
  | paramSetLinkRate => exact .of_set (fun _ _ _ => hreports) h
  | paramSetHoldLevel o => exact .of_set (ownHoldLevel_steady o) h
  | paramSetInEdge => exact .of_set ownInEdge_steady h
  | paramSetInFilter => exact .of_set ownInFilter_steady h
  | paramSetLineIdle | paramSetLineSafe | paramSetNoticeMask => exact .of_set (fun _ _ _ _ => .same rfl rfl) h
  | noticeMute => exact .of_take (by decide) (serveMute_steady true) h
  | noticeUnmute => exact .of_take (by decide) (serveMute_steady false) h
  | imageSave => exact .of_take (by decide) serveImageSave_steady h
  | imageErase => exact .of_take (by decide) serveImageErase_steady h
  | imageInfo => exact .of_take (by decide) (fun _ => hreports) h
  | autostartSet => exact .of_take (by decide) serveAutostartSet_steady h
  | autostartClear => exact .of_take (by decide) serveAutostartClear_steady h
  | autostartRead => exact .of_take (by decide) (fun _ => hreports) h
  | deviceStatus => exact .of_next h (.same s.take_deviceStatus)
  | deviceResetWarm => exact .of_mine (fun _ => Frame.kind_ne_deviceStatus (by decide)) serveResetWarm_steady h
  | deviceResetReload => exact .of_mine (fun _ => Frame.kind_ne_deviceStatus (by decide)) (fun _ _ => .same rfl rfl) h
  | unknownKindRequest => exact .of_mine (fun _ => unknownKind_ne_deviceStatus) (fun _ => hreports) h
  | frameReceived f => exact execFrameReceived_keepsStartUp h
  | linkBadLength len => exact execLinkBadLength_keepsStartUp h
  | linkByteError => exact .of_next h (State.live_keepsStartUp fun s => .same s.byteError_startUpView)
  | linkTimeout => exact execLinkTimeout_keepsStartUp h
  | frameSent => exact .of_next h (State.live_keepsStartUp State.frameEnd_keepsStartUp)
  | internalTick o => exact execInternalTick_keepsStartUp h
  | tickInEdge o => exact execTickInEdge_keepsStartUp h
  | syncInEdge level o => exact execSyncInEdge_keepsStartUp h
  | syncOutPulseEnd => exact execSyncOutPulseEnd_keepsStartUp h
  | setDwellEnd p o => exact .of_next h (s.phaseRow_keepsStartUp p o _ _)
  | pulseTrailingEdge p o => exact .of_next h (s.phaseRow_keepsStartUp p o _ _)
  | pulseDwellEnd p o => exact .of_next h (s.phaseRow_keepsStartUp p o _ _)
  | waitEdgeTimeout p o => exact .of_next h (s.phaseRow_keepsStartUp p o _ _)
  | acceptedChange n o =>
    exact .of_next h (State.live_keepsStartUp fun s =>
      .event (fun hs => State.acceptChange_latchesSound hs n o) (s.acceptChange_undisturbed n o))
  | holdInChange level o => exact execHoldInChange_keepsStartUp h
  | saveCompletion ok => exact .of_next h (State.live_keepsStartUp fun s => s.completeSave_keepsStartUp ok)
  | eraseCompletion ok => exact .of_next h (State.live_keepsStartUp fun s => s.completeErase_keepsStartUp ok)
  | startUpReset cause => exact execStartUpReset_keepsStartUp h
  | imageLoad o => exact .of_next h (State.live_keepsStartUp fun s => s.startUp_keepsStartUp o _)
  | sofReceived => exact execSofReceived_keepsStartUp h
  | inputSample n level o =>
    exact .of_next h (State.live_keepsStartUp fun s =>
      .event (fun hs => State.sample_latchesSound hs n level o) (s.sample_undisturbed n level o))
  | bankATreated ok => exact .of_next h (State.live_keepsStartUp fun s => s.treatedA_keepsStartUp ok)
  | resetNRelease => exact execResetNRelease_keepsStartUp h
  | powerFailure => exact execPowerFailure_keepsStartUp h

/-- Every step keeps both conditions. -/
theorem step_keepsStartUp {s t : State} (h : step s = .next t) : KeepsStartUp s t := by
  unfold step at h
  split at h
  case h_1 c rest _ =>
    have hpop : KeepsStartUp s { s with pending := rest } := .same rfl
    exact hpop.trans (exec_keepsStartUp c h)
  case h_2 =>
    cases h
    exact State.live_keepsStartUp fun s => s.passMicrosecond_keepsStartUp _

/-- Settles O52: play consumes latches at most and an edge leaves its latch pending; while BOOTING a request is refused, and an event
finds the Timebase STOPPED and the players at their start-up values until the start-up reaches them. -/
theorem doubledLatchesStayPending : Obligations.DoubledLatchesStayPending := fun _ _ hlatches hclean h =>
  ⟨(step_keepsStartUp h).latches hlatches, (step_keepsStartUp h).clean hclean⟩

end Sys2Proof.Machine

/-! PROOFS. The report of an input, its samples, and the edges that its accepted changes make (O33, O34). -/

namespace Sys2Proof.Machine

/-! ### INPUT_READ (R126) -/

section InputRead

variable {q : Frame} {s : State} {consume : Byte} {n : InputId}

theorem inputOf_eq_none {b : Byte} (h : 8 ≤ b.toNat) : inputOf b = none := dif_neg (Nat.not_lt.mpr h)

theorem inputOf_below {b : Byte} (h : b.toNat < 8) : ∃ n, inputOf b = some n := ⟨_, dif_pos h⟩

theorem serveInputRead_noSuch {number : Byte} (hq : q.payload = [number, consume]) (h : 8 ≤ number.toNat) :
    serveInputRead q s = (s, Reply.of .noSuch []) := by
  simp only [serveInputRead, hq, inputOf_eq_none h]
  rfl

theorem serveInputRead_badValue {number : Byte} (hq : q.payload = [number, consume]) (h : number.toNat < 8)
    (h0 : consume ≠ 0) (h1 : consume ≠ 1) : serveInputRead q s = (s, Reply.of .badValue []) := by
  obtain ⟨n, hn⟩ := inputOf_below h
  simp only [serveInputRead, hq, hn, if_pos (And.intro h0 h1)]
  rfl

/-- What INPUT_READ reports of an input, without the mark of what it consumed. -/
def State.inputFields (s : State) (n : InputId) : List Byte :=
  let r := s.input n
  [finByte n, byteOf (s.inEdge n).code, markByte r.filtered, markByte r.pending, markByte r.doubled] ++
    (be32 r.stamp.frame.toNat ++ be16 r.stamp.position) ++ [markByte r.level]

/-- A pending latch is reported, then consumed. -/
theorem serveInputRead_consumes (hq : q.payload = [finByte n, 1]) (h : (s.input n).pending = true) :
    serveInputRead q s = (s.clearLatch n, Reply.of .ok (s.inputFields n ++ [1])) := by
  simp [serveInputRead, hq, h, State.inputFields, stampBytes, markByte]

/-- Without a pending latch, or without the wish to consume it, the input is only reported. -/
theorem serveInputRead_reports (hq : q.payload = [finByte n, consume])
    (h : consume = 0 ∨ (consume = 1 ∧ (s.input n).pending = false)) :
    serveInputRead q s = (s, Reply.of .ok (s.inputFields n ++ [0])) := by
  rcases h with rfl | ⟨rfl, hnot⟩
  · simp [serveInputRead, hq, State.inputFields, stampBytes, markByte]
  · simp [serveInputRead, hq, hnot, State.inputFields, stampBytes, markByte]

end InputRead

/-- Settles O33: the two refusals, the read that consumes a pending latch, and the reads that leave it. -/
theorem inputReadReportsAndConsumes : Obligations.InputReadReportsAndConsumes := by
  intro s q rest number consume h
  refine ⟨fun hout => ?_, fun hin h0 h1 => ?_, fun n hn => ⟨fun hconsume hpending => ?_, fun hkeeps => ?_⟩⟩
  · exact State.take_answered h rfl rfl (serveInputRead_noSuch h.payload_eq hout)
  · exact State.take_answered h rfl rfl (serveInputRead_badValue h.payload_eq hin h0 h1)
  · subst hn hconsume
    exact State.take_answered h rfl rfl (serveInputRead_consumes (s := s.taking rest) h.payload_eq hpending)
  · subst hn
    exact State.take_answered h rfl rfl (serveInputRead_reports (s := s.taking rest) h.payload_eq hkeeps)

/-! ### An accepted change and the latch of its edge (R120, R121) -/

/-- The record of an input whose accepted change is taken. -/
def Input.turned (r : Input) : Input := { r with filtered := !r.filtered, candidate := 0, sampled := true }

theorem State.acceptChange_selected {s : State} {n : InputId} (h : (s.inEdge n).selects (!(s.input n).filtered) = true)
    (o : Order) : s.acceptChange n o = ((s.setInput n (s.input n).turned).acceptEdge n o).settle o := if_pos h

theorem State.acceptChange_unselected {s : State} {n : InputId}
    (h : (s.inEdge n).selects (!(s.input n).filtered) = false) (o : Order) :
    s.acceptChange n o = s.setInput n (s.input n).turned :=
  if_neg (by rw [h]; exact Bool.false_ne_true)

theorem exec_acceptedChange_live {s : State} (h : s.phase = .live) (n : InputId) (o : Order) :
    exec (.acceptedChange n o) s = .next (s.acceptChange n o).transmit := congrArg Host.Outcome.next (State.live_live h _)

theorem exec_inputSample_live {s : State} (h : s.phase = .live) (n : InputId) (level : Bool) (o : Order) :
    exec (.inputSample n level o) s = .next (s.sample n level o).transmit := congrArg Host.Outcome.next (State.live_live h _)

/-- A notice is produced whatever the inputs hold. -/
theorem State.setInput_produce (s : State) (n : InputId) (r : Input) (body : NoticeBody) :
    (s.setInput n r).produce body = (s.produce body).setInput n r := by
  have hroom : (s.setInput n r).noticeRoom body = s.noticeRoom body := rfl
  have hadmits : (s.setInput n r).admits body = s.admits body := rfl
  have hstamp : (s.setInput n r).stamp = s.stamp := rfl
  unfold State.produce
  rw [hroom, hadmits, hstamp, State.setInput_notices]
  cases s.admits body with
  | false => rfl
  | true =>
    by_cases hfree : s.notices.queue.length < s.noticeRoom body
    · simp only [if_true, if_pos hfree]; rfl
    · simp only [if_true, if_neg hfree]
      cases mergeNewest body s.stamp s.notices.queue <;> rfl

theorem State.produce_clearLatch (s : State) (n : InputId) (body : NoticeBody) :
    (s.produce body).clearLatch n = (s.clearLatch n).produce body := by
  rw [State.clearLatch, State.clearLatch, State.produce_input, State.setInput_produce]

theorem State.setInput_edgeLatched (s : State) (n : InputId) (r : Input) : (s.setInput n r).edgeLatched n =
    (s.setInput n (r.latchEdge s.stamp)).produce (.inputEdge n r.filtered (r.pending || r.doubled)) := by
  simp only [State.edgeLatched, State.setInput_input_same, State.setInput_setInput]
  rfl

@[simp] theorem State.edgeLatched_input (s : State) (n : InputId) :
    (s.edgeLatched n).input n = (s.input n).latchEdge s.stamp := by
  simp [State.edgeLatched]

/-- A latch that is consumed as its edge is told. -/
theorem State.setInput_edgeConsumed (s : State) (n : InputId) (r : Input) : ((s.setInput n r).edgeLatched n).clearLatch n =
    (s.setInput n (r.latchEdge s.stamp).consumed).produce (.inputEdge n r.filtered (r.pending || r.doubled)) := by
  rw [State.setInput_edgeLatched, State.produce_clearLatch, State.clearLatch, State.setInput_input_same,
    State.setInput_setInput]
  rfl

/-- Who consumes an edge depends on the players and on the steps of lists. -/
theorem State.consumes_congr {s t : State} {p : PlayerId} (hplayer : t.player p = s.player p) (hfixed : t.fixed = s.fixed)
    (n : InputId) : t.consumes n p = s.consumes n p := by
  have hstep : t.currentStep p = s.currentStep p :=
    State.currentStep_congr (State.steps_of_fixed hfixed) (by rw [hplayer]) (by rw [hplayer])
  simp only [State.consumes, hplayer, hstep]

theorem State.edgeLatched_beside (s : State) (p : PlayerId) (n : InputId) : Beside p s (s.edgeLatched n) := by
  rw [State.edgeLatched]
  exact ⟨by simp, by simp, by simp, by simp⟩

theorem State.edgeConsumed_beside (s : State) (p : PlayerId) (n : InputId) : Beside p s ((s.edgeLatched n).clearLatch n) :=
  (s.edgeLatched_beside p n).trans ⟨rfl, rfl, rfl, rfl⟩

@[simp] theorem State.edgeLatched_consumes (s : State) (n : InputId) (p : PlayerId) :
    (s.edgeLatched n).consumes n p = s.consumes n p :=
  State.consumes_congr (s.edgeLatched_beside p n).player (s.edgeLatched_beside p n).fixed n

/-- With a consumer present an edge leaves its latch consumed: nothing in the event latches another. -/
theorem State.acceptEdge_input {s : State} {n : InputId} {p : PlayerId} (o : Order) (h : s.consumes n p = true) :
    (s.acceptEdge n o).input n = ((s.input n).latchEdge s.stamp).consumed := by
  have hcleared : ((s.edgeLatched n).clearLatch n).input n = ((s.input n).latchEdge s.stamp).consumed := by
    rw [State.clearLatch_input_same, State.edgeLatched_input]
  rw [State.acceptEdge_consumed o ((s.edgeLatched_consumes n p).trans h), ← hcleared]
  exact (eachPlayer_drains (fun q u => State.edgePart_drains _ n _ q u) _).input_consumed (by rw [hcleared]; rfl)

/-! ### Samples (R119) -/

section Sample

variable {s : State} {n : InputId} {level : Bool} (o : Order)

theorem State.sample_first (h : (s.input n).sampled = false) : s.sample n level o =
    s.setInput n { s.input n with filtered := level, sampled := true, candidate := 0 } := if_pos h

theorem State.sample_same (h : (s.input n).sampled = true) (hlevel : level = (s.input n).filtered) :
    s.sample n level o = s.setInput n { s.input n with candidate := 0 } := by
  simp only [State.sample, h, Bool.true_eq_false, if_false, if_pos hlevel]

theorem State.sample_counts (h : (s.input n).sampled = true) (hlevel : level ≠ (s.input n).filtered)
    (hcount : (s.input n).candidate + 1 < s.inFilter n + 1) :
    s.sample n level o = s.setInput n { s.input n with candidate := (s.input n).candidate + 1 } := by
  simp only [State.sample, h, Bool.true_eq_false, if_false, if_neg hlevel, if_neg (Nat.not_le.mpr hcount)]

theorem State.sample_accepts (h : (s.input n).sampled = true) (hlevel : level ≠ (s.input n).filtered)
    (hcount : s.inFilter n + 1 ≤ (s.input n).candidate + 1) : s.sample n level o = s.acceptChange n o := by
  simp only [State.sample, h, Bool.true_eq_false, if_false, if_neg hlevel, if_pos hcount]

end Sample

/-! ### The only agent that acts -/

section Alone

variable {o : Order} {p : PlayerId}

theorem runActors_absent {act : Actor → State → State} (hother : ∀ a u, a ≠ .player p → act a u = u) :
    ∀ (actors : List Actor) {s : State}, .player p ∉ actors → s.calm → runActors o act actors s = s
  | [], _, _, _ => rfl
  | a :: rest, s, hnot, hs => by
    obtain ⟨hne, hrest⟩ := not_or.mp (List.mem_cons.not.mp hnot)
    unfold runActors
    simp only [hother a s (Ne.symm hne), State.reachPlayers_clear hs.1]
    exact runActors_absent hother rest hrest hs

/-- Where one agent alone does anything, the agents do what it does. -/
theorem runActors_alone {act : Actor → State → State} (hother : ∀ a u, a ≠ .player p → act a u = u)
    (hown : ∀ u, Calm u (act (.player p) u)) : ∀ (actors : List Actor) {s : State}, actors.Nodup → .player p ∈ actors →
      s.calm → runActors o act actors s = act (.player p) s
  | [], _, _, hmem, _ => by cases hmem
  | a :: rest, s, hnodup, hmem, hs => by
    obtain ⟨hnot, hrest⟩ := List.nodup_cons.mp hnodup
    unfold runActors
    by_cases ha : a = .player p
    · subst ha
      have hcalm := (hown s).calm hs
      simp only [State.reachPlayers_clear hcalm.1]
      exact runActors_absent hother rest hnot hcalm
    · simp only [hother a s ha, State.reachPlayers_clear hs.1]
      exact runActors_alone hother hown rest hrest ((List.mem_cons.mp hmem).resolve_left (Ne.symm ha)) hs

theorem eachPlayer_alone {act : PlayerId → State → State} (hother : ∀ q u, q ≠ p → act q u = u)
    (hown : ∀ u, Calm u (act p u)) {s : State} (hs : s.calm) : eachPlayer o act s = act p s := by
  refine runActors_alone (p := p) (fun a u hne => ?_) hown _ (actorsOf_nodup o) (mem_actorsOf o p) hs
  cases a with
  | player q => exact hother q u fun hq => hne (congrArg Actor.player hq)
  | safeUnit | superframeNotice => rfl

end Alone

/-! ### A RUNNING player that waits for the edge (R54, R123) -/

/-- The player is RUNNING in EDGE_WAIT on its step `st`, a WAIT_EDGE of the input, with nothing due or owed. -/
structure State.AwaitsEdge (s : State) (n : InputId) (p : PlayerId) (st : Step) : Prop where
  running : (s.player p).state = .running
  wait : s.inWait p st n
  due : (s.player p).due = false
  owed : (s.player p).owed = none

theorem State.LeadsOn.beside {s u : State} {p : PlayerId} {st next : Step} (h : s.LeadsOn p st next) (hu : Beside p s u) :
    u.LeadsOn p st next := by
  refine h.congr (State.steps_of_fixed hu.fixed) ?_ ?_ ?_ ?_ <;> rw [hu.player]

namespace State.AwaitsEdge

variable {s u : State} {n : InputId} {p : PlayerId} {st : Step}

theorem step (h : s.AwaitsEdge n p st) : s.currentStep p = some st := by
  obtain ⟨-, ⟨-, hstep, -⟩, -, -⟩ := h
  exact hstep

theorem beside (h : s.AwaitsEdge n p st) (hu : Beside p s u) : u.AwaitsEdge n p st := by
  obtain ⟨hrun, ⟨hactivity, hstep, haction⟩, hdue, howed⟩ := h
  have hcurrent : u.currentStep p = s.currentStep p :=
    State.currentStep_congr (State.steps_of_fixed hu.fixed) (by rw [hu.player]) (by rw [hu.player])
  refine ⟨?_, ⟨?_, hcurrent.trans hstep, haction⟩, ?_, ?_⟩ <;> rw [hu.player] <;> assumption

theorem consumes (h : s.AwaitsEdge n p st) : s.consumes n p = true := by
  obtain ⟨hrun, ⟨hactivity, hstep, timeout, haction⟩, -, -⟩ := h
  simp [State.consumes, hrun, hactivity, hstep, haction]

theorem latched_consumes (h : s.AwaitsEdge n p st) : (s.edgeLatched n).consumes n p = true :=
  (s.edgeLatched_consumes n p).trans h.consumes

/-- The edge ends its step, where it does not fault. -/
theorem edgeReaches_ends (h : s.AwaitsEdge n p st) {doubled : Bool} (hplain : (st.strict && doubled) = false) :
    s.edgeReaches n doubled p = s.endStep p st := by
  have hnot : (s.player p).state ≠ .armed := by simp [h.running]
  have hrecord : { s.player p with due := false } = s.player p := by rw [← h.due]
  simp only [State.edgeReaches, if_neg hnot, h.step, hplain, Bool.false_eq_true, if_false]
  rw [hrecord, State.setPlayer_self]

theorem edgeReaches_faults (h : s.AwaitsEdge n p st) (hs : s.calm) {doubled : Bool} (hstrict : st.strict = true)
    (hdoubled : doubled = true) : s.edgeReaches n doubled p = s.faulted p .edgeDoubled := by
  rw [← State.faultPlayer_eq_faulted hs.2]
  simp only [State.edgeReaches, h.running, h.step, hstrict, hdoubled, reduceCtorEq, if_false, Bool.and_self, if_true]

/-- The player's whole part in the edge, where its step leads on to a plain SET. -/
theorem part_goesOn (h : s.AwaitsEdge n p st) {doubled : Bool} {next : Step} {lines levels : LineSet} {dwell : BitVec 16}
    (hleads : s.LeadsOn p st next) (hnext : next.plainSet lines levels dwell) (hplain : (st.strict && doubled) = false) :
    (s.edgeReaches n doubled p).owedEvent p = (s.writeLines lines levels).setPlayer p ((s.player p).goneOn dwell) := by
  rw [h.edgeReaches_ends hplain, hleads.endStep_plainSet hnext]
  refine State.owedEvent_still ?_
  rw [State.setPlayer_player_same]
  exact h.owed

/-- The player's whole part in the edge, where it faults. -/
theorem part_faults (h : s.AwaitsEdge n p st) (hs : s.calm) {doubled : Bool} (hstrict : st.strict = true)
    (hdoubled : doubled = true) : (s.edgeReaches n doubled p).owedEvent p = s.faulted p .edgeDoubled := by
  rw [h.edgeReaches_faults hs hstrict hdoubled]
  refine State.owedEvent_still ?_
  rw [State.faulted_player]
  rfl

theorem edgePart_eq (h : s.AwaitsEdge n p st) {latched : State} (hconsumes : latched.consumes n p = true) (doubled : Bool) :
    latched.edgePart n doubled p s = (s.edgeReaches n doubled p).owedEvent p := by
  rw [State.edgePart, hconsumes, h.consumes, Bool.and_self, if_pos rfl]

theorem acceptEdge_calm (h : s.AwaitsEdge n p st) (hs : s.calm) (o : Order) : (s.acceptEdge n o).calm := by
  rw [State.acceptEdge_consumed o h.latched_consumes]
  exact eachPlayer_calm o (State.edgePart_calm _ n _) ((s.edgeConsumed_beside p n).calm hs)

/-- Whoever else consumes the edge, the player ends as its own part leaves it. -/
theorem acceptEdge_turn (h : s.AwaitsEdge n p st) (hs : s.calm) (o : Order) : ∃ u, Beside p s u ∧
    (s.acceptEdge n o).player p =
      ((u.edgeReaches n ((s.input n).latchEdge s.stamp).doubled p).owedEvent p).player p := by
  have hconsumes := h.latched_consumes
  have hcleared := s.edgeConsumed_beside p n
  obtain ⟨u, hu, hturn⟩ := eachPlayer_turn o (State.edgePart_calm (s.edgeLatched n) n
    ((s.input n).latchEdge s.stamp).doubled p) (fun q u hne hu => State.edgePart_beside _ hu n _ hne) (hcleared.calm hs)
  refine ⟨u, hcleared.trans hu, ?_⟩
  rw [State.acceptEdge_consumed o hconsumes, hturn, (h.beside (hcleared.trans hu)).edgePart_eq hconsumes]

/-- As the only consumer, the player's part is all that the edge does once it has been latched, told and consumed. -/
theorem acceptEdge_alone (h : s.AwaitsEdge n p st) (hs : s.calm) (o : Order) (hsole : ∀ q, q ≠ p → s.consumes n q = false) :
    s.acceptEdge n o = (((s.edgeLatched n).clearLatch n).edgeReaches n ((s.input n).latchEdge s.stamp).doubled p).owedEvent p := by
  have hconsumes := h.latched_consumes
  have hcleared := s.edgeConsumed_beside p n
  have hother : ∀ q u, q ≠ p → (s.edgeLatched n).edgePart n ((s.input n).latchEdge s.stamp).doubled q u = u :=
    fun q u hne => by simp [State.edgePart, hsole q hne]
  rw [State.acceptEdge_consumed o hconsumes, eachPlayer_alone hother (State.edgePart_calm _ n _ p) (hcleared.calm hs),
    (h.beside hcleared).edgePart_eq hconsumes]

end State.AwaitsEdge

/-! ### Accepted changes of a live part (R120 to R123) -/

/-- The state in which a selected change has been taken, its edge latched and told, and its latch consumed. -/
def State.edgeTold (s : State) (n : InputId) : State :=
  (s.setInput n ((s.input n).turned.latchEdge s.stamp).consumed).produce
    (.inputEdge n (!(s.input n).filtered) ((s.input n).pending || (s.input n).doubled))

theorem State.edgeTold_beside (s : State) (p : PlayerId) (n : InputId) : Beside p s (s.edgeTold n) := by
  rw [State.edgeTold]
  exact ⟨by simp, by simp, by simp, by simp⟩

section Change

variable {s : State} {n : InputId} {p : PlayerId} {st : Step} (o : Order)

/-- Where no consumer is present, a selected change latches and tells its edge. -/
theorem State.acceptChange_latches (hsound : s.safeSound) (hselects : (s.inEdge n).selects (!(s.input n).filtered) = true)
    (hnone : ∀ p, s.consumes n p = false) : s.acceptChange n o = (s.setInput n (s.input n).turned).edgeLatched n := by
  obtain ⟨-, -, -, -, hnobody⟩ := hsound
  have hlatched : ∀ p, ((s.setInput n (s.input n).turned).edgeLatched n).consumes n p = false := fun p => by
    rw [State.edgeLatched_consumes]
    exact hnone p
  rw [State.acceptChange_selected hselects, State.acceptEdge_latched o hlatched]
  refine State.reachPlayers_nobody (fun hnot q => ?_) _ _
  have hbeside := (s.setInput n (s.input n).turned).edgeLatched_beside q n
  rw [hbeside.safe] at hnot
  rw [hbeside.player]
  exact hnobody hnot q

/-- Where a consumer is present, a selected change leaves its latch consumed. -/
theorem State.acceptChange_input (hselects : (s.inEdge n).selects (!(s.input n).filtered) = true)
    (hconsumes : s.consumes n p = true) :
    (s.acceptChange n o).input n = ((s.input n).turned.latchEdge s.stamp).consumed := by
  have hedge := State.acceptEdge_input (s := s.setInput n (s.input n).turned) o hconsumes
  rw [State.setInput_input_same] at hedge
  rw [State.acceptChange_selected hselects, State.input, State.settle_inputs]
  exact hedge

/-- What a selected change makes of a RUNNING player that waits for its edge, alone or among other consumers. -/
theorem exec_acceptedChange_awaits (hlive : s.phase = .live) (hs : s.calm) (h : s.AwaitsEdge n p st)
    (hselects : (s.inEdge n).selects (!(s.input n).filtered) = true) :
    ∃ t u, exec (.acceptedChange n o) s = .next t ∧ Beside p s u ∧
      t.player p = ((u.edgeReaches n ((s.input n).pending || (s.input n).doubled) p).owedEvent p).player p ∧
      ((∀ q, q ≠ p → s.consumes n q = false) →
        t = (((s.edgeTold n).edgeReaches n ((s.input n).pending || (s.input n).doubled) p).owedEvent p).transmit) := by
  have hmoved : Beside p s (s.setInput n (s.input n).turned) := ⟨rfl, rfl, rfl, rfl⟩
  have hwaits := h.beside hmoved
  have hchange : s.acceptChange n o = (s.setInput n (s.input n).turned).acceptEdge n o := by
    rw [State.acceptChange_selected hselects, State.settle_clear o (hwaits.acceptEdge_calm (hmoved.calm hs) o).1]
  have hdoubled : (((s.setInput n (s.input n).turned).input n).latchEdge (s.setInput n (s.input n).turned).stamp).doubled =
      ((s.input n).pending || (s.input n).doubled) := by
    rw [State.setInput_input_same]
    rfl
  obtain ⟨u, hu, hturn⟩ := hwaits.acceptEdge_turn (hmoved.calm hs) o
  refine ⟨_, u, exec_acceptedChange_live hlive n o, hmoved.trans hu, ?_, fun hsole => ?_⟩
  · rw [State.transmit_player, hchange, hturn, hdoubled]
  · rw [hchange, hwaits.acceptEdge_alone (hmoved.calm hs) o hsole, hdoubled, State.setInput_edgeConsumed]
    rfl

end Change

theorem InEdge.selects_eq (e : InEdge) (level : Bool) : e.selects level = match e with
    | .off => false
    | .rise => level
    | .fall => !level
    | .both => true := by
  cases e <;> rfl

/-- Settles O34: a sample by its four cases; a change by what IN_EDGE selects and by who consumes its edge; and the waiting player's
own part in the edge, which goes on or faults. -/
theorem samplesFilterAndLatchEdges : Obligations.SamplesFilterAndLatchEdges := by
  refine ⟨fun s n level o hlive => ?_, fun s n o hlive hsound _ => ?_, fun s n p o st hlive hquiet hrun hwait => ?_⟩
  · rw [exec_inputSample_live hlive, exec_acceptedChange_live hlive]
    refine ⟨fun hfirst => ?_, fun hsampled hsame => ?_, fun hsampled hnew hcount => ?_, fun hsampled hnew hcount => ?_⟩
    · rw [State.sample_first o hfirst]
    · rw [State.sample_same o hsampled hsame]
    · rw [State.sample_counts o hsampled hnew hcount]
    · rw [State.sample_accepts o hsampled hnew hcount]
  · have hselected := (s.inEdge n).selects_eq (!(s.input n).filtered)
    rw [exec_acceptedChange_live hlive]
    refine ⟨fun hunselected => ?_, fun hselects hnone => ?_, fun hselects ⟨p, hp⟩ => ⟨_, rfl, ?_⟩⟩
    · rw [State.acceptChange_unselected (hselected.trans hunselected)]
      rfl
    · rw [State.acceptChange_latches o hsound (hselected.trans hselects) hnone, State.setInput_edgeLatched]
      rfl
    · rw [State.transmit_input, State.acceptChange_input o (hselected.trans hselects) hp]
      rfl
  · intro r level doubled edged hselects
    obtain ⟨-, -, hdue, howed⟩ := id hquiet
    have hawaits : s.AwaitsEdge n p st := ⟨hrun, hwait, hdue p, howed p⟩
    have hedged := s.edgeTold_beside p n
    obtain ⟨t, u, hexec, hu, hplayer, hsole⟩ := exec_acceptedChange_awaits o hlive hquiet.calm hawaits hselects
    refine ⟨fun lines levels dwell hgoes hplain => ⟨t, hexec, ?_, fun hall => ?_⟩,
      fun hstrict hdoubled => ⟨t, hexec, ?_, fun hall => ?_⟩⟩
    · obtain ⟨next, hleads, hnext⟩ := hgoes.leadsOn hawaits.step
      rw [hplayer, (hawaits.beside hu).part_goesOn (hleads.beside hu) hnext hplain, State.setPlayer_player_same, hu.player]
    · obtain ⟨next, hleads, hnext⟩ := hgoes.leadsOn hawaits.step
      rw [hsole hall, (hawaits.beside hedged).part_goesOn (hleads.beside hedged) hnext hplain, hedged.player]
      rfl
    · rw [hplayer, (hawaits.beside hu).part_faults (hu.calm hquiet.calm) hstrict hdoubled, State.faulted_player, hu.player]
    · rw [hsole hall, (hawaits.beside hedged).part_faults (hedged.calm hquiet.calm) hstrict hdoubled, State.faulted,
        hedged.player]
      rfl

end Sys2Proof.Machine

/-! PROOFS. What play does to the safe record (R129, R132): a fault tells the Safe Unit at most, and so a record that R129 allows stays
one. -/

namespace Sys2Proof.Machine

/-! ### A record that R129 allows -/

/-- The safe record is one that R129 allows. -/
def Safe.sound (r : Safe) : Prop :=
  (r.state = .clear ↔ r.causes = Causes.empty) ∧ (r.state = .active ↔ r.holdActive = true) ∧
    (r.state = .active → r.causes.holdLine = true) ∧ (r.faultPlayers ≠ 0 ↔ r.causes.fault = true)

/-- While the safe state is not CLEAR no player is RUNNING or ARMED (R133). -/
def State.stillUnlessClear (s : State) : Prop :=
  s.safe.state ≠ .clear → ∀ p, (s.player p).state ≠ .running ∧ (s.player p).state ≠ .armed

theorem State.safeSound_iff (s : State) : s.safeSound ↔ s.safe.sound ∧ s.stillUnlessClear := by
  simp only [State.safeSound, Safe.sound, State.stillUnlessClear, and_assoc]

/-- From `s` to `t` the safe record stays one that R129 allows. -/
def KeepsSafe (s t : State) : Prop := s.safe.sound → t.safe.sound

namespace KeepsSafe

variable {s t u : State}

theorem refl (s : State) : KeepsSafe s s := id

theorem trans (h1 : KeepsSafe s t) (h2 : KeepsSafe t u) : KeepsSafe s u := fun h => h2 (h1 h)

/-- `KeepsSafe.trans` with the later operation first, which fixes the state between. -/
theorem after (h2 : KeepsSafe t u) (h1 : KeepsSafe s t) : KeepsSafe s u := h1.trans h2

theorem same (h : t.safe = s.safe) : KeepsSafe s t := fun hs => by rw [h]; exact hs

end KeepsSafe

theorem State.produce_keepsSafe (s : State) (body : NoticeBody) : KeepsSafe s (s.produce body) := .same (s.produce_safe body)

theorem State.setPlayer_keepsSafe (s : State) (p : PlayerId) (r : Player) : KeepsSafe s (s.setPlayer p r) := .same rfl

theorem State.rest_keepsSafe (s : State) (p : PlayerId) (a : Activity) (n : Nat) : KeepsSafe s (s.rest p a n) := .same rfl

theorem Causes.fault_ne_empty (c : Causes) : ({ c with fault := true } : Causes) ≠ Causes.empty := fun h =>
  nomatch congrArg Causes.fault h

theorem playerBit_ne_zero (p : PlayerId) : 1#6 <<< p.val ≠ 0 := by
  revert p; decide

/-- The set that a player has joined is not empty. -/
theorem joined_ne_zero (players : BitVec 6) (p : PlayerId) : players ||| (1#6 <<< p.val) ≠ 0 := fun h =>
  playerBit_ne_zero p (BitVec.or_eq_zero_iff.mp h).2

/-! ### A fault tells the Safe Unit (R132) -/

/-- A fault that escalates enters LATCHED from CLEAR, and joins what is there otherwise. -/
theorem State.escalate_keepsSafe (s : State) (p : PlayerId) : KeepsSafe s (s.escalate p) := fun h => by
  obtain ⟨hcauses, hactive, hline, -⟩ := h
  by_cases hclear : s.safe.state = .clear
  · have hidle : s.safe.holdActive = false := Bool.eq_false_iff.mpr fun hon => by
      rw [hclear] at hactive; cases hactive.mpr hon
    rw [State.escalate_enters hclear, State.changeSafe_safe]
    exact ⟨iff_of_false nofun (Causes.fault_ne_empty _), iff_of_false nofun (by simp [hidle]), nofun,
      iff_of_true (playerBit_ne_zero p) rfl⟩
  · obtain ⟨hstate, hjoined, hplayers⟩ := State.escalate_joins hclear p
    have hhold : (s.escalate p).safe.holdActive = s.safe.holdActive := by
      unfold State.escalate
      simp only
      repeat' split
      all_goals simp [State.changeSafe_safe, State.safeNotice]
    refine ⟨?_, ?_, ?_, ?_⟩
    · rw [hstate, hjoined]
      exact iff_of_false hclear (Causes.fault_ne_empty _)
    · rw [hstate, hhold]; exact hactive
    · rw [hstate, hjoined]; exact hline
    · rw [hplayers, hjoined]
      exact iff_of_true (joined_ne_zero _ p) rfl

theorem State.faultPlayer_keepsSafe (s : State) (p : PlayerId) (cause : FaultCause) : KeepsSafe s (s.faultPlayer p cause) := by
  have hfaulted : KeepsSafe s (s.faulted p cause) := .same (s.faulted_safe p cause)
  rw [State.faultPlayer_eq]
  split
  · exact hfaulted.trans (State.escalate_keepsSafe _ p)
  · exact hfaulted

/-! ### The end of a step -/

@[simp] theorem State.commitRecord_safe (s : State) (p : PlayerId) (new : ListId) (point : CommitPoint) :
    (s.commitRecord p new point).safe = s.safe := by
  simp [State.commitRecord]

@[simp] theorem State.commitAtPassEnd_safe (s : State) (p : PlayerId) : (s.commitAtPassEnd p).safe = s.safe := by
  unfold State.commitAtPassEnd; split <;> simp

@[simp] theorem State.endRun_safe (s : State) (p : PlayerId) (cause : RunEndCause) : (s.endRun p cause).safe = s.safe := by
  simp [State.endRun]

@[simp] theorem State.holdQuestion_safe (s : State) (p : PlayerId) (st : Step) : (s.holdQuestion p st).1.safe = s.safe := by
  unfold State.holdQuestion; simp only; split <;> simp

@[simp] theorem State.passEnd_safe (s : State) (p : PlayerId) (st : Step) : (s.passEnd p st).1.safe = s.safe := by
  unfold State.passEnd; simp only; split
  · simp
  · split
    · simp
    · split <;> simp

@[simp] theorem State.resolve_safe (s : State) (p : PlayerId) (st : Step) : (s.resolve p st).1.safe = s.safe := by
  unfold State.resolve; simp only; split
  · simp
  · split <;> simp

/-! ### Admissions -/

theorem State.beginWait_keepsSafe (s : State) (p : PlayerId) (st : Step) (n : InputId) (timeout : BitVec 16) :
    KeepsSafe s (s.beginWait p st n timeout).1 := by
  have hlatch : KeepsSafe s (s.clearLatch n) := .same rfl
  unfold State.beginWait
  simp only
  split
  · split
    · exact .same rfl
    · split
      · exact hlatch.trans (State.faultPlayer_keepsSafe _ p _)
      · exact hlatch
  · exact s.rest_keepsSafe p _ _

theorem State.beginStep_keepsSafe (s : State) (p : PlayerId) (st : Step) : KeepsSafe s (s.beginStep p st).1 := by
  refine KeepsSafe.trans (t := s.noteBegin p st) (.same (by rw [s.noteBegin_frame])) ?_
  unfold State.beginStep
  simp only
  split
  case h_3 => exact State.beginWait_keepsSafe _ p st _ _
  case h_2 => exact .same rfl
  all_goals split <;> exact .same rfl

theorem State.admitStep_keepsSafe (s : State) (p : PlayerId) : KeepsSafe s (s.admitStep p).1 := by
  unfold State.admitStep
  split
  · exact .refl s
  · split
    · split
      · exact s.faultPlayer_keepsSafe p _
      · exact s.beginStep_keepsSafe p _
      · exact s.rest_keepsSafe p _ _
    · exact s.beginStep_keepsSafe p _

theorem State.admitNext_keepsSafe (s : State) (p : PlayerId) : KeepsSafe s (s.admitNext p).1 := by
  unfold State.admitNext
  simp only
  split
  · split
    · exact s.setPlayer_keepsSafe p _
    · exact (s.setPlayer_keepsSafe p _).trans (State.admitStep_keepsSafe _ p)
  · exact s.admitStep_keepsSafe p

theorem chain_keepsSafe : ∀ (fuel : Nat) (p : PlayerId) (s : State), KeepsSafe s (chain fuel p s)
  | 0, _, s => .refl s
  | fuel + 1, p, s => by
    have hadmit := s.admitNext_keepsSafe p
    unfold chain
    split
    case h_1 s1 h => rw [h] at hadmit; exact hadmit
    case h_2 s1 st h =>
      rw [h] at hadmit
      have hresolve : KeepsSafe s1 (s1.resolve p st).1 := .same (s1.resolve_safe p st)
      split
      case h_1 s2 h2 => rw [h2] at hresolve; exact (hadmit.trans hresolve).trans (chain_keepsSafe fuel p s2)
      case h_2 s2 h2 => rw [h2] at hresolve; exact hadmit.trans hresolve

theorem State.admitChain_keepsSafe (s : State) (p : PlayerId) : KeepsSafe s (s.admitChain p) := chain_keepsSafe _ p s

theorem State.endStep_keepsSafe (s : State) (p : PlayerId) (st : Step) : KeepsSafe s (s.endStep p st) := by
  have hresolve : KeepsSafe s (s.resolve p st).1 := .same (s.resolve_safe p st)
  unfold State.endStep
  split
  case h_1 s1 h => rw [h] at hresolve; exact hresolve.trans (s1.admitChain_keepsSafe p)
  case h_2 s1 h => rw [h] at hresolve; exact hresolve

theorem State.follow_keepsSafe (a : State × Admission) (p : PlayerId) : KeepsSafe a.1 (State.follow a p) := by
  unfold State.follow
  split
  · exact .refl _
  · exact State.endStep_keepsSafe _ p _

theorem State.beginRun_keepsSafe (s : State) (p : PlayerId) (cause : StartCause) : KeepsSafe s (s.beginRun p cause) :=
  .after (State.admitChain_keepsSafe _ p) (.same (by simp))

theorem State.startPlayer_keepsSafe (s : State) (p : PlayerId) (sp : StartPoint) (limit : Nat) (stop : Option Nat) :
    KeepsSafe s (s.startPlayer p sp limit stop) := by
  unfold State.startPlayer
  simp only
  split
  · exact .after (State.beginRun_keepsSafe _ p _) (.same rfl)
  all_goals exact .same rfl

/-! ### Phases that end, commits at a superframe start, resumes -/

@[simp] theorem State.trailingEdge_safe (s : State) (st : Step) : (s.trailingEdge st).safe = s.safe := by
  rw [s.trailingEdge_frame]

theorem State.phaseEnd_keepsSafe (s : State) (p : PlayerId) : KeepsSafe s (s.phaseEnd p) := by
  have hcounted : KeepsSafe s (s.counted p) := .same rfl
  unfold State.phaseEnd
  simp only
  split
  · refine hcounted.trans ?_
    split
    · exact State.endStep_keepsSafe _ p _
    · split
      · exact .after (State.endStep_keepsSafe _ p _) (.same (State.trailingEdge_safe _ _))
      · exact .same (State.trailingEdge_safe _ _)
    · unfold State.expire
      split
      · exact State.faultPlayer_keepsSafe _ p _
      · exact State.endStep_keepsSafe _ p _
    · exact .refl _
  · exact .refl s

@[simp] theorem State.abandonStep_safe (s : State) (p : PlayerId) : (s.abandonStep p).safe = s.safe := by
  unfold State.abandonStep; simp only; split <;> simp

theorem State.commitSuper_keepsSafe (s : State) (p : PlayerId) : KeepsSafe s (s.commitSuper p) := by
  unfold State.commitSuper
  split
  case h_1 new _ =>
    have hcommit : KeepsSafe s ((s.abandonStep p).commitRecord p new .superframe) := .same (by simp)
    simp only
    split
    · exact hcommit.trans (State.admitChain_keepsSafe _ p)
    all_goals exact hcommit
  case h_2 => exact .refl s

theorem State.resumeWait_keepsSafe (s : State) (p : PlayerId) (st : Step) (n : InputId) : KeepsSafe s (s.resumeWait p st n) := by
  have hlatch : KeepsSafe s (s.clearLatch n) := .same rfl
  unfold State.resumeWait
  simp only
  split
  · split
    · exact hlatch.trans (State.faultPlayer_keepsSafe _ p _)
    · exact hlatch.trans (State.endStep_keepsSafe _ p _)
  · exact .refl s

theorem State.resumePlayer_keepsSafe (s : State) (p : PlayerId) : KeepsSafe s (s.resumePlayer p) := by
  have hunheld : KeepsSafe s (s.unheld p) := .same rfl
  refine hunheld.trans ?_
  unfold State.resumePlayer
  simp only
  split
  · exact State.admitChain_keepsSafe _ p
  · split
    · exact State.resumeWait_keepsSafe _ p _ _
    all_goals exact .refl _
  · split
    · split
      · exact State.endStep_keepsSafe _ p _
      · exact .refl _
    all_goals exact .refl _
  · exact .refl _

theorem State.autoResume_keepsSafe (s : State) (o : Order) (super : Bool) (p : PlayerId) :
    KeepsSafe s (s.autoResume o super p) := by
  unfold State.autoResume
  simp only
  split
  · split
    · exact .after (State.commitSuper_keepsSafe _ p) (.same rfl)
    · exact s.resumePlayer_keepsSafe p
  · exact .refl s

/-! ### Events on one player -/

theorem State.countTick_keepsSafe (s : State) (o : Order) (p : PlayerId) : KeepsSafe s (s.countTick o p) := by
  unfold State.countTick
  simp only
  split
  · split
    · exact .after (State.phaseEnd_keepsSafe _ p) (.same rfl)
    · exact .same rfl
  · exact .same rfl

theorem State.alignEvent_keepsSafe (s : State) (p : PlayerId) (ev : TbEvent) : KeepsSafe s (s.alignEvent p ev) := by
  unfold State.alignEvent
  split
  · split
    · split
      · exact s.endStep_keepsSafe p _
      · exact .refl s
    all_goals exact .refl s
  · exact .refl s

theorem State.fitEvent_keepsSafe (s : State) (p : PlayerId) (ev : TbEvent) : KeepsSafe s (s.fitEvent p ev) := by
  unfold State.fitEvent
  split
  · split
    · exact s.faultPlayer_keepsSafe p _
    · exact (s.beginStep_keepsSafe p _).trans (State.follow_keepsSafe _ p)
    · exact .refl s
  · exact .refl s

theorem State.runningEvent_keepsSafe (s : State) (o : Order) (p : PlayerId) (ev : TbEvent) :
    KeepsSafe s (s.runningEvent o p ev) := by
  have hcount : ∀ b : Bool, KeepsSafe s (if b then s.countTick o p else s) := fun b => by
    split
    · exact s.countTick_keepsSafe o p
    · exact .refl s
  unfold State.runningEvent
  simp only
  split
  · split
    · exact .after (State.admitChain_keepsSafe _ p) (.same rfl)
    · exact .refl s
  · split
    · exact hcount _
    · exact hcount _
    · exact hcount _
    · exact s.alignEvent_keepsSafe p ev
    · exact s.fitEvent_keepsSafe p ev
    · exact .refl s

theorem State.superEvent_keepsSafe (s : State) (o : Order) (p : PlayerId) (ev : TbEvent) : KeepsSafe s (s.superEvent o p ev) := by
  unfold State.superEvent
  split
  · split
    · exact (s.beginRun_keepsSafe p _).trans (State.commitSuper_keepsSafe _ p)
    · exact (s.commitSuper_keepsSafe p).trans (State.beginRun_keepsSafe _ p _)
  · exact s.commitSuper_keepsSafe p

theorem State.playerEvent_keepsSafe (s : State) (o : Order) (ev : TbEvent) (before : PlayerState) (p : PlayerId) :
    KeepsSafe s (s.playerEvent o ev before p) := by
  unfold State.playerEvent
  simp only
  split
  · exact s.superEvent_keepsSafe o p ev
  · split
    · exact s.runningEvent_keepsSafe o p ev
    · split
      · exact s.beginRun_keepsSafe p _
      · exact .refl s
    · exact .refl s

theorem State.handTo_keepsSafe (s : State) (o : Order) (ev : TbEvent) (before : Player) (p : PlayerId) :
    KeepsSafe s (s.handTo o ev before p) := by
  unfold State.handTo
  simp only
  split
  · split
    · exact .same rfl
    · exact .refl s
  · exact s.playerEvent_keepsSafe o ev _ p

theorem State.owedEvent_keepsSafe (s : State) (p : PlayerId) : KeepsSafe s (s.owedEvent p) := by
  unfold State.owedEvent
  simp only
  split
  · exact .after (State.playerEvent_keepsSafe _ _ _ _ p) (.same rfl)
  · exact .refl s

theorem State.edgeReaches_keepsSafe (s : State) (n : InputId) (doubled : Bool) (p : PlayerId) :
    KeepsSafe s (s.edgeReaches n doubled p) := by
  unfold State.edgeReaches
  simp only
  split
  · exact s.beginRun_keepsSafe p _
  · split
    · split
      · exact s.faultPlayer_keepsSafe p _
      · exact .after (State.endStep_keepsSafe _ p _) (.same rfl)
    · exact .refl s

end Sys2Proof.Machine

/-! PROOFS. Events leave no player RUNNING or ARMED outside CLEAR (R133), and keep a safe record that R129 allows. -/

namespace Sys2Proof.Machine

/-! ### The reach of an entry (R133) -/

@[simp] theorem State.reachPlayers_exempt_safe (s : State) (players exempt : List PlayerId) :
    (s.reachPlayers players exempt).safe = s.safe := by
  rw [State.reachPlayers_exempt, State.reachPlayers_safe]

/-- An entry that reaches every player leaves none RUNNING or ARMED. -/
theorem State.reachPlayers_stillUnlessClear (s : State) {players : List PlayerId} (hall : ∀ p, p ∈ players) :
    (s.reachPlayers players []).stillUnlessClear := fun hclear p => by
  rw [State.reachPlayers_safe] at hclear
  rw [(State.reachPlayers_all hclear players).2, if_pos (hall p)]
  exact (s.player p).frozen_state

theorem State.settle_stillUnlessClear (s : State) (o : Order) : (s.settle o).stillUnlessClear :=
  s.reachPlayers_stillUnlessClear (mem_playersOf o)

/-- After the last of some agents an entry reaches every player, so that it leaves none RUNNING or ARMED. -/
theorem runActors_stillUnlessClear {o : Order} {act : Actor → State → State} :
    ∀ (actors : List Actor) (s : State), actors ≠ [] → (runActors o act actors s).stillUnlessClear
  | [], _, h => absurd rfl h
  | [a], s, _ => (act a s).reachPlayers_stillUnlessClear (mem_playersOf o)
  | _ :: b :: rest, _, _ => runActors_stillUnlessClear (b :: rest) _ (List.cons_ne_nil b rest)

theorem actorsOf_ne_nil (o : Order) : actorsOf o ≠ [] := List.ne_nil_of_mem (mem_actorsOf o 0)

theorem eachPlayer_stillUnlessClear (o : Order) (act : PlayerId → State → State) (s : State) :
    (eachPlayer o act s).stillUnlessClear := runActors_stillUnlessClear _ s (actorsOf_ne_nil o)

theorem State.handOut_stillUnlessClear (s : State) (o : Order) (ev : TbEvent) : (s.handOut o ev).stillUnlessClear :=
  runActors_stillUnlessClear _ s (actorsOf_ne_nil o)

/-! ### What keeps the record sound and the players still -/

/-- From `s` to `t` the safe record stays one that R129 allows, and outside CLEAR no player comes to be RUNNING or ARMED. -/
structure Guards (s t : State) : Prop where
  record : KeepsSafe s t
  still : s.safeSound → t.stillUnlessClear

namespace Guards

variable {s t u : State}

theorem safeSound (h : Guards s t) (hs : s.safeSound) : t.safeSound :=
  t.safeSound_iff.mpr ⟨h.record (s.safeSound_iff.mp hs).1, h.still hs⟩

theorem refl (s : State) : Guards s s := ⟨.refl s, fun h => (s.safeSound_iff.mp h).2⟩

theorem trans (h1 : Guards s t) (h2 : Guards t u) : Guards s u :=
  ⟨h1.record.trans h2.record, fun h => h2.still (h1.safeSound h)⟩

/-- `Guards.trans` with the later change first, which fixes the state between. -/
theorem after (h2 : Guards t u) (h1 : Guards s t) : Guards s u := h1.trans h2

/-- The safe record stays, and a player comes to be RUNNING or ARMED only where it was. -/
theorem players (hs : t.safe = s.safe)
    (hp : ∀ p, (t.player p).state = (s.player p).state ∨ (t.player p).state ≠ .running ∧ (t.player p).state ≠ .armed) :
    Guards s t := by
  refine ⟨.same hs, fun h hclear p => ?_⟩
  rw [hs] at hclear
  rcases hp p with e | hstill
  · rw [e]; exact (s.safeSound_iff.mp h).2 hclear p
  · exact hstill

/-- Neither the safe record nor a player moves. -/
theorem aside (hs : t.safe = s.safe) (hp : t.players = s.players) : Guards s t :=
  players hs fun p => .inl (by simp only [State.player, hp])

/-- One player's record moves, to RUNNING or ARMED only from there. -/
theorem put {p : PlayerId} {r : Player}
    (hr : r.state = (s.player p).state ∨ r.state ≠ .running ∧ r.state ≠ .armed) : Guards s (s.setPlayer p r) := by
  refine players rfl fun p' => ?_
  rw [s.setPlayer_player]
  split
  case isTrue e => rw [e]; exact hr
  case isFalse => exact .inl rfl

/-- An event after which an entry has reached every player. -/
theorem event (hr : KeepsSafe s t) (hs : t.stillUnlessClear) : Guards s t := ⟨hr, fun _ => hs⟩

/-- Every player stands at its start-up values. -/
theorem blank (hr : KeepsSafe s t) (hp : ∀ p, t.player p = Player.blank) : Guards s t :=
  event hr fun _ p => by rw [hp]; exact ⟨nofun, nofun⟩

end Guards

theorem State.produce_guards (s : State) (body : NoticeBody) : Guards s (s.produce body) :=
  .aside (s.produce_safe body) (s.produce_players body)

theorem State.transmit_guards (s : State) : Guards s s.transmit := .aside s.transmit_safe s.transmit_players

theorem State.live_guards {s : State} {event : State → State} (h : ∀ s, Guards s (event s)) : Guards s (s.live event) := by
  unfold State.live
  split
  · exact (h s).trans (State.transmit_guards _)
  all_goals exact .refl s

/-- A take keeps what its block's own part keeps. -/
theorem State.take_guards {s : State} {mine : Frame → Bool} {serve : Frame → State → State × Reply}
    (h : ∀ q s, Guards s (serve q s).1) : Guards s (s.take mine serve) := by
  unfold State.take
  split
  case h_1 q rest _ _ =>
    split
    · have hanswer : Guards (s.taking rest) ((s.taking rest).answer q serve).1 := by
        unfold State.answer
        split
        · exact .refl _
        · exact h q _
      refine Guards.trans (t := s.taking rest) (.aside rfl rfl) (hanswer.trans ?_)
      exact .after (State.transmit_guards _) (.aside rfl rfl)
    · exact .refl s
  case h_2 => exact .refl s

/-! ### Events that reach several players -/

theorem runActors_keepsSafe {o : Order} {act : Actor → State → State} (h : ∀ a s, KeepsSafe s (act a s)) :
    ∀ (actors : List Actor) (s : State), KeepsSafe s (runActors o act actors s)
  | [], s => .refl s
  | a :: rest, s => by
    unfold runActors
    exact ((h a s).trans (.same (State.reachPlayers_exempt_safe _ _ _))).trans (runActors_keepsSafe h rest _)

theorem eachPlayer_keepsSafe {o : Order} {act : PlayerId → State → State} (h : ∀ p s, KeepsSafe s (act p s)) (s : State) :
    KeepsSafe s (eachPlayer o act s) := by
  refine runActors_keepsSafe (fun a s => ?_) _ s
  cases a with
  | player p => exact h p s
  | safeUnit | superframeNotice => exact .refl s

theorem State.settle_guards {s t : State} (h : KeepsSafe s t) (o : Order) : Guards s (t.settle o) :=
  .event (h.trans (.same (State.reachPlayers_safe _ _))) (t.settle_stillUnlessClear o)

theorem State.owedNow_guards (s : State) (p : PlayerId) : Guards s (s.owedNow p) := by
  unfold State.owedNow
  split
  · exact .event ((s.owedEvent_keepsSafe p).trans (.same (State.reachPlayers_safe _ _)))
      (State.reachPlayers_stillUnlessClear _ (by decide))
  · exact .refl s

theorem State.catchUp_guards (s : State) (o : Order) : Guards s (s.catchUp o) :=
  .event (eachPlayer_keepsSafe (fun p s => (s.phaseEnd_keepsSafe p).trans (State.owedEvent_keepsSafe _ p)) s)
    (eachPlayer_stillUnlessClear o _ s)

/-! ### The Safe Unit (R130 to R137) -/

/-- A release to CLEAR of a state that is LATCHED, which is one with hold active no (R129). -/
theorem State.releaseSafe_guards {s : State} (h : s.safe.state = .latched) (o : Order) (super : Bool) :
    Guards s (s.releaseSafe o super) := by
  have hclear : KeepsSafe s (s.changeSafe .clear Causes.empty 0) := fun hs => by
    obtain ⟨-, hactive, -⟩ := hs
    rw [State.changeSafe_safe]
    refine ⟨iff_of_true rfl rfl, iff_of_false nofun fun hon => ?_, nofun, iff_of_false (not_not_intro rfl) nofun⟩
    rw [h] at hactive
    cases hactive.mpr hon
  unfold State.releaseSafe
  simp only
  split
  · exact .event (hclear.trans (eachPlayer_keepsSafe (fun p s => s.autoResume_keepsSafe o super p) _))
      (eachPlayer_stillUnlessClear o _ _)
  · exact .event hclear fun hnot => absurd (by rw [State.changeSafe_safe]) hnot

theorem State.autoRelease_guards (s : State) (o : Order) : Guards s (s.autoRelease o) := by
  unfold State.autoRelease
  split
  case isTrue h =>
    simp only [Bool.and_eq_true, decide_eq_true_eq] at h
    exact State.releaseSafe_guards h.1.2 o true
  case isFalse => exact .refl s

/-- A change of a safe state that is not CLEAR to one that is not either. -/
theorem State.changeSafe_guards {s t : State} {state : SafeState} {causes : Causes} {players : BitVec 6}
    (hr : s.safe.sound → (t.changeSafe state causes players).safe.sound)
    (hs : s.safe.state ≠ .clear) (hp : t.players = s.players) : Guards s (t.changeSafe state causes players) := by
  refine ⟨hr, fun h _ p => ?_⟩
  have hplayer : (t.changeSafe state causes players).player p = s.player p := by
    rw [t.changeSafe_frame]; simp only [State.player, hp]
  rw [hplayer]
  exact (s.safeSound_iff.mp h).2 hs p

/-- Hold active judged anew enters ACTIVE, joins HOLD_LINE, or latches (R130). -/
theorem State.judgeHold_keepsSafe (s : State) (o : Order) (active : Bool) : KeepsSafe s (s.judgeHold o active) := fun h => by
  obtain ⟨hcauses, hactive, hline, hplayers⟩ := h
  unfold State.judgeHold
  simp only
  split
  · exact ⟨hcauses, hactive, hline, hplayers⟩
  case isFalse hnew =>
    split
    case isTrue hon =>
      have hoff : s.safe.holdActive = false := by rw [hon] at hnew; exact Bool.eq_false_iff.mpr (Ne.symm hnew)
      have hnot : s.safe.state ≠ .active := fun e => by rw [hactive.mp e] at hoff; cases hoff
      split
      case h_1 hstate =>
        rw [State.enterSafe, State.reachPlayers_safe, State.changeSafe_safe]
        have hempty : s.safe.causes = Causes.empty := hcauses.mp hstate
        rw [hempty] at hplayers
        exact ⟨iff_of_false nofun nofun, iff_of_true rfl hon, fun _ => rfl, hplayers⟩
      case h_2 hstate =>
        rw [State.changeSafe_safe]
        refine ⟨iff_of_false nofun fun e => (nomatch congrArg Causes.holdLine e), iff_of_true rfl hon, fun _ => rfl, hplayers⟩
      case h_3 hstate => exact absurd hstate hnot
    case isFalse hoff =>
      have hheld : s.safe.holdActive = true := by
        rw [Bool.not_eq_true] at hoff; rw [hoff] at hnew; simpa using Ne.symm hnew
      split
      case h_1 hstate =>
        rw [State.changeSafe_safe]
        rw [hstate] at hcauses
        exact ⟨iff_of_false nofun fun e => (nomatch hcauses.mpr e), iff_of_false nofun hoff, nofun, hplayers⟩
      all_goals
        rename_i hstate
        rw [hactive.mpr hheld] at hstate
        cases hstate

theorem serveSafeEnter_guards (o : Order) (q : Frame) (s : State) : Guards s (serveSafeEnter o q s).1 := by
  unfold serveSafeEnter
  simp only
  split
  case isTrue hclear =>
    refine State.settle_guards (fun h => ?_) o
    obtain ⟨hcauses, hactive, -, hplayers⟩ := h
    have hstate : s.safe.state = .clear := s.safeClear_iff.mp hclear
    have hempty : s.safe.causes = Causes.empty := hcauses.mp hstate
    rw [hempty] at hplayers
    rw [hstate] at hactive
    rw [State.enterSafe, State.reachPlayers_safe, State.changeSafe_safe]
    exact ⟨iff_of_false nofun nofun, iff_of_false nofun fun hon => (nomatch hactive.mpr hon), nofun, hplayers⟩
  case isFalse hclear =>
    have hnot : s.safe.state ≠ .clear := fun e => hclear (s.safeClear_iff.mpr e)
    split
    · exact .refl s
    · refine State.changeSafe_guards (fun h => ?_) hnot rfl
      obtain ⟨hcauses, hactive, hline, hplayers⟩ := h
      rw [State.changeSafe_safe]
      exact ⟨iff_of_false hnot fun e => (nomatch congrArg Causes.request e), hactive, hline, hplayers⟩

theorem serveSafeRelease_guards (o : Order) (q : Frame) (s : State) : Guards s (serveSafeRelease o q s).1 := by
  unfold serveSafeRelease
  split
  case h_1 h => exact State.settle_guards (State.releaseSafe_guards h o false).record o
  all_goals exact .refl s

/-! ### The Timebase -/

theorem State.handOut_guards (s : State) (o : Order) (ev : TbEvent) : Guards s (s.handOut o ev) := by
  refine .event (runActors_keepsSafe (fun a s' => ?_) _ s) (s.handOut_stillUnlessClear o ev)
  cases a with
  | player p => exact s'.handTo_keepsSafe o ev _ p
  | safeUnit =>
    simp only
    split
    · exact (s'.autoRelease_guards o).record
    · exact .refl s'
  | superframeNotice =>
    simp only
    split
    · exact s'.produce_keepsSafe _
    · exact .refl s'

@[simp] theorem State.commitNotice_safe (s before : State) : (s.commitNotice before).safe = s.safe := by
  unfold State.commitNotice
  split
  · rfl
  · exact s.produce_safe _

/-- A frame start, where the notices before it leave the safe record. -/
theorem State.frameStart_guards (s : State) (o : Order) (index : Nat) {first : State → State} (tick sync : Bool)
    (h : ∀ s, (first s).safe = s.safe) : Guards s (s.frameStart o index first tick sync) := by
  refine .event (.after (State.handOut_guards _ o _).record (.same ?_)) (State.handOut_stillUnlessClear _ o _)
  rw [State.commitNotice_safe, h, State.syncOutAtFrame_frame, State.countFrame_frame]

theorem State.tick_guards (s : State) (o : Order) : Guards s (s.tick o) := by
  have hstart : KeepsSafe s ((s.catchUp o).syncOutAtTick).clearPassBegun :=
    (s.catchUp_guards o).record.trans (.same (by rw [State.syncOutAtTick_frame]; rfl))
  unfold State.tick
  simp only
  split
  · exact .event (hstart.trans (.after (State.handOut_guards _ o _).record (.same rfl))) (State.handOut_stillUnlessClear _ o _)
  · exact .event (hstart.trans (State.frameStart_guards _ o _ true false fun _ => rfl).record)
      (State.handOut_stillUnlessClear _ o _)

theorem State.setTbState_guards (s : State) (state : TbState) : Guards s (s.setTbState state) :=
  .aside (by rw [s.setTbState_frame]) (by rw [s.setTbState_frame])

theorem State.tbNotice_guards (s : State) (e : TbEventKind) (r : Option Stamp) : Guards s (s.tbNotice e r) := s.produce_guards _

theorem State.beginTbRun_guards (s : State) (o : Order) (st : TbState) (sync : Bool) : Guards s (s.beginTbRun o st sync) :=
  .after (State.frameStart_guards _ o 0 false sync fun u => u.produce_safe _)
    ((s.setTbState_guards st).trans (.aside rfl rfl))

theorem State.tbStartAction_guards (s : State) (o : Order) : Guards s (s.tbStartAction o) := by
  unfold State.tbStartAction
  split
  case h_3 => exact s.setTbState_guards _
  all_goals exact s.beginTbRun_guards o _ _

theorem State.tbStopAction_guards (s : State) : Guards s s.tbStopAction := by
  refine .after (State.tbNotice_guards _ _ _) ((s.setTbState_guards .stopped).trans ?_)
  split <;> exact .aside rfl rfl

theorem serveTbStart_guards (o : Order) (q : Frame) (s : State) : Guards s (serveTbStart o q s).1 := by
  have hstart : Guards s ((s.catchUp o).tbStartAction o) := (s.catchUp_guards o).trans (State.tbStartAction_guards _ o)
  unfold serveTbStart
  split
  · simp only
    split <;> exact hstart
  all_goals exact .refl s

theorem serveTbStop_guards (o : Order) (q : Frame) (s : State) : Guards s (serveTbStop o q s).1 := by
  unfold serveTbStop
  split
  · exact .refl s
  all_goals exact (s.catchUp_guards o).trans (State.tbStopAction_guards _)

/-- Every active edge is handed out by a state with the same safe record. -/
theorem State.activeEdge_guards (s : State) (o : Order) : Guards s (s.activeEdge o) := by
  unfold State.activeEdge
  split
  · exact s.beginTbRun_guards o _ _
  · split
    · unfold State.mergeEdge
      simp only
      split
      · exact .after (State.handOut_guards _ o _) (.aside rfl rfl)
      · refine .event (.after (State.handOut_guards _ o _).record (.same ?_)) (State.handOut_stillUnlessClear _ o _)
        rw [State.commitNotice_safe, State.raiseIf_frame]
        rfl
    · exact .after (State.frameStart_guards _ o 0 false true fun _ => rfl) (.aside rfl rfl)
  · exact ((s.setTbState_guards _).trans (State.tbNotice_guards _ _ _)).trans (State.handOut_guards _ o _)
  · exact s.handOut_guards o _

theorem State.inactiveEdge_guards (s : State) : Guards s s.inactiveEdge := by
  unfold State.inactiveEdge
  split
  · exact (s.setTbState_guards _).trans (State.tbNotice_guards _ _ _)
  · exact .refl s

theorem State.syncChange_guards (s : State) (level : Bool) (o : Order) : Guards s (s.syncChange level o) := by
  unfold State.syncChange
  simp only
  split
  · exact .refl s
  · refine (s.catchUp_guards o).trans ?_
    split
    · exact .after (State.activeEdge_guards _ o) (.aside rfl rfl)
    · exact .after (State.inactiveEdge_guards _) (.aside rfl rfl)

theorem State.divide_guards (s : State) (o : Order) : Guards s (s.divide o) := by
  unfold State.divide
  split
  · exact .after (State.tick_guards _ o) (.aside rfl rfl)
  · split
    · exact .aside rfl rfl
    · exact .refl s

theorem State.passMicrosecond_guards (s : State) (o : Order) : Guards s (s.passMicrosecond o) := by
  have hbyte : Guards s s.timeByte := .aside (by rw [s.timeByte_frame]) (by rw [s.timeByte_frame])
  have hhold : Guards s.timeByte s.timeByte.endSyncHold :=
    .aside (by rw [State.endSyncHold_frame]) (by rw [State.endSyncHold_frame])
  exact ((hbyte.trans hhold).trans (State.catchUp_guards _ o)).trans (State.divide_guards _ o)

/-! ### Phase ends, inputs and HOLD_IN -/

theorem State.phaseRow_guards (s : State) (p : PlayerId) (o : Order) (a : Activity) (ofRow : StepAction → Bool) :
    Guards s (s.phaseRow p o a ofRow) := by
  refine State.live_guards fun s => ?_
  split
  · refine .event (runActors_keepsSafe (fun a s' => ?_) _ s) (runActors_stillUnlessClear _ s (List.cons_ne_nil _ _))
    cases a with
    | player p' =>
      simp only
      split
      · exact s'.phaseEnd_keepsSafe p'
      · exact .refl s'
    | safeUnit | superframeNotice => exact .refl s'
  · exact .refl s

theorem State.acceptEdge_keepsSafe (s : State) (n : InputId) (o : Order) : KeepsSafe s (s.acceptEdge n o) := by
  unfold State.acceptEdge
  simp only
  split
  · refine .after (eachPlayer_keepsSafe (fun p s' => ?_) _) (.same (State.produce_safe _ _))
    split
    · exact (s'.edgeReaches_keepsSafe n _ p).trans (State.owedEvent_keepsSafe _ p)
    · exact .refl s'
  · exact .same (State.produce_safe _ _)

theorem State.acceptChange_guards (s : State) (n : InputId) (o : Order) : Guards s (s.acceptChange n o) := by
  have hmoved : ∀ r, KeepsSafe s (s.setInput n r) := fun _ => .same rfl
  unfold State.acceptChange
  simp only
  split
  · exact State.settle_guards ((hmoved _).trans (State.acceptEdge_keepsSafe _ n o)) o
  · exact .aside rfl rfl

theorem State.sample_guards (s : State) (n : InputId) (level : Bool) (o : Order) : Guards s (s.sample n level o) := by
  unfold State.sample
  simp only
  split
  · exact .aside rfl rfl
  · split
    · exact .aside rfl rfl
    · split
      · exact s.acceptChange_guards n o
      · exact .aside rfl rfl

theorem State.holdSample_guards (s : State) (level : Bool) (o : Order) : Guards s (s.holdSample level o) := by
  have hlevel : KeepsSafe s { s with safe := { s.safe with holdIn := level } } := id
  unfold State.holdSample
  simp only
  split
  · exact State.settle_guards (hlevel.trans (State.judgeHold_keepsSafe _ o _)) o
  · exact ⟨hlevel, fun h => (s.safeSound_iff.mp h).2⟩

end Sys2Proof.Machine

/-! PROOFS. Each block's requests, link events, resets and start-up, and then every row and every step: the safe record stays one that
R129 allows, and no player plays outside CLEAR (O57). -/

namespace Sys2Proof.Machine

/-! ### Requests of the Cue Store (R11 to R20) -/

theorem State.changeList_guards {s : State} {b : Byte} {own : ListId → State × Reply} (h : ∀ l, Guards s (own l).1) :
    Guards s (s.changeList b own).1 := by
  unfold State.changeList
  split
  · exact .refl s
  · split
    · exact .refl s
    · exact h _

theorem serveListCreate_guards (q : Frame) (s : State) : Guards s (serveListCreate q s).1 := by
  unfold serveListCreate
  repeat' split
  all_goals exact .aside rfl rfl

theorem serveListAppend_guards (q : Frame) (s : State) : Guards s (serveListAppend q s).1 := by
  unfold serveListAppend
  split
  · refine State.changeList_guards fun l => ?_
    repeat' split
    all_goals exact .aside rfl rfl
  · exact .refl s

theorem serveListTruncate_guards (q : Frame) (s : State) : Guards s (serveListTruncate q s).1 := by
  unfold serveListTruncate
  split
  · refine State.changeList_guards fun l => ?_
    simp only
    repeat' split
    all_goals exact .aside rfl rfl
  · exact .refl s

theorem serveListSeal_guards (q : Frame) (s : State) : Guards s (serveListSeal q s).1 := by
  unfold serveListSeal
  split
  · refine State.changeList_guards fun l => ?_
    simp only
    repeat' split
    all_goals exact .aside rfl rfl
  · exact .refl s

theorem serveListUnseal_guards (q : Frame) (s : State) : Guards s (serveListUnseal q s).1 := by
  unfold serveListUnseal
  split
  · refine State.changeList_guards fun l => ?_
    simp only
    repeat' split
    all_goals exact .aside rfl rfl
  · exact .refl s

theorem serveListDelete_guards (q : Frame) (s : State) : Guards s (serveListDelete q s).1 := by
  unfold serveListDelete
  split
  · refine State.changeList_guards fun l => ?_
    simp only
    repeat' split
    all_goals exact .aside rfl rfl
  · exact .refl s

theorem serveListInfo_guards (q : Frame) (s : State) : Guards s (serveListInfo q s).1 := by
  unfold serveListInfo
  repeat' split
  all_goals exact .refl s

theorem serveListRead_guards (q : Frame) (s : State) : Guards s (serveListRead q s).1 := by
  unfold serveListRead
  simp only
  repeat' split
  all_goals exact .refl s

/-! ### Requests of the players (R70 to R94) -/

theorem onPlayer_guards {q : Frame} {s : State} {own : PlayerId → State × Reply} (h : ∀ p, Guards s (own p).1) :
    Guards s (onPlayer q s own).1 := by
  unfold onPlayer
  split
  · split
    · exact h _
    · exact .refl s
  · exact .refl s

theorem thenOwed_guards {s : State} (p : PlayerId) {a : State × Reply} (h : Guards s a.1) : Guards s (thenOwed p a).1 :=
  h.trans (State.owedNow_guards _ p)

theorem State.useUp_guards (s : State) (l : ListId) : Guards s (s.useUp l) := .aside rfl rfl

theorem State.useDownOpt_guards (s : State) (l : Option ListId) : Guards s (s.useDownOpt l) :=
  .aside (s.useDownOpt_safe l) (s.useDownOpt_players l)

theorem State.idleLines_guards (s : State) (lines : LineSet) : Guards s (s.idleLines lines) := .aside rfl rfl

theorem State.claimLines_guards (s : State) (p : PlayerId) (lines : LineSet) : Guards s (s.claimLines p lines) :=
  .aside (s.claimLines_safe p lines) (s.claimLines_players p lines)

theorem State.bindPlayer_guards (s : State) (p : PlayerId) (l : ListId) (lines : LineSet) :
    Guards s (s.bindPlayer p l lines) :=
  .after (State.useUp_guards _ l) (.after (State.claimLines_guards _ p lines) (.put (.inr ⟨nofun, nofun⟩)))

theorem servePlayerBind_guards (q : Frame) (s : State) : Guards s (servePlayerBind q s).1 := by
  unfold servePlayerBind
  simp only
  repeat' split
  case h_2 => exact s.bindPlayer_guards _ _ _
  all_goals exact .refl s

theorem servePlayerUnbind_guards (q : Frame) (s : State) : Guards s (servePlayerUnbind q s).1 := by
  have hunbind : ∀ p, Guards s (s.unbindPlayer p) := fun p =>
    .after (.put (.inr ⟨nofun, nofun⟩)) (.aside (by simp) (by simp))
  refine onPlayer_guards fun p => ?_
  split
  · exact hunbind p
  · exact hunbind p
  all_goals exact .refl s

theorem servePlayerStart_guards (o : Order) (q : Frame) (s : State) : Guards s (servePlayerStart o q s).1 := by
  unfold servePlayerStart
  split
  · split
    · exact .refl s
    · split
      · exact .refl s
      · split
        · exact .refl s
        · split
          · exact .refl s
          · exact .refl s
          · exact .refl s
          · exact thenOwed_guards _ (State.settle_guards (s.startPlayer_keepsSafe _ _ _ _) o)
          · exact thenOwed_guards _ (State.settle_guards (s.startPlayer_keepsSafe _ _ _ _) o)
          · split
            · exact .refl s
            · exact thenOwed_guards _ (.put (.inl rfl))
  · exact .refl s

theorem servePlayerCancel_guards (q : Frame) (s : State) : Guards s (servePlayerCancel q s).1 := by
  refine onPlayer_guards fun p => ?_
  split
  · exact thenOwed_guards p (.put (.inr ⟨nofun, nofun⟩))
  all_goals exact .refl s

/-- A stop takes its player to BOUND, where a PASS_END replacement commits (R78). -/
theorem State.stopPlayer_guards (s : State) (p : PlayerId) : Guards s (s.stopPlayer p) := by
  have hcommit : ∀ u : State, Guards u (u.commitAtPassEnd p) := fun u => by
    unfold State.commitAtPassEnd
    split
    · rw [State.commitRecord_eq]
      exact .after (State.produce_guards _ _) (.after (State.useDownOpt_guards _ _) (.put (.inl rfl)))
    · exact .refl u
  exact .after (hcommit _) (.after (.put (.inr ⟨nofun, nofun⟩)) (s.idleLines_guards _))

theorem servePlayerStop_guards (q : Frame) (s : State) : Guards s (servePlayerStop q s).1 := by
  refine onPlayer_guards fun p => ?_
  simp only
  split
  case h_4 => exact .refl s
  case h_5 | h_6 => exact .refl s
  all_goals exact thenOwed_guards p (s.stopPlayer_guards p)

theorem servePlayerHold_guards (q : Frame) (s : State) : Guards s (servePlayerHold q s).1 := by
  have hhold : ∀ p, Guards s (s.setPlayer p { s.player p with holdPending := true }) := fun p => .put (.inl rfl)
  refine onPlayer_guards fun p => ?_
  simp only
  split
  · exact thenOwed_guards p (hhold p)
  · split
    · exact thenOwed_guards p (hhold p)
    · exact .refl s
  all_goals exact .refl s

theorem servePlayerResume_guards (o : Order) (q : Frame) (s : State) : Guards s (servePlayerResume o q s).1 := by
  refine onPlayer_guards fun p => ?_
  split
  · exact .refl s
  · split
    · exact thenOwed_guards p (State.settle_guards (s.resumePlayer_keepsSafe p) o)
    all_goals exact .refl s

theorem servePlayerSetStop_guards (q : Frame) (s : State) : Guards s (servePlayerSetStop q s).1 := by
  unfold servePlayerSetStop
  split
  · split
    · exact .refl s
    · simp only
      split
      · exact .refl s
      · exact thenOwed_guards _ (.put (.inl rfl))
  · exact .refl s

theorem servePlayerClear_guards (q : Frame) (s : State) : Guards s (servePlayerClear q s).1 := by
  refine onPlayer_guards fun p => ?_
  simp only
  split
  · exact .put (.inr ⟨nofun, nofun⟩)
  all_goals exact .refl s

theorem servePlayerReplace_guards (q : Frame) (s : State) : Guards s (servePlayerReplace q s).1 := by
  have happly : ∀ p l, Guards s (s.applyReplacement p l) := fun p l =>
    .after (State.useDownOpt_guards _ _) (.after (State.useDownOpt_guards _ _)
      (.after (State.useUp_guards _ l) (.put (.inl rfl))))
  have hpend : ∀ p l point, Guards s (s.pendReplacement p l point) := fun p l point =>
    .after (State.useDownOpt_guards _ _) (.after (State.useUp_guards _ l) (.put (.inl rfl)))
  unfold servePlayerReplace
  split
  · split
    · split
      · exact .refl s
      · simp only
        split
        · exact .refl s
        · split
          · split
            · exact .refl s
            · split
              · exact thenOwed_guards _ (happly _ _)
              · split <;> exact thenOwed_guards _ (hpend _ _ _)
          · exact .refl s
    · exact .refl s
  · exact .refl s

theorem servePlayerWithdraw_guards (q : Frame) (s : State) : Guards s (servePlayerWithdraw q s).1 := by
  refine onPlayer_guards fun p => ?_
  simp only
  split
  · exact thenOwed_guards p (.after (State.useDownOpt_guards _ (some _)) (.put (.inl rfl)))
  · exact .refl s

/-! ### Requests of lines, inputs and parameters -/

theorem serveLineDrive_guards (q : Frame) (s : State) : Guards s (serveLineDrive q s).1 := by
  unfold serveLineDrive
  simp only
  repeat' split
  all_goals exact .aside rfl rfl

theorem serveInputRead_guards (q : Frame) (s : State) : Guards s (serveInputRead q s).1 := by
  unfold serveInputRead
  split
  · split
    · exact .refl s
    · split
      · exact .refl s
      · simp only
        split <;> exact .aside rfl rfl
  · exact .refl s

theorem serveParamGet_guards (q : Frame) (s : State) : Guards s (serveParamGet q s).1 := by
  unfold serveParamGet
  repeat' split
  all_goals exact .refl s

theorem serveParamSet_guards {own : Byte → Byte → Nat → State → State × Reply}
    (h : ∀ id index v s, Guards s (own id index v s).1) (q : Frame) (s : State) : Guards s (serveParamSet own q s).1 := by
  unfold serveParamSet
  split
  · simp only
    split
    · exact .refl s
    · split
      · exact .refl s
      · exact h _ _ _ s
  · exact .refl s

theorem ownStaged_guards (id index : Byte) (v : Nat) (s : State) : Guards s (ownStaged id index v s).1 := by
  unfold ownStaged State.paramReply
  split <;> simp only <;> split <;> exact .aside rfl rfl

theorem ownStoppedClass_guards (id index : Byte) (v : Nat) (s : State) : Guards s (ownStoppedClass id index v s).1 := by
  unfold ownStoppedClass
  split <;> exact .aside rfl rfl

theorem ownSyncOutSrc_guards (id index : Byte) (v : Nat) (s : State) : Guards s (ownSyncOutSrc id index v s).1 := by
  unfold ownSyncOutSrc State.paramReply
  simp only
  split <;> exact .aside rfl rfl

theorem ownHoldLevel_guards (o : Order) (id index : Byte) (v : Nat) (s : State) : Guards s (ownHoldLevel o id index v s).1 := by
  have hlevel : KeepsSafe s { s with params := { s.params with holdLevel := decide (v = 1) } } := .same rfl
  exact State.settle_guards (hlevel.trans (State.judgeHold_keepsSafe _ o _)) o

theorem ownInEdge_guards (id index : Byte) (v : Nat) (s : State) : Guards s (ownInEdge id index v s).1 := by
  unfold ownInEdge State.paramReply
  split
  · simp only
    split <;> exact .aside rfl rfl
  · exact .refl s

theorem ownInFilter_guards (id index : Byte) (v : Nat) (s : State) : Guards s (ownInFilter id index v s).1 := by
  unfold ownInFilter
  split <;> exact .aside rfl rfl

/-! ### Requests of notices, images, the autostart table and the device -/

theorem serveMute_guards (on : Bool) (q : Frame) (s : State) : Guards s (serveMute on q s).1 := by
  unfold serveMute
  split <;> exact .aside rfl rfl

@[simp] theorem State.setBank_safe (s : State) (k : BankId) (b : Bank) : (s.setBank k b).safe = s.safe := by cases k <;> rfl

@[simp] theorem State.setHeader_safe (s : State) (k : BankId) (st : BankState) : (s.setHeader k st).safe = s.safe := by
  cases k <;> rfl

@[simp] theorem State.setHeader_players (s : State) (k : BankId) (st : BankState) :
    (s.setHeader k st).players = s.players := by
  cases k <;> rfl

theorem serveImageSave_guards (q : Frame) (s : State) : Guards s (serveImageSave q s).1 := by
  unfold serveImageSave
  split
  · exact .refl s
  · split
    · exact .refl s
    · exact .aside (State.setHeader_safe _ _ _) (State.setHeader_players _ _ _)

theorem serveImageErase_guards (q : Frame) (s : State) : Guards s (serveImageErase q s).1 := by
  unfold serveImageErase
  split <;> exact .aside rfl rfl

theorem serveAutostartSet_guards (q : Frame) (s : State) : Guards s (serveAutostartSet q s).1 := by
  unfold serveAutostartSet serveAutoEntry serveAutoFlag
  repeat' split
  all_goals exact .aside rfl rfl

theorem serveAutostartClear_guards (q : Frame) (s : State) : Guards s (serveAutostartClear q s).1 := by
  unfold serveAutostartClear
  repeat' split
  all_goals exact .aside rfl rfl

/-! ### Resets (R140, R164, R179) -/

/-- HOLD_IN judged at a reset makes the record that its level gives, whatever the record was (R140). -/
theorem State.judgeHoldAtBoot_sound (s : State) : s.judgeHoldAtBoot.safe.sound := by
  unfold State.judgeHoldAtBoot
  simp only
  by_cases hactive : s.safe.holdIn = s.params.holdLevel
  · simp [Safe.sound, hactive, Causes.empty]
  · simp [Safe.sound, hactive, Causes.empty]

theorem serveResetWarm_guards (q : Frame) (s : State) : Guards s (serveResetWarm q s).1 := by
  unfold serveResetWarm
  split
  · exact .blank (fun _ => State.judgeHoldAtBoot_sound _) State.replicate_player
  · exact .refl s

theorem Safe.idle.sound {r : Safe} (h : r.idle) : r.sound := by
  obtain ⟨hstate, hcauses, hplayers, hactive⟩ := h
  simp [Safe.sound, hstate, hcauses, hplayers, hactive, Causes.empty]

theorem State.startUpValues_guards (s : State) (phase : Phase) : Guards s { s.startUpValues with phase := phase } :=
  .blank (fun _ => Safe.idle.sound ⟨rfl, rfl, rfl, rfl⟩) State.replicate_player

/-! ### Image operations and link events -/

theorem State.completeSave_guards (s : State) (ok : Bool) : Guards s (s.completeSave ok) := by
  unfold State.completeSave
  split
  · split
    all_goals exact .aside (by simp [State.endOp, State.judgeBanks]) (by simp [State.endOp, State.judgeBanks])
  all_goals exact .refl s

theorem State.treatedA_guards (s : State) (ok : Bool) : Guards s (s.treatedA ok) := by
  unfold State.treatedA
  split <;> exact .aside rfl rfl

theorem State.completeErase_guards (s : State) (ok : Bool) : Guards s (s.completeErase ok) := by
  unfold State.completeErase
  split
  · exact .after (State.produce_guards _ _) (.aside rfl rfl)
  all_goals exact .refl s

theorem Guards.of_view {s t : State} (h : t.startUpView = s.startUpView) : Guards s t :=
  .aside (congrArg StartUpView.safe h) (congrArg StartUpView.players h)

theorem State.frameEnd_guards (s : State) : Guards s s.frameEnd := by
  have hend : ∀ (u : State) (e : ReplyEffect), Guards u (u.replyEnd e) := fun u e => by
    cases e with
    | plain => exact .refl u
    | setRate r => exact .aside rfl rfl
    | reload => exact u.startUpValues_guards .live
  unfold State.frameEnd
  split
  · exact .refl s
  · simp only
    split
    · exact .after (hend _ _) (.aside rfl rfl)
    · exact .aside rfl rfl

/-! ### Start-up (R179, R180) -/

/-- An entry is started in CLEAR alone (R180). -/
theorem State.runEntry_guards (s : State) (o : Order) (p : PlayerId) : Guards s (s.runEntry o p).1 := by
  unfold State.runEntry
  split
  · exact .refl s
  · split
    · split
      · exact .refl s
      · split
        · exact .refl s
        · simp only
          split
          · exact s.bindPlayer_guards p _ _
          · exact (s.bindPlayer_guards p _ _).trans (State.settle_guards (State.startPlayer_keepsSafe _ p _ _ _) o)
    · exact .refl s

/-- No player has been started yet as HOLD_IN is judged (R179 step 3; log 42). -/
theorem State.startUpAction_guards {s : State} (h : s.bootClean) (o : Order) : Guards s (s.startUpAction o) := by
  unfold State.startUpAction
  split
  · obtain ⟨hplayers, -, hsafe, -⟩ := s.loadBanks_frame
    exact .aside hsafe hplayers
  case h_2 load hb =>
    obtain ⟨-, hp, -⟩ : s.image.op = .none ∧ (∀ p, s.player p = Player.blank) ∧ s.tb.state = .stopped ∧ s.safe.idle := by
      simpa only [State.bootClean, hb] using h
    exact .blank (fun _ => s.judgeHoldAtBoot_sound) hp
  · refine Guards.trans (t := s.autostartTimebase o) ?_ (.aside rfl rfl)
    unfold State.autostartTimebase
    split
    · exact s.tbStartAction_guards o
    · exact .refl s
  · split
    · exact (s.runEntry_guards o _).trans (.aside rfl rfl)
    · exact (s.produce_guards _).trans (.aside rfl rfl)
  · exact .refl s

theorem State.startUp_guards (o : Order) : ∀ (n : Nat) {s : State}, s.bootClean → Guards s (s.startUp o n)
  | 0, s, _ => .refl s
  | n + 1, s, h => by
    rw [State.startUp_succ]
    exact (State.startUpAction_guards h o).trans (State.startUp_guards o n (State.startUpAction_keeps h o).2)

/-! ### Every row and every step -/

theorem Guards.of_next {s t u : State} (h : (Host.Outcome.next u : Host.Outcome State Fault Refusal) = .next t)
    (hu : Guards s u) : Guards s t := by
  cases h; exact hu

theorem Guards.of_take {s t : State} {mine : Frame → Bool} {serve : Frame → State → State × Reply}
    (hserve : ∀ q s, Guards s (serve q s).1)
    (h : (Host.Outcome.next (s.take mine serve) : Host.Outcome State Fault Refusal) = .next t) : Guards s t :=
  .of_next h (State.take_guards hserve)

/-- The row of an event of a live part. -/
theorem Guards.of_live {s t : State} {event : State → State} (hevent : ∀ s, Guards s (event s))
    (h : (Host.Outcome.next (s.live event) : Host.Outcome State Fault Refusal) = .next t) : Guards s t :=
  .of_next h (State.live_guards hevent)

/-- The row of an event of a live part that takes place where a condition holds. -/
theorem Guards.of_live_if {s t : State} {c : State → Prop} {_ : ∀ s, Decidable (c s)} {event : State → State}
    (hevent : ∀ s, Guards s (event s))
    (h : (Host.Outcome.next (s.live fun s => if c s then event s else s) : Host.Outcome State Fault Refusal) = .next t) :
    Guards s t :=
  .of_live (fun s => by
    split
    · exact hevent s
    · exact .refl s) h

/-- SYNC_IN is followed by a part that is not live, and by nothing else of it (log 13). -/
theorem execSyncInEdge_guards {s t : State} {level : Bool} {o : Order} (h : execSyncInEdge level o s = .next t) :
    Guards s t := by
  unfold execSyncInEdge at h
  split at h
  · exact .of_live (fun s => s.syncChange_guards level o) h
  all_goals exact .of_next h (.aside rfl rfl)

/-- HOLD_IN is followed by a part that is not live, and by nothing else of it (log 13). -/
theorem execHoldInChange_guards {s t : State} {level : Bool} {o : Order} (h : execHoldInChange level o s = .next t) :
    Guards s t := by
  have hheld : Guards s { s with safe := { s.safe with holdIn := level } } := ⟨id, fun h => (s.safeSound_iff.mp h).2⟩
  unfold execHoldInChange at h
  split at h
  · exact .of_live (fun s => s.holdSample_guards level o) h
  all_goals exact .of_next h hheld

theorem execStartUpReset_guards {s t : State} {cause : ResetCause} (h : execStartUpReset cause s = .next t) : Guards s t := by
  unfold execStartUpReset at h
  split at h
  · exact .of_next h (.refl s)
  · exact .of_next h (s.startUpValues_guards .held)

theorem execResetNRelease_guards {s t : State} (h : execResetNRelease s = .next t) : Guards s t := by
  unfold execResetNRelease at h
  split at h
  all_goals exact .of_next h (.aside rfl rfl)

/-- Every row keeps the record sound and the players still, given what a start-up has not reached yet. -/
theorem exec_guards {s t : State} (c : Instr) (hb : s.bootClean) (h : exec c s = .next t) : Guards s t := by
  have hreports : ∀ u : State, Guards u u := .refl
  cases c with
  | listCreate => exact .of_take serveListCreate_guards h
  | listAppend => exact .of_take serveListAppend_guards h
  | listTruncate => exact .of_take serveListTruncate_guards h
  | listSeal => exact .of_take serveListSeal_guards h
  | listUnseal => exact .of_take serveListUnseal_guards h
  | listDelete => exact .of_take serveListDelete_guards h
  | listInfo => exact .of_take serveListInfo_guards h
  | listRead => exact .of_take serveListRead_guards h
  | playerBind => exact .of_take servePlayerBind_guards h
  | playerUnbind => exact .of_take servePlayerUnbind_guards h
  | playerStart o => exact .of_take (servePlayerStart_guards o) h
  | playerCancel => exact .of_take servePlayerCancel_guards h
  | playerStop => exact .of_take servePlayerStop_guards h
  | playerHold => exact .of_take servePlayerHold_guards h
  | playerResume o => exact .of_take (servePlayerResume_guards o) h
  | playerSetStop => exact .of_take servePlayerSetStop_guards h
  | playerClear => exact .of_take servePlayerClear_guards h
  | playerStatus => exact .of_take (fun _ u => onPlayer_guards fun _ => hreports u) h
  | playerReplace => exact .of_take servePlayerReplace_guards h
  | playerWithdraw => exact .of_take servePlayerWithdraw_guards h
  | tbStart o => exact .of_take (serveTbStart_guards o) h
  | tbStop o => exact .of_take (serveTbStop_guards o) h
  | lineDrive => exact .of_take serveLineDrive_guards h
  | inputRead => exact .of_take serveInputRead_guards h
  | safeEnter o => exact .of_take (serveSafeEnter_guards o) h
  | safeRelease o => exact .of_take (serveSafeRelease_guards o) h
  | storeInfo | tbStatus | lineStatus | safeStatus | imageInfo | autostartRead | deviceStatus | unknownKindRequest =>
    exact .of_take (fun _ => hreports) h
  | paramGet => exact .of_take serveParamGet_guards h
  | paramSetStaged => exact .of_take (serveParamSet_guards ownStaged_guards) h
  | paramSetStoppedClass => exact .of_take (serveParamSet_guards ownStoppedClass_guards) h
  | paramSetSyncOutSrc => exact .of_take (serveParamSet_guards ownSyncOutSrc_guards) h
  | paramSetLinkRate => exact .of_take (serveParamSet_guards fun _ _ _ => hreports) h
  | paramSetHoldLevel o => exact .of_take (serveParamSet_guards (ownHoldLevel_guards o)) h
  | paramSetInEdge => exact .of_take (serveParamSet_guards ownInEdge_guards) h
  | paramSetInFilter => exact .of_take (serveParamSet_guards ownInFilter_guards) h
  | paramSet | paramSetLineIdle | paramSetLineSafe | paramSetNoticeMask =>
    exact .of_take (serveParamSet_guards fun _ _ _ _ => .aside rfl rfl) h
  | noticeMute => exact .of_take (serveMute_guards true) h
  | noticeUnmute => exact .of_take (serveMute_guards false) h
  | imageSave => exact .of_take serveImageSave_guards h
  | imageErase => exact .of_take serveImageErase_guards h
  | autostartSet => exact .of_take serveAutostartSet_guards h
  | autostartClear => exact .of_take serveAutostartClear_guards h
  | deviceResetWarm => exact .of_take serveResetWarm_guards h
  | deviceResetReload => exact .of_take (fun _ _ => .aside rfl rfl) h
  | frameReceived f => exact .of_live_if (fun s => .of_view (s.rxBytes_startUpView _)) h
  | linkBadLength len => exact .of_live_if (fun s => .of_view (s.rxByte_startUpView _)) h
  | linkByteError => exact .of_live (fun s => .of_view s.byteError_startUpView) h
  | linkTimeout => exact .of_live_if (fun s => .of_view (s.linkError_startUpView _)) h
  | frameSent => exact .of_live State.frameEnd_guards h
  | internalTick o => exact .of_live_if (fun s => s.passMicrosecond_guards o) h
  | tickInEdge o => exact .of_live_if (fun s => s.tick_guards o) h
  | syncInEdge level o => exact execSyncInEdge_guards h
  | syncOutPulseEnd => exact .of_live_if (event := State.lowerSyncOut) (fun _ => .aside rfl rfl) h
  | setDwellEnd p o | pulseTrailingEdge p o | pulseDwellEnd p o | waitEdgeTimeout p o =>
    exact .of_next h (s.phaseRow_guards p o _ _)
  | acceptedChange n o => exact .of_live (fun s => s.acceptChange_guards n o) h
  | holdInChange level o => exact execHoldInChange_guards h
  | saveCompletion ok => exact .of_live (fun s => s.completeSave_guards ok) h
  | eraseCompletion ok => exact .of_live (fun s => s.completeErase_guards ok) h
  | startUpReset cause => exact execStartUpReset_guards h
  | imageLoad o =>
    refine .of_next h ?_
    unfold State.live
    split
    · exact (State.startUp_guards o _ hb).trans (State.transmit_guards _)
    all_goals exact .refl s
  | sofReceived => exact .of_live_if (fun s => .of_view (s.rxByte_startUpView _)) h
  | inputSample n level o => exact .of_live (fun s => s.sample_guards n level o) h
  | bankATreated ok => exact .of_live (fun s => s.treatedA_guards ok) h
  | resetNRelease => exact execResetNRelease_guards h
  | powerFailure => exact .of_next h (.aside rfl rfl)

theorem step_guards {s t : State} (hb : s.bootClean) (h : step s = .next t) : Guards s t := by
  unfold step at h
  split at h
  case h_1 c rest _ =>
    have hpop : Guards s { s with pending := rest } := .aside rfl rfl
    exact hpop.trans (exec_guards c hb h)
  case h_2 => exact .of_live (fun s => s.passMicrosecond_guards _) h

/-- Settles O57: a fault or HOLD_IN moves the record as R129 allows, an event ends with an entry's reach on every player, and while
BOOTING no player has been started as HOLD_IN is judged. -/
theorem noPlayerPlaysInASafeState : Obligations.NoPlayerPlaysInASafeState := fun _ _ hclean hsound h =>
  (step_guards hclean h).safeSound hsound

end Sys2Proof.Machine

/-! PROOFS. The status requests (O38): each report reads the records as they are, and a set of players has a player's bit where the
condition holds of it. -/

namespace Sys2Proof.Machine

/-! ### Sets of players (R159) -/

theorem one_shiftLeft_player_getLsbD : ∀ p q : PlayerId, (1#6 <<< q.val).getLsbD p.val = decide (p = q) := by decide

/-- A set gathered player by player: a bit stands that stood before, or whose player has been met and satisfies the condition. -/
theorem foldl_players_getLsbD (f : PlayerId → Bool) (p : PlayerId) (l : List PlayerId) (acc : BitVec 6) :
    (l.foldl (fun acc q => if f q then acc ||| (1#6 <<< q.val) else acc) acc).getLsbD p.val =
      (acc.getLsbD p.val || (decide (p ∈ l) && f p)) := by
  induction l generalizing acc with
  | nil => simp
  | cons q l ih =>
    have hbit : (if f q then acc ||| (1#6 <<< q.val) else acc).getLsbD p.val =
        (acc.getLsbD p.val || (decide (p = q) && f p)) := by
      by_cases hf : f q = true
      · rw [if_pos hf, BitVec.getLsbD_or, one_shiftLeft_player_getLsbD]
        by_cases hpq : p = q
        · simp [hpq, hf]
        · simp [hpq]
      · have hnot : (decide (p = q) && f p) = false := by
          by_cases hpq : p = q
          · simp [hpq, hf]
          · simp [hpq]
        rw [if_neg hf, hnot, Bool.or_false]
    rw [List.foldl_cons, ih, hbit, Bool.or_assoc, ← Bool.and_or_distrib_right]
    congr 2
    by_cases hpq : p = q <;> simp [hpq]

theorem playerSet_getLsbD (f : PlayerId → Bool) (p : PlayerId) : (playerSet f).getLsbD p.val = f p := by
  have hall : p ∈ allPlayers := by fin_cases p <;> decide
  rw [playerSet, foldl_players_getLsbD]
  simp [hall]

theorem playerOf_large {b : Byte} (h : 6 ≤ b.toNat) : playerOf b = none := by
  rw [playerOf, dif_neg (Nat.not_lt.mpr h)]

/-! ### The reports -/

theorem State.safeClear_eq_decide (s : State) : s.safeClear = decide (s.safe.state = .clear) := by
  rw [Bool.eq_iff_iff, s.safeClear_iff, decide_eq_true_iff]

/-- SAFE_OUT is high on a live part exactly while the safe state is not CLEAR (R129). -/
theorem State.safeOut_live {s : State} (h : s.phase = .live) : s.safeOut = decide (s.safe.state ≠ .clear) := by
  rw [(s.pins_live h).2, s.safeClear_eq_decide, decide_not]

theorem serveSafeStatus_live {s : State} (q : Frame) (h : s.phase = .live) : serveSafeStatus q s = (s, Reply.of .ok
    ([s.safe.state.code, s.safe.causes.code, playersByte s.safe.faultPlayers, markByte s.safe.holdActive,
      markByte s.safe.holdIn, markByte s.params.holdLevel, markByte (decide (s.safe.state ≠ .clear)),
      markByte s.params.autoRelease, markByte s.params.autoResume, markByte s.params.faultToSafe,
      (playerSet fun p => (s.player p).heldSafe).setWidth 8,
      (playerSet fun p => (s.player p).heldSafe && decide ((s.player p).activity ≠ .none)).setWidth 8] ++
      stampBytes s.safe.lastChange)) := by
  rw [serveSafeStatus, s.safeOut_live h]
  rfl

theorem ImageOp.infoBytes_eq (op : ImageOp) : op.infoBytes = match op with
    | .none => [0, 0xFF]
    | .save target _ _ _ => [1, target.code]
    | .eraseA | .eraseB _ => [2, 0xFF] := by
  cases op <;> rfl

theorem serveImageInfo_eq (q : Frame) (s : State) : serveImageInfo q s = (s, Reply.of .ok
    (([s.image.bankA, s.image.bankB].map Bank.infoBytes).flatten ++ [(s.newestComplete.map BankId.code).getD 0xFF] ++
      s.image.op.infoBytes)) := by
  simp only [serveImageInfo, orAbsent_eq, List.map_cons, List.map_nil, List.flatten_cons, List.flatten_nil, List.append_nil]

theorem Player.statusBytes_eq (r : Player) : r.statusBytes =
    [r.state.code, (r.boundList.map finByte).getD 0xFF] ++ lineBytes r.claimed ++ [byteOf r.index, r.activity.code] ++
      be16 r.remaining ++ [byteOf r.passCount, byteOf r.passLimit, (r.stopIndex.map byteOf).getD 0xFF] ++
      [markByte r.relaunch, markByte r.holdPending, markByte r.deferred, markByte r.passBegun] ++
      [(r.holdCause.map HoldCause.code).getD 0xFF, (r.startPoint.map StartPoint.code).getD 0xFF,
        ((r.startPoint.bind StartPoint.inputOf).map finByte).getD 0xFF, (r.faultCause.map FaultCause.code).getD 0xFF,
        ((r.replacement.map Prod.fst).map finByte).getD 0xFF,
        ((r.replacement.map Prod.snd).map CommitPoint.code).getD 0xFF] := by
  simp only [Player.statusBytes, listByte, stopByte, orAbsent_eq, Player.pendingList, List.append_assoc, List.cons_append,
    List.nil_append]

/-- Settles O38: the reports read the records as they are, and the two sets of SAFE_STATUS have a player's bit by its record. -/
theorem statusRequestsReportTheirRecords : Obligations.StatusRequestsReportTheirRecords := by
  refine ⟨fun s q rest h => ?_, fun s q rest => ⟨fun h => ?_, fun h => ?_⟩, fun s q rest number h => ⟨fun hlarge => ?_, ?_⟩,
    fun s q rest h => ?_⟩
  · have hlive : (s.taking rest).phase = .live := h.1.1
    refine ⟨playerSet fun p => (s.player p).heldSafe,
      playerSet fun p => (s.player p).heldSafe && decide ((s.player p).activity ≠ .none), fun p => ?_, fun p => ?_,
      State.take_answered h rfl rfl (serveSafeStatus_live q hlive)⟩
    · rw [playerSet_getLsbD, Player.heldSafe, Bool.decide_and]
    · rw [playerSet_getLsbD, Player.heldSafe, Bool.decide_and, Bool.decide_and, Bool.and_assoc]
  · refine State.take_answered h rfl rfl ?_
    rw [serveImageInfo_eq, ImageOp.infoBytes_eq]
    rfl
  · exact State.take_answered h rfl rfl rfl
  · refine State.take_answered h rfl rfl ?_
    simp only [servePlayerStatus, onPlayer, h.payload_eq, playerOf_large hlarge]
    rfl
  · rintro p rfl
    refine State.take_answered h rfl rfl ?_
    rw [servePlayerStatus, onPlayer_finByte h.payload_eq, Player.statusBytes_eq]
    rfl
  · refine State.take_answered h rfl rfl ?_
    rfl

end Sys2Proof.Machine

/-! PROOFS. HOLD_IN and HOLD_LEVEL (O37): a judgement of hold active that makes an entry, one that latches, and one that changes
nothing, each with the end of its event. -/

namespace Sys2Proof.Machine

/-! ### A change of the safe record with the end of its event (R129, R133) -/

/-- The blocks that neither a change of the safe record nor the reach of an entry moves. -/
structure BesideSafe (s t : State) : Prop where
  lines : t.lines = s.lines
  tb : t.tb = s.tb
  store : t.store = s.store
  params : t.params = s.params
  inputs : t.inputs = s.inputs

theorem BesideSafe.trans {s t u : State} (h1 : BesideSafe s t) (h2 : BesideSafe t u) : BesideSafe s u :=
  ⟨h2.lines.trans h1.lines, h2.tb.trans h1.tb, h2.store.trans h1.store, h2.params.trans h1.params, h2.inputs.trans h1.inputs⟩

theorem State.changeSafe_beside (s : State) (state : SafeState) (causes : Causes) (players : BitVec 6) :
    BesideSafe s (s.changeSafe state causes players) := by
  rw [State.changeSafe_frame]
  exact ⟨rfl, rfl, rfl, rfl, rfl⟩

@[simp] theorem State.changeSafe_players (s : State) (state : SafeState) (causes : Causes) (players : BitVec 6) :
    (s.changeSafe state causes players).players = s.players := by
  rw [State.changeSafe_frame]

@[simp] theorem State.changeSafe_player (s : State) (state : SafeState) (causes : Causes) (players : BitVec 6) (p : PlayerId) :
    (s.changeSafe state causes players).player p = s.player p := by
  simp [State.player]

theorem State.settle_beside (s : State) (o : Order) : BesideSafe s (s.settle o) := by
  by_cases h : s.safe.state = .clear
  · rw [State.settle_clear o h]
    exact ⟨rfl, rfl, rfl, rfl, rfl⟩
  · unfold State.settle
    rw [(State.reachPlayers_all h _).1]
    exact ⟨rfl, rfl, rfl, rfl, rfl⟩

theorem State.transmit_beside (s : State) : BesideSafe s s.transmit := ⟨by simp, by simp, by simp, by simp, by simp⟩

@[simp] theorem State.settle_safe (s : State) (o : Order) : (s.settle o).safe = s.safe := s.reachPlayers_safe _

/-- The reach that ends an event has no one left to reach. -/
theorem State.settle_settle (s : State) (o : Order) : (s.settle o).settle o = s.settle o := by
  by_cases h : s.safe.state = .clear
  · rw [State.settle_clear o h, State.settle_clear o h]
  · refine State.settle_still o fun p => ?_
    rw [State.settle_player o h]
    exact Player.frozen_state _

theorem State.enterSafe_settle (s : State) (o : Order) (state : SafeState) (causes : Causes) :
    (s.enterSafe o state causes).settle o = (s.changeSafe state causes s.safe.faultPlayers).settle o :=
  State.settle_settle _ o

/-- A change to a state that is not CLEAR freezes every player as its event ends. -/
theorem State.changeSafe_settle_player (s : State) (o : Order) {state : SafeState} (h : state ≠ .clear) (causes : Causes)
    (players : BitVec 6) (p : PlayerId) : ((s.changeSafe state causes players).settle o).player p = (s.player p).frozen := by
  rw [State.settle_player o (by rw [State.changeSafe_safe]; exact h), State.changeSafe_player]

/-! ### The judgement of hold active (R130) -/

/-- Hold active becomes yes: from CLEAR and from LATCHED alike the state is ACTIVE with HOLD_LINE joined. -/
theorem State.judgeHold_rises_eq {s : State} (o : Order) (hsound : s.safeSound) (h : s.safe.holdActive = false) :
    (s.judgeHold o true).settle o = (({ s with safe := { s.safe with holdActive := true } } : State).changeSafe .active
      { s.safe.causes with holdLine := true } s.safe.faultPlayers).settle o := by
  obtain ⟨hclear, hactive, -, -, -⟩ := hsound
  have hchanges : ¬(true = s.safe.holdActive) := by simp [h]
  unfold State.judgeHold
  cases hstate : s.safe.state with
  | clear =>
    rw [if_neg hchanges, if_pos rfl, State.enterSafe_settle, hclear.mp hstate]
  | latched => rw [if_neg hchanges, if_pos rfl]
  | active => simp [hactive.mp hstate] at h

theorem State.judgeHold_rises {s : State} (o : Order) (hsound : s.safeSound) (h : s.safe.holdActive = false) :
    let t := (s.judgeHold o true).settle o
    t.safe = { s.safe with state := .active, causes := { s.safe.causes with holdLine := true }, holdActive := true,
                           lastChange := s.stamp } ∧
      (∀ p, t.player p = (s.player p).frozen) ∧ BesideSafe s t := by
  have hnow : SafeState.active ≠ .clear := nofun
  rw [State.judgeHold_rises_eq o hsound h]
  refine ⟨by rw [State.settle_safe, State.changeSafe_safe]; rfl, fun p => ?_, ?_⟩
  · exact State.changeSafe_settle_player _ o hnow _ _ p
  · have hbeside : BesideSafe s ({ s with safe := { s.safe with holdActive := true } } : State) := ⟨rfl, rfl, rfl, rfl, rfl⟩
    exact hbeside.trans ((State.changeSafe_beside _ _ _ _).trans (State.settle_beside _ o))

/-- Hold active becomes no: ACTIVE becomes LATCHED with its cause set, and nobody plays whom the end of the event could reach. -/
theorem State.judgeHold_falls {s : State} (o : Order) (hsound : s.safeSound) (h : s.safe.holdActive = true) :
    let t := (s.judgeHold o false).settle o
    t.safe = { s.safe with state := .latched, holdActive := false, lastChange := s.stamp } ∧
      t.players = s.players ∧ BesideSafe s t := by
  obtain ⟨-, hactive, -, -, hstill⟩ := hsound
  have hstate := hactive.mpr h
  have hjudged : s.judgeHold o false = ({ s with safe := { s.safe with holdActive := false } } : State).changeSafe .latched
      s.safe.causes s.safe.faultPlayers := by
    simp [State.judgeHold, h, hstate]
  have hsettled : (s.judgeHold o false).settle o = s.judgeHold o false := by
    refine State.settle_still o fun p => ?_
    rw [hjudged, State.changeSafe_player]
    exact hstill (by rw [hstate]; nofun) p
  rw [hsettled, hjudged]
  refine ⟨by rw [State.changeSafe_safe]; rfl, State.changeSafe_players _ _ _ _, ?_⟩
  have hbeside : BesideSafe s ({ s with safe := { s.safe with holdActive := false } } : State) := ⟨rfl, rfl, rfl, rfl, rfl⟩
  exact hbeside.trans (State.changeSafe_beside _ _ _ _)

theorem State.judgeHold_same {s : State} (o : Order) (hsound : s.safeSound) :
    (s.judgeHold o s.safe.holdActive).settle o = s := by
  obtain ⟨-, -, -, -, hstill⟩ := hsound
  rw [State.judgeHold, if_pos rfl]
  exact State.reachPlayers_nobody hstill _ _

/-! ### HOLD_IN_CHANGE (R130) -/

theorem exec_holdInChange_live {s : State} (h : s.phase = .live) (level : Bool) (o : Order) :
    exec (.holdInChange level o) s = .next (s.holdSample level o).transmit := by
  change execHoldInChange level o s = _
  simp only [execHoldInChange, h, State.live_live h]

theorem exec_holdInChange_followed {s : State} (hlive : s.phase = .live) (h : s.holdFollowed = true) {level active : Bool}
    (o : Order) (hactive : decide (level = s.params.holdLevel) = active) : exec (.holdInChange level o) s =
      .next ((({ s with safe := { s.safe with holdIn := level } } : State).judgeHold o active).settle o).transmit := by
  rw [exec_holdInChange_live hlive]
  simp only [State.holdSample, h, if_true, hactive]

theorem exec_holdInChange_unfollowed {s : State} (hlive : s.phase = .live) (h : s.holdFollowed = false) (level : Bool)
    (o : Order) : exec (.holdInChange level o) s =
      .next ({ s with safe := { s.safe with holdIn := level } } : State).transmit := by
  rw [exec_holdInChange_live hlive]
  simp [State.holdSample, h]

theorem State.holdFollowed_of {s : State} (h : s.boot = .ready ∨ ∃ load, s.boot = .booting (.judged load) ∨
    ∃ results, s.boot = .booting (.autostart load results)) : s.holdFollowed = true := by
  rcases h with hb | ⟨load, hb | ⟨results, hb⟩⟩ <;> simp only [State.holdFollowed, hb]

/-! ### PARAM_SET of HOLD_LEVEL (R130, R162) -/

/-- A set of HOLD_LEVEL whose judgement leaves the parameters: the state judged, and the reply with the value in force. -/
theorem exec_paramSetHoldLevel {s t : State} {q : Frame} {rest : List Frame} {v : Byte} {active : Bool} (o : Order)
    (h : s.asked 0x49 [0x20, 0, 0, v] q rest) (hv : v = 0 ∨ v = 1)
    (hactive : decide (s.safe.holdIn = decide (v = 1)) = active)
    (ht : (({ s.taking rest with params := { s.params with holdLevel := decide (v = 1) } } : State).judgeHold o
      active).settle o = t)
    (hparams : t.params = { s.params with holdLevel := decide (v = 1) }) :
    exec (.paramSetHoldLevel o) s = t.answered q .ok [0x20, 0, 0, v, 0, 0, 0] := by
  subst hactive
  have hnum : (word16 0 v).toNat = boolCode (decide (v = 1)) := by rcases hv with rfl | rfl <;> rfl
  have hone : decide ((word16 0 v).toNat = 1) = decide (v = 1) := by rcases hv with rfl | rfl <;> rfl
  have hrange : paramInRange 0x20 (word16 0 v).toNat = true := by rcases hv with rfl | rfl <;> rfl
  have hvalue : t.paramValue 0x20 0 = (word16 0 v).toNat := by
    rw [hnum]
    exact congrArg (fun r : Params => boolCode r.holdLevel) hparams
  have hown : ownHoldLevel o 0x20 0 (word16 0 v).toNat (s.taking rest) = t.paramReply .ok 0x20 0 := by
    simp only [ownHoldLevel, hone]
    exact congrArg (fun u : State => u.paramReply .ok 0x20 0) ht
  change Host.Outcome.next (s.take (setsParam [0x20]) (serveParamSet (ownHoldLevel o))) = _
  rw [State.take_set h rfl rfl hrange, hown, State.paramReply, State.paramFields_settled hvalue rfl]
  rfl

/-- Settles O37: each sample is a judgement of the record with the new sample, each set one of the record with the new level. -/
theorem holdInEntersAndLatchesTheSafeState : Obligations.HoldInEntersAndLatchesTheSafeState := by
  refine ⟨fun s level o => ⟨fun hlive hboot hsound => ?_, fun hlive hboot => ?_, fun hdead => ?_⟩,
    fun s q rest o v h hv hsound => ?_⟩
  · have hfollowed := State.holdFollowed_of hboot
    let u : State := { s with safe := { s.safe with holdIn := level } }
    have hu : u.safeSound := hsound
    refine ⟨fun hnow hwas => ?_, fun hnow hwas => ?_, fun hsame => ?_⟩
    · obtain ⟨hsafe, hplayer, hbeside⟩ := State.judgeHold_rises (s := u) o hu hwas
      have hsent := hbeside.trans (State.transmit_beside _)
      exact ⟨_, exec_holdInChange_followed hlive hfollowed o hnow, by rw [State.transmit_safe]; exact hsafe,
        fun p => by rw [State.transmit_player]; exact hplayer p, hsent.lines, hsent.tb, hsent.store⟩
    · obtain ⟨hsafe, hplayers, hbeside⟩ := State.judgeHold_falls (s := u) o hu hwas
      have hsent := hbeside.trans (State.transmit_beside _)
      exact ⟨_, exec_holdInChange_followed hlive hfollowed o hnow, by rw [State.transmit_safe]; exact hsafe,
        by rw [State.transmit_players]; exact hplayers, hsent.lines, hsent.tb, hsent.store⟩
    · rw [exec_holdInChange_followed hlive hfollowed o hsame]
      exact congrArg (fun u : State => Host.Outcome.next u.transmit) (State.judgeHold_same (s := u) o hu)
  · refine exec_holdInChange_unfollowed hlive ?_ level o
    rcases hboot with hb | ⟨load, hb⟩ <;> simp only [State.holdFollowed, hb]
  · change execHoldInChange level o s = _
    unfold execHoldInChange
    cases hphase : s.phase with
    | live => exact absurd hphase hdead
    | off | held => rfl
  · let u : State := { s.taking rest with params := { s.params with holdLevel := decide (v = 1) } }
    have hu : u.safeSound := hsound
    refine ⟨fun hnow hwas => ?_, fun hnow hwas => ?_, fun hsame => ?_⟩
    · obtain ⟨hsafe, hplayer, hbeside⟩ := State.judgeHold_rises (s := u) o hu hwas
      exact ⟨_, exec_paramSetHoldLevel o h hv hnow rfl hbeside.params, hbeside.params, hsafe, hplayer, hbeside.lines, hbeside.tb⟩
    · obtain ⟨hsafe, hplayers, hbeside⟩ := State.judgeHold_falls (s := u) o hu hwas
      exact ⟨_, exec_paramSetHoldLevel o h hv hnow rfl hbeside.params, hbeside.params, hsafe, hplayers, hbeside.lines, hbeside.tb⟩
    · exact exec_paramSetHoldLevel o h hv hsame (State.judgeHold_same (s := u) o hu) rfl

end Sys2Proof.Machine

/-! PROOFS. One player's turn among agents that make no entry: the agents act one after another with no reach between them, and a player
ends as its own turn leaves it, its inputs' latches consumed at most. -/

namespace Sys2Proof.Machine

/-! ### Agents without a reach (R133) -/

section Agents

variable {P : State → Prop} {o : Order} {act : Actor → State → State}

/-- Agents that keep a property under which an entry reaches nobody act one after another, and those behind them follow. -/
theorem runActors_append (hreach : ∀ u, P u → ∀ players exempt, u.reachPlayers players exempt = u) (rest : List Actor) :
    ∀ (before : List Actor) {s : State}, (∀ a ∈ before, ∀ u, P u → P (act a u)) → P s →
      P (before.foldl (fun u a => act a u) s) ∧
        runActors o act (before ++ rest) s = runActors o act rest (before.foldl (fun u a => act a u) s)
  | [], _, _, hs => ⟨hs, rfl⟩
  | a :: before, s, hact, hs => by
    have ha : P (act a s) := hact a (List.mem_cons_self ..) s hs
    rw [List.cons_append, List.foldl_cons, runActors]
    simp only [hreach _ ha]
    exact runActors_append hreach rest before (fun b hb => hact b (List.mem_cons_of_mem _ hb)) ha

theorem runActors_foldl (hreach : ∀ u, P u → ∀ players exempt, u.reachPlayers players exempt = u) (actors : List Actor)
    {s : State} (hact : ∀ a ∈ actors, ∀ u, P u → P (act a u)) (hs : P s) :
    P (actors.foldl (fun u a => act a u) s) ∧ runActors o act actors s = actors.foldl (fun u a => act a u) s := by
  simpa only [List.append_nil, runActors] using runActors_append hreach [] actors hact hs

end Agents

/-! ### One turn in a fold -/

section Turn

variable {P : State → Prop} {R : State → State → Prop} {act : Actor → State → State} {a : Actor}

/-- Acts of others, each in the relation, lead to a state in the relation. -/
theorem foldl_others (hrefl : ∀ u, R u u) (htrans : ∀ {u v w}, R u v → R v w → R u w) :
    ∀ (l : List Actor) {s : State}, (∀ b ∈ l, ∀ u, P u → P (act b u)) → (∀ b ∈ l, b ≠ a → ∀ u, P u → R u (act b u)) →
      a ∉ l → P s → R s (l.foldl (fun u b => act b u) s)
  | [], s, _, _, _, _ => hrefl s
  | b :: l, s, hkeep, hother, hnot, hs => by
    obtain ⟨hne, hrest⟩ := not_or.mp (List.mem_cons.not.mp hnot)
    have hb := hother b (List.mem_cons_self ..) (Ne.symm hne) s hs
    have hkeep' := hkeep b (List.mem_cons_self ..) s hs
    exact htrans hb (foldl_others hrefl htrans l (fun c hc => hkeep c (List.mem_cons_of_mem _ hc))
      (fun c hc => hother c (List.mem_cons_of_mem _ hc)) hrest hkeep')

/-- An agent that acts once among others acts in a state in the relation, and the rest lead from where its act ends to one in it. -/
theorem foldl_turn (hrefl : ∀ u, R u u) (htrans : ∀ {u v w}, R u v → R v w → R u w) (l : List Actor) {s : State}
    (hkeep : ∀ b ∈ l, ∀ u, P u → P (act b u)) (hother : ∀ b ∈ l, b ≠ a → ∀ u, P u → R u (act b u)) (hnodup : l.Nodup)
    (hmem : a ∈ l) (hs : P s) : ∃ u, P u ∧ R s u ∧ R (act a u) (l.foldl (fun u b => act b u) s) := by
  induction l generalizing s with
  | nil => cases hmem
  | cons b l ih =>
    obtain ⟨hnot, hrest⟩ := List.nodup_cons.mp hnodup
    have hb : P (act b s) := hkeep b (List.mem_cons_self ..) s hs
    have hkeeps : ∀ c ∈ l, ∀ u, P u → P (act c u) := fun c hc => hkeep c (List.mem_cons_of_mem b hc)
    have hothers : ∀ c ∈ l, c ≠ a → ∀ u, P u → R u (act c u) := fun c hc => hother c (List.mem_cons_of_mem b hc)
    rw [List.foldl_cons]
    by_cases hba : b = a
    · subst hba
      exact ⟨s, hs, hrefl s, foldl_others hrefl htrans l hkeeps hothers hnot hb⟩
    · have hstep : R s (act b s) := hother b (List.mem_cons_self ..) hba s hs
      obtain ⟨u, hu, hsu, hturn⟩ := ih hkeeps hothers hrest ((List.mem_cons.mp hmem).resolve_left (Ne.symm hba)) hb
      exact ⟨u, hu, htrans hstep hsu, hturn⟩

end Turn

/-! ### Around a player -/

/-- `t` differs from `s` in nothing that the player's turn depends on but the safe record, lines, notices and latches that were
consumed. -/
structure Around (p : PlayerId) (s t : State) : Prop where
  player : t.player p = s.player p
  fixed : t.fixed = s.fixed
  clock : t.clock = s.clock
  drains : Drains s t

theorem Around.refl (p : PlayerId) (s : State) : Around p s s := ⟨rfl, rfl, rfl, .refl s⟩

theorem Around.trans {p : PlayerId} {s t u : State} (h1 : Around p s t) (h2 : Around p t u) : Around p s u :=
  ⟨h2.player.trans h1.player, h2.fixed.trans h1.fixed, h2.clock.trans h1.clock, h1.drains.trans h2.drains⟩

theorem State.changeSafe_around (s : State) (state : SafeState) (causes : Causes) (players : BitVec 6) (p : PlayerId) :
    Around p s (s.changeSafe state causes players) :=
  ⟨s.changeSafe_player state causes players p, by simp, by simp, .same (by simp)⟩

namespace Around

variable {s t : State} {p : PlayerId}

theorem steps (h : Around p s t) (l : ListId) : (t.list l).steps = (s.list l).steps := State.steps_of_fixed h.fixed l

theorem params (h : Around p s t) : t.params = s.params := State.params_of_clock h.clock

theorem position (h : Around p s t) : t.tb.position = s.tb.position :=
  Timebase.position_of_counts (State.counts_of_clock h.clock)

theorem tbState (h : Around p s t) : t.tb.state = s.tb.state := Timebase.state_of_counts (State.counts_of_clock h.clock)

theorem currentStep (h : Around p s t) : t.currentStep p = s.currentStep p :=
  State.currentStep_congr h.steps (by rw [h.player]) (by rw [h.player])

theorem plainAt (h : Around p s t) {i : Nat} {lines levels : LineSet} {dwell : BitVec 16}
    (hplain : s.plainAt p i lines levels dwell) : t.plainAt p i lines levels dwell :=
  hplain.congr h.steps (by rw [h.player])

/-- A latch that is not pending stays so. -/
theorem notPending (h : Around p s t) {n : InputId} (hn : (s.input n).pending = false) : (t.input n).pending = false := by
  rcases h.drains n with e | e <;> rw [e]
  · exact hn
  · rfl

end Around

/-- In CLEAR without FAULT_TO_SAFE, with the safe record given. -/
def State.calmAs (s : State) (r : Safe) : Prop := s.safe = r ∧ s.params.faultToSafe = false

theorem Calm.calmAs {s t : State} {r : Safe} (h : Calm s t) (hs : s.calmAs r) : t.calmAs r := by
  obtain ⟨hsafe, hoff⟩ := hs
  obtain ⟨hoff', hsafe'⟩ := h hoff
  exact ⟨hsafe'.trans hsafe, hoff'⟩

theorem State.calmAs.reach {s : State} {r : Safe} (hr : r.state = .clear) (h : s.calmAs r) (players exempt : List PlayerId) :
    s.reachPlayers players exempt = s := State.reachPlayers_clear (by rw [h.1]; exact hr) _ _

/-- In a calm state a player that acts once among agents acts in a state around it, and what follows is around what its act leaves. -/
theorem runActors_around {o : Order} {act : Actor → State → State} {p : PlayerId} {r : Safe} (hr : r.state = .clear)
    (hcalm : ∀ a u, u.calmAs r → Calm u (act a u)) (hother : ∀ a u, a ≠ .player p → u.calmAs r → Around p u (act a u))
    {actors : List Actor} (hnodup : actors.Nodup) (hmem : .player p ∈ actors) {s : State} (hs : s.calmAs r) :
    (runActors o act actors s).calmAs r ∧
      ∃ u, u.calmAs r ∧ Around p s u ∧ Around p (act (.player p) u) (runActors o act actors s) := by
  have hkeep : ∀ a ∈ actors, ∀ u : State, u.calmAs r → (act a u).calmAs r := fun a _ u hu => (hcalm a u hu).calmAs hu
  obtain ⟨hend, hfold⟩ := runActors_foldl (o := o) (fun u hu => State.calmAs.reach hr hu) actors hkeep hs
  rw [hfold]
  exact ⟨hend, foldl_turn (Around.refl p) Around.trans actors hkeep (fun a _ hne u hu => hother a u hne hu) hnodup hmem hs⟩

/-- Likewise where the players act one after another. -/
theorem eachPlayer_around (o : Order) {act : PlayerId → State → State} {p : PlayerId} {r : Safe} (hr : r.state = .clear)
    (hcalm : ∀ q u, Calm u (act q u)) (hother : ∀ q u, q ≠ p → u.calmAs r → Around p u (act q u)) {s : State}
    (hs : s.calmAs r) :
    (eachPlayer o act s).calmAs r ∧
      ∃ u, u.calmAs r ∧ Around p s u ∧ Around p (act p u) (eachPlayer o act s) := by
  refine runActors_around hr (fun a u _ => ?_) (fun a u hne hu => ?_) (actorsOf_nodup o) (mem_actorsOf o p) hs
  · cases a with
    | player q => exact hcalm q u
    | safeUnit | superframeNotice => exact .refl u
  · cases a with
    | player q => exact hother q u (fun e => hne (congrArg Actor.player e)) hu
    | safeUnit | superframeNotice => exact .refl p u

/-! ### The resume at a release keeps the record where FAULT_TO_SAFE is off (R137) -/

theorem State.resumeWait_calm (s : State) (p : PlayerId) (st : Step) (n : InputId) : Calm s (s.resumeWait p st n) := by
  unfold State.resumeWait
  simp only
  split
  · split
    · exact (s.clearLatch_calm n).trans (State.faultPlayer_calm _ p _)
    · exact (s.clearLatch_calm n).trans (State.endStep_calm _ p _)
  · exact .refl s

theorem State.resumePlayer_calm (s : State) (p : PlayerId) : Calm s (s.resumePlayer p) := by
  have hunheld : Calm s (s.unheld p) := s.setPlayer_calm p _
  refine hunheld.trans ?_
  unfold State.resumePlayer
  simp only
  split
  · exact State.admitChain_calm _ p
  · split
    · exact State.resumeWait_calm _ p _ _
    all_goals exact .refl _
  · split
    · split
      · exact State.endStep_calm _ p _
      · exact .refl _
    all_goals exact .refl _
  · exact .refl _

theorem State.autoResume_calm (s : State) (o : Order) (super : Bool) (p : PlayerId) : Calm s (s.autoResume o super p) := by
  unfold State.autoResume
  simp only
  split
  · split
    · exact (s.setPlayer_calm p _).trans (State.commitSuper_calm _ p)
    · exact s.resumePlayer_calm p
  · exact .refl s

theorem State.autoResume_around (s : State) (o : Order) (super : Bool) {p p' : PlayerId} (hne : p' ≠ p) :
    Around p s (s.autoResume o super p') :=
  ⟨(s.autoResume_acts o super p').others p hne.symm, s.autoResume_fixed o super p', s.autoResume_clock o super p',
    s.autoResume_drains o super p'⟩

theorem State.autoResume_notHeld {s : State} {p : PlayerId} (h : (s.player p).heldSafe = false) (o : Order) (super : Bool) :
    s.autoResume o super p = s := by
  simp [State.autoResume, h]

/-- In CLEAR a player HELD by SAFE is resumed; with no commit of the same start, as a PLAYER_RESUME does. -/
theorem State.autoResume_held {s : State} {p : PlayerId} (hclear : s.safe.state = .clear) (h : (s.player p).heldSafe = true)
    (o : Order) {super : Bool} (hplain : (super && (s.player p).commitsSuper) = false) :
    s.autoResume o super p = s.resumePlayer p := by
  simp [State.autoResume, h, s.safeClear_iff.mpr hclear, hplain]

/-- The record that a release leaves (R137). -/
def State.releasedSafe (s : State) : Safe :=
  { s.safe with state := .clear, causes := Causes.empty, faultPlayers := 0, lastChange := s.stamp }

/-- The release under AUTO_RESUME: the record released, and each player as its own resume in a state around it leaves it. -/
theorem State.releaseSafe_resumes {s : State} (hauto : s.params.autoResume = true) (hoff : s.params.faultToSafe = false)
    (o : Order) (super : Bool) (p : PlayerId) :
    (s.releaseSafe o super).calmAs s.releasedSafe ∧
      ∃ u, u.calmAs s.releasedSafe ∧ Around p s u ∧ Around p (u.autoResume o super p) (s.releaseSafe o super) := by
  have haround := s.changeSafe_around .clear Causes.empty 0 p
  have hreleased : (s.changeSafe .clear Causes.empty 0).calmAs s.releasedSafe :=
    ⟨State.changeSafe_safe _ _ _ _, by rw [haround.params]; exact hoff⟩
  have hrelease : s.releaseSafe o super = eachPlayer o (fun p s => s.autoResume o super p) (s.changeSafe .clear Causes.empty 0) :=
    if_pos (by rw [haround.params]; exact hauto)
  rw [hrelease]
  obtain ⟨hend, u, hu, hsu, hturn⟩ := eachPlayer_around o (p := p) (r := s.releasedSafe) rfl
    (fun q u => u.autoResume_calm o super q) (fun q u hne _ => u.autoResume_around o super hne) hreleased
  exact ⟨hend, u, hu, haround.trans hsu, hturn⟩

end Sys2Proof.Machine

/-! PROOFS. SAFE_ENTER and SAFE_RELEASE (O35): the entry freezes every player, and the release under AUTO_RESUME resumes each one that is
HELD by SAFE in a state around it. -/

namespace Sys2Proof.Machine

/-! ### SAFE_ENTER (R131, R133) -/

section Enter

variable {s : State}

/-- An entry's notices: SAFE, and one START_CANCELLED for each ARMED player, in the order of the players. -/
theorem State.changeSafe_settle_notices (s : State) (o : Order) {state : SafeState} (h : state ≠ .clear) (causes : Causes)
    (players : BitVec 6) : ((s.changeSafe state causes players).settle o).notices =
      (((playersOf o).filter fun p => decide ((s.player p).state = .armed)).foldl (fun u p => u.produce (.startCancelled p))
        (s.produce (.safe state causes players))).notices := by
  have hstate : (s.changeSafe state causes players).safe.state ≠ .clear := by rw [State.changeSafe_safe]; exact h
  unfold State.settle
  rw [State.reachPlayers_notices hstate (playersOf_nodup o)]
  simp only [State.changeSafe_player]
  exact ((s.changeSafe_noticesAlike state causes players).foldl_produce NoticeBody.startCancelled _).1

theorem State.taking_noticesAlike (s : State) (rest : List Frame) : s.noticesAlike (s.taking rest) := ⟨rfl, rfl, rfl, rfl⟩

theorem State.safeClear_false (h : s.safe.state ≠ .clear) : s.safeClear = false :=
  Bool.eq_false_iff.mpr fun hc => h (s.safeClear_iff.mp hc)

theorem serveSafeEnter_enters (h : s.safe.state = .clear) (o : Order) (q : Frame) :
    serveSafeEnter o q s = ((s.changeSafe .latched { Causes.empty with request := true } s.safe.faultPlayers).settle o,
      Reply.of .ok [2, 2]) := by
  have hsafe : ((s.changeSafe .latched { Causes.empty with request := true } s.safe.faultPlayers).settle o).safe =
      { s.safe with state := .latched, causes := { Causes.empty with request := true }, lastChange := s.stamp } := by
    rw [State.settle_safe, State.changeSafe_safe]
  simp only [serveSafeEnter, s.safeClear_iff.mpr h, if_true, State.enterSafe_settle, hsafe]
  rfl

theorem serveSafeEnter_already (h : s.safe.state ≠ .clear) (hcause : s.safe.causes.request = true) (o : Order) (q : Frame) :
    serveSafeEnter o q s = (s, Reply.of .already [s.safe.state.code, s.safe.causes.code]) := by
  simp [serveSafeEnter, State.safeClear_false h, hcause]

theorem serveSafeEnter_joins (h : s.safe.state ≠ .clear) (hcause : s.safe.causes.request = false) (o : Order) (q : Frame) :
    serveSafeEnter o q s = (s.changeSafe s.safe.state { s.safe.causes with request := true } s.safe.faultPlayers,
      Reply.of .already [s.safe.state.code, Causes.code { s.safe.causes with request := true }]) := by
  simp [serveSafeEnter, State.safeClear_false h, hcause, State.changeSafe_safe]

end Enter

/-! ### SAFE_RELEASE (R135, R137) -/

section Release

variable {s : State}

theorem serveSafeRelease_plain (h : s.safe.state = .latched) (hauto : s.params.autoResume = false) (o : Order) (q : Frame) :
    serveSafeRelease o q s = (s.changeSafe .clear Causes.empty 0, Reply.of .ok [s.safe.causes.code]) := by
  have hrelease : s.releaseSafe o false = s.changeSafe .clear Causes.empty 0 :=
    if_neg (by rw [(s.changeSafe_beside _ _ _).params, hauto]; nofun)
  simp only [serveSafeRelease, h, hrelease]
  rw [State.settle_clear o (by rw [State.changeSafe_safe])]

/-- The state that a release under AUTO_RESUME leaves is CLEAR, so the event's end reaches nobody. -/
theorem serveSafeRelease_resumes (h : s.safe.state = .latched) (hauto : s.params.autoResume = true)
    (hoff : s.params.faultToSafe = false) (o : Order) (q : Frame) :
    serveSafeRelease o q s = (s.releaseSafe o false, Reply.of .ok [s.safe.causes.code]) := by
  obtain ⟨⟨hsafe, -⟩, -⟩ := State.releaseSafe_resumes hauto hoff o false 0
  simp only [serveSafeRelease, h]
  rw [State.settle_clear o (by rw [hsafe]; rfl)]

/-- The player has a frozen step that goes on at a resume: a phase that counts, a wait whose latch is not pending, or an ALIGN
away from its offset (R80, R124, R138). -/
def State.keepsStep (s : State) (p : PlayerId) : Prop :=
  (s.player p).activity = .stepping ∨ (s.player p).activity = .pulseWidth ∨ (s.player p).activity = .fitWait ∨
    ((s.player p).activity = .edgeWait ∧ ∃ st n timeout, s.currentStep p = some st ∧ st.action = .waitEdge n timeout ∧
      (s.input n).pending = false) ∨
    ((s.player p).activity = .alignWait ∧ ∃ st offset, s.currentStep p = some st ∧ st.action = .align offset ∧
      ¬(s.tb.state = .running ∧ s.tb.position = offset.toNat))

theorem State.keepsStep.resumePlayer {p : PlayerId} (h : s.keepsStep p) : s.resumePlayer p = s.unheld p :=
  State.resumePlayer_goesOn h

theorem State.keepsStep.around {u : State} {p : PlayerId} (h : s.keepsStep p) (hu : Around p s u) : u.keepsStep p := by
  unfold State.keepsStep
  rw [hu.player, hu.currentStep, hu.tbState, hu.position]
  rcases h with hact | hact | hact | ⟨hact, st, n, timeout, hstep, haction, hpending⟩ | halign
  · exact .inl hact
  · exact .inr (.inl hact)
  · exact .inr (.inr (.inl hact))
  · exact .inr (.inr (.inr (.inl ⟨hact, st, n, timeout, hstep, haction, hu.notPending hpending⟩)))
  · exact .inr (.inr (.inr (.inr halign)))

/-- What a release under AUTO_RESUME leaves of a player HELD by SAFE, by what the resume leaves of it in any state around. -/
theorem State.releaseSafe_player (hauto : s.params.autoResume = true) (hoff : s.params.faultToSafe = false) (o : Order)
    {p : PlayerId} (hheld : (s.player p).heldSafe = true) {r : Player}
    (h : ∀ u, Around p s u → (u.resumePlayer p).player p = r) : (s.releaseSafe o false).player p = r := by
  obtain ⟨-, u, hu, hsu, hturn⟩ := State.releaseSafe_resumes hauto hoff o false p
  rw [hturn.player, State.autoResume_held (by rw [hu.1]; rfl) (by rw [hsu.player]; exact hheld) o (Bool.false_and _), h u hsu]

theorem State.releaseSafe_player_notHeld (hauto : s.params.autoResume = true) (hoff : s.params.faultToSafe = false) (o : Order)
    {p : PlayerId} (hheld : (s.player p).heldSafe = false) : (s.releaseSafe o false).player p = s.player p := by
  obtain ⟨-, u, -, hsu, hturn⟩ := State.releaseSafe_resumes hauto hoff o false p
  rw [hturn.player, State.autoResume_notHeld (by rw [hsu.player]; exact hheld), hsu.player]

end Release

/-- Settles O35: the entry is a change of the record whose reach freezes the players; at the release each player that is resumed acts in
a state around it, which keeps its step, its list and the Timebase. -/
theorem safeEnterFreezesAndReleaseClears : Obligations.SafeEnterFreezesAndReleaseClears := by
  refine ⟨fun s q rest o h => ⟨fun hclear => ?_, fun hstate hcause => ?_, fun hstate hcause => ?_⟩,
    fun s q rest o h => ⟨fun hstate hauto => ?_, fun hstate hauto hoff => ?_, fun hstate => ?_, fun hstate => ?_⟩⟩
  · intro causes cancelled
    have hlatched : SafeState.latched ≠ .clear := nofun
    have hbeside : BesideSafe s (((s.taking rest).changeSafe .latched causes s.safe.faultPlayers).settle o) :=
      BesideSafe.trans (t := s.taking rest) ⟨rfl, rfl, rfl, rfl, rfl⟩
        ((State.changeSafe_beside _ _ _ _).trans (State.settle_beside _ o))
    refine ⟨_, State.take_answered h rfl rfl (serveSafeEnter_enters (s := s.taking rest) hclear o q), ?_,
      by rw [State.settle_safe, State.changeSafe_safe]; rfl, fun p => ?_, hbeside.lines, hbeside.tb, hbeside.params,
      hbeside.inputs, hbeside.store⟩
    · refine (State.changeSafe_settle_notices _ o hlatched _ _).trans ?_
      exact (((s.taking_noticesAlike rest).produce _).foldl_produce NoticeBody.startCancelled _).1
    · exact State.changeSafe_settle_player _ o hlatched _ _ p
  · exact State.take_answered h rfl rfl (serveSafeEnter_already (s := s.taking rest) hstate hcause o q)
  · exact State.take_answered h rfl rfl (serveSafeEnter_joins (s := s.taking rest) hstate hcause o q)
  · exact State.take_answered h rfl rfl (serveSafeRelease_plain (s := s.taking rest) hstate hauto o q)
  · let u := s.taking rest
    obtain ⟨⟨hsafe, -⟩, -⟩ := State.releaseSafe_resumes (s := u) hauto hoff o false 0
    have hclock := u.releaseSafe_clock o false
    refine ⟨_, State.take_answered h rfl rfl (serveSafeRelease_resumes (s := u) hstate hauto hoff o q), hsafe,
      Timebase.position_of_counts (State.counts_of_clock hclock), State.params_of_clock hclock, fun p => ?_⟩
    refine ⟨State.releaseSafe_player_notHeld (s := u) hauto hoff o, fun hheld => ⟨fun hkeeps => ?_,
      fun lines levels dwell hact hplain => ⟨fun hindex => ?_, fun hindex => ?_⟩⟩⟩
    · refine State.releaseSafe_player (s := u) hauto hoff o hheld fun v hv => ?_
      rw [(State.keepsStep.around (s := u) hkeeps hv).resumePlayer, v.unheld_player, hv.player]
      rfl
    · refine State.releaseSafe_player (s := u) hauto hoff o hheld fun v hv => ?_
      rw [State.resumePlayer_later (by rw [hv.player]; exact hact) (by rw [hv.player]; exact hindex)
        (by rw [hv.player]; exact hv.plainAt hplain), State.setPlayer_player_same, hv.player]
      rfl
    · refine State.releaseSafe_player (s := u) hauto hoff o hheld fun v hv => ?_
      rw [State.resumePlayer_stepZero (by rw [hv.player]; exact hact) (by rw [hv.player]; exact hindex)
        (hv.plainAt (by rw [← hindex]; exact hplain)), State.setPlayer_player_same, hv.player]
      rfl
  · refine State.take_answered h rfl rfl (serve := serveSafeRelease o) ?_
    simp only [serveSafeRelease, State.taking, hstate]
    rfl
  · refine State.take_answered h rfl rfl (serve := serveSafeRelease o) ?_
    simp only [serveSafeRelease, State.taking, hstate]
    rfl

end Sys2Proof.Machine

/-! PROOFS. The superframe start of a tick with nobody playing and nothing due or owed: the state and the event that are handed out,
whatever the safe state (R25, R28). -/

namespace Sys2Proof.Machine

/-- Nobody is RUNNING or ARMED, and nothing is due or owed. -/
structure State.Silent (s : State) : Prop where
  still : ∀ p, (s.player p).state ≠ .running ∧ (s.player p).state ≠ .armed
  due : s.nothingDue
  owed : s.nothingOwed

/-- Before a tick nothing is left to reach a player. -/
theorem State.Silent.catchUp {s u : State} (h : s.Silent) (hp : u.players = s.players) (o : Order) : u.catchUp o = u := by
  have hplayer : ∀ p, u.player p = s.player p := fun p => by simp only [State.player, hp]
  exact State.catchUp_still o (fun p => by rw [hplayer]; exact h.due p) (fun p => by rw [hplayer]; exact h.owed p)
    (State.reachPlayers_still fun p => by rw [hplayer]; exact h.still p)

/-- A row that makes a tick makes it in a state that differs from the one before in the Timebase's record, the link and the notices
alone, and of the Timebase in the divider count and SYNC_OUT alone. -/
theorem State.tickedBy.exec_silent {s : State} {c : Instr} {o : Order} (h : s.tickedBy c o) (hs : s.Silent) :
    ∃ tb link notices, exec c s = .next ((({ s with tb := tb, link := link, notices := notices } : State)).tick o).transmit ∧
      tb.counts = ({ s.tb with divider := s.tickedDivider } : Timebase).counts := by
  obtain ⟨hlive, hrun, ⟨rfl, hsource, hlast⟩ | ⟨rfl, hsource⟩⟩ := h
  · have hclock : s.timeByte.endSyncHold.tb.counts = s.tb.counts := by
      rw [State.endSyncHold_counts, State.counts_of_clock s.timeByte_clock]
    have hframe : s.timeByte.endSyncHold = { s with
        tb := s.timeByte.endSyncHold.tb, link := s.timeByte.link, notices := s.timeByte.notices } :=
      s.timeByte.endSyncHold_frame.trans
        (congrArg (fun u : State => ({ u with tb := s.timeByte.endSyncHold.tb } : State)) s.timeByte_frame)
    have hcatch : s.timeByte.endSyncHold.catchUp o = s.timeByte.endSyncHold := hs.catchUp (by rw [hframe]) o
    have hexpires : ∀ u : State, u.tb.counts = s.tb.counts → u.params = s.params → u.dividerExpires = true := fun u hr hp => by
      simp [State.dividerExpires, State.ticksFrom, State.ticking, hp, Timebase.state_of_counts hr,
        Timebase.divider_of_counts hr, hrun, hsource, hlast]
    refine ⟨{ s.timeByte.endSyncHold.tb with divider := 0 }, s.timeByte.link, s.timeByte.notices, ?_, ?_⟩
    · change Host.Outcome.next (s.live _) = _
      rw [State.live_live hlive, if_pos (hexpires s rfl rfl), State.passMicrosecond, State.divide, hcatch,
        if_pos (hexpires _ hclock (by rw [hframe])), State.clearDivider]
      conv_lhs => rw [hframe]
    · rw [State.tickedDivider, if_pos hsource]
      exact congrArg (fun r : Timebase => { r with divider := 0 }) hclock
  · refine ⟨s.tb, s.link, s.notices, ?_, ?_⟩
    · change Host.Outcome.next (s.live _) = _
      have hticks : s.ticksFrom .tickIn = true := by simp [State.ticksFrom, State.ticking, hrun, hsource]
      rw [State.live_live hlive, if_pos hticks]
    · rw [State.tickedDivider, if_neg (by rw [hsource]; nofun)]

/-- A frame start is stamped with the next frame's number at position 0 (R28). -/
theorem State.frameStarted_stamp (s : State) (index : Nat) :
    (s.frameStarted index).stamp = { frame := s.tb.number + 1, position := 0 } := by
  have hclock := ((s.countFrame index).syncOutAtFrame (decide (index = 0))).commitNotice_clock s
  have hnumber : (s.frameStarted index).tb.number = s.tb.number + 1 := by
    rw [State.frameStarted, Timebase.number_of_counts ((State.counts_of_clock hclock).trans (State.syncOutAtFrame_counts _ _))]
    unfold State.countFrame
    split <;> rfl
  rw [State.stamp, hnumber, s.frameStarted_position]

/-- `e` is the state that the tick's superframe start is handed out in: the pass-begun flags have cleared and the start is counted. -/
structure State.HandsSuper (s e : State) : Prop where
  player : ∀ p, e.player p = { s.player p with passBegun := false }
  steps : ∀ l, (e.list l).steps = (s.list l).steps
  safe : e.safe = s.safe
  inputs : e.inputs = s.inputs
  stamp : e.stamp = { frame := s.tb.number + 1, position := 0 }
  autoRelease : e.params.autoRelease = s.params.autoRelease
  autoResume : e.params.autoResume = s.params.autoResume
  toSafe : e.params.faultToSafe = s.params.faultToSafe

/-- A tick that makes a superframe start hands it out in such a state. -/
theorem State.tickedBy.handsSuper {s : State} {c : Instr} {o : Order} (h : s.tickedBy c o) (hs : s.Silent) (hsuper : s.superDue) :
    ∃ e ev, exec c s = .next (e.handOut o ev).transmit ∧ ev.super = true ∧ s.HandsSuper e := by
  obtain ⟨tb, link, notices, hexec, hcounts⟩ := h.exec_silent hs
  let d : State := { s with tb := tb, link := link, notices := notices }
  obtain ⟨-, hposition, hindex, hnumber, -⟩ := Timebase.fields_of_counts hcounts
  have hstart : d.tickStart o = d.syncOutAtTick.clearPassBegun := by rw [State.tickStart, hs.catchUp (u := d) rfl]
  have hstartNumber := Timebase.number_of_counts (d.tickStart_counts o)
  obtain ⟨hframe, hzero⟩ := hsuper
  have hdindex : (d.tb.index + 1) % d.params.superLen = 0 := by rw [← hzero, show d.tb.index = s.tb.index from hindex]
  have htick := d.tick_starts_frame o (by rw [show d.tb.position = s.tb.position from hposition]; exact hframe)
  rw [State.frameStart_eq, hdindex] at htick
  have hframed := (d.tickStart o).frameStarted_frame 0
  have hparams : ((d.tickStart o).frameStarted 0).params = (d.tickStart o).committedParams :=
    (State.frameStarted_params _ 0).trans (if_pos rfl)
  refine ⟨(d.tickStart o).frameStarted 0, _, hexec.trans (congrArg (fun u : State => Host.Outcome.next u.transmit) htick), rfl, ?_⟩
  exact {
    player := fun p => by
      rw [hframed, hstart]
      exact (State.clearPassBegun_player _ p).trans (by rw [d.syncOutAtTick_frame]; rfl)
    steps := fun l => by
      rw [hframed, hstart]
      exact State.steps_of_fixed ((State.clearPassBegun_fixed _).trans d.syncOutAtTick_fixed) l
    safe := by
      rw [hframed, hstart, State.clearPassBegun, d.syncOutAtTick_frame]
    inputs := by
      rw [hframed, hstart, State.clearPassBegun, d.syncOutAtTick_frame]
    stamp := by rw [State.frameStarted_stamp, hstartNumber, show d.tb.number = s.tb.number from hnumber]
    autoRelease := by rw [hparams, State.committedParams, d.tickStart_params]
    autoResume := by rw [hparams, State.committedParams, d.tickStart_params]
    toSafe := by rw [hparams, State.committedParams, d.tickStart_params] }

end Sys2Proof.Machine

/-! PROOFS. A superframe start as a player that does not play meets it, and the release's resume as it meets a player HELD by SAFE, with
the commit of its SUPERFRAME replacement in either order (R96 to R98, R101, R136, R137). -/

namespace Sys2Proof.Machine

/-! ### The start in the player's turn (R96, R98) -/

/-- The record of a player that neither plays nor waits to. -/
def Player.resting (r : Player) : Prop := r.state ≠ .running ∧ r.state ≠ .armed

theorem Player.commitsSuper_cases (r : Player) :
    r.commitsSuper = false ∨ ∃ new, r.replacement = some (new, .superframe) := by
  unfold Player.commitsSuper
  split
  case h_1 new h => exact .inr ⟨new, h⟩
  case h_2 => exact .inl rfl

theorem Player.heldSafe_iff (r : Player) : r.heldSafe = true ↔ r.state = .held ∧ r.holdCause = some .safe := by
  simp [Player.heldSafe]

theorem Player.heldSafe_resting {r : Player} (h : r.heldSafe = true) : r.resting := by
  obtain ⟨hstate, -⟩ := r.heldSafe_iff.mp h
  rw [Player.resting, hstate]
  exact ⟨nofun, nofun⟩

theorem State.superCommitted_inputs (s : State) (p : PlayerId) (new : ListId) : (s.superCommitted p new).inputs = s.inputs := by
  rw [State.superCommitted, State.produce_inputs, State.useDownOpt_inputs, State.setPlayer_inputs, s.pulseCut_frame]

section Start

variable {s : State} {o : Order} {ev : TbEvent} {before : Player} {p : PlayerId} {new : ListId}

/-- A player that did not play as the start came acts on it by a commit alone. -/
theorem State.playerEvent_rests (hbefore : before.resting) (h : (s.player p).commitsSuper = false) :
    s.playerEvent o ev before.state p = s := by
  obtain ⟨hrun, harmed⟩ := hbefore
  simp only [State.playerEvent, h, Bool.and_false, Bool.false_eq_true, if_false]
  split
  case h_1 hb _ => exact absurd hb hrun
  case h_2 hb _ => exact absurd hb harmed
  case h_3 => rfl

theorem State.handTo_inTime (hlate : p ∉ o.lateEvent) : s.handTo o ev before p = s.playerEvent o ev before.state p :=
  if_neg hlate

theorem State.handTo_rests (hlate : p ∉ o.lateEvent) (hbefore : before.resting) (h : (s.player p).commitsSuper = false) :
    s.handTo o ev before p = s := by
  rw [State.handTo_inTime hlate, State.playerEvent_rests hbefore h]

theorem State.handTo_commits (hlate : p ∉ o.lateEvent) (hsuper : ev.super = true) (hrest : (s.player p).resting)
    (h : (s.player p).replacement = some (new, .superframe)) : s.handTo o ev before p = s.superCommitted p new := by
  obtain ⟨hrun, harmed⟩ := hrest
  rw [State.handTo_inTime hlate, State.playerEvent_super o _ hsuper h, State.superEvent_commits o (Player.startsAt_other harmed),
    State.commitSuper_resting h hrun]

/-- A late start is owed to a player that it commits, and has no part in another that does not play. -/
theorem State.handTo_owes (hlate : p ∈ o.lateEvent) (hsuper : ev.super = true) (h : (s.player p).commitsSuper = true) :
    ∃ w, s.handTo o ev before p = s.setPlayer p { s.player p with owed := some w } := by
  have hpart : ((s.player p).takesPart ev && !(s.player p).committedIn before ev) = true := by
    simp [Player.takesPart, Player.committedIn, hsuper, h]
  exact ⟨_, (if_pos hlate).trans (if_pos hpart)⟩

theorem State.handTo_lateRests (hlate : p ∈ o.lateEvent) (hrest : (s.player p).resting) (h : (s.player p).commitsSuper = false) :
    s.handTo o ev before p = s := by
  obtain ⟨hrun, harmed⟩ := hrest
  have hpart : ((s.player p).takesPart ev && !(s.player p).committedIn before ev) = false := by
    simp [Player.takesPart, hrun, harmed, h]
  rw [State.handTo, if_pos hlate, if_neg (by rw [hpart]; nofun)]

/-- A start whose commit the release has made already is neither acted on nor owed (R96). -/
theorem State.handTo_committed (hsuper : ev.super = true) (hbefore : before.resting) (hwas : before.commitsSuper = true)
    (h : (s.player p).commitsSuper = false) : s.handTo o ev before p = s := by
  by_cases hlate : p ∈ o.lateEvent
  · have hpart : ((s.player p).takesPart ev && !(s.player p).committedIn before ev) = false := by
      simp [Player.committedIn, hsuper, hwas, h]
    rw [State.handTo, if_pos hlate, if_neg (by rw [hpart]; nofun)]
  · exact State.handTo_rests hlate hbefore h

/-- `t` has the player's state, its hold cause and the inputs as they are in `s`. -/
structure SameHold (p : PlayerId) (s t : State) : Prop where
  state : (t.player p).state = (s.player p).state
  cause : (t.player p).holdCause = (s.player p).holdCause
  inputs : t.inputs = s.inputs

theorem SameHold.refl (p : PlayerId) (s : State) : SameHold p s s := ⟨rfl, rfl, rfl⟩

/-- Whatever a superframe start makes of a player that does not play, it stays where it is held, and no latch is consumed. -/
theorem State.handTo_sameHold (hsuper : ev.super = true) (hbefore : before.resting) (hrest : (s.player p).resting) :
    SameHold p s (s.handTo o ev before p) := by
  rcases (s.player p).commitsSuper_cases with h | ⟨new, h⟩ <;> by_cases hlate : p ∈ o.lateEvent
  · rw [State.handTo_lateRests hlate hrest h]
    exact .refl p s
  · rw [State.handTo_rests hlate hbefore h]
    exact .refl p s
  · obtain ⟨w, hw⟩ := State.handTo_owes (o := o) (before := before) hlate hsuper (Player.commitsSuper_of h)
    rw [hw]
    exact ⟨by rw [State.setPlayer_player_same], by rw [State.setPlayer_player_same], rfl⟩
  · rw [State.handTo_commits hlate hsuper hrest h]
    exact ⟨by rw [s.superCommitted_player]; rfl, by rw [s.superCommitted_player]; rfl, s.superCommitted_inputs p new⟩

end Start

/-! ### The resume at the start that releases (R97, R101, R137) -/

section Resume

variable {s : State} {p : PlayerId} {new : ListId} {first : Step} {lines levels : LineSet} {dwell : BitVec 16}

/-- The admission of a plain SET at step 0 consumes no latch. -/
theorem State.admitChain_stepZero_inputs (hindex : (s.player p).index = 0) (hplain : s.plainAt p 0 lines levels dwell) :
    (s.admitChain p).inputs = s.inputs := by
  rw [State.admitChain_stepZero hindex hplain, State.setPlayer_inputs]
  split <;> rfl

/-- A player HELD by SAFE whose replacement the start commits is RUNNING on step 0 of the new list, and the start is not owed to it. -/
theorem State.autoResume_commits (hclear : s.safe.state = .clear) (hheld : (s.player p).heldSafe = true)
    (h : (s.player p).replacement = some (new, .superframe)) (hfirst : (s.list new).steps[0]? = some first)
    (hplain : first.plainSet lines levels dwell) (o : Order) :
    (s.autoResume o true p).player p = (({ s.player p with
        state := .running, holdCause := none, owed := none } : Player).swapped new).atStepZero dwell ∧
      (s.autoResume o true p).inputs = s.inputs := by
  let r : Player := { s.player p with state := .running, holdCause := none, owed := none }
  let u := s.setPlayer p r
  have hu : u.player p = r := s.setPlayer_player_same p r
  have hpending : (u.player p).replacement = some (new, .superframe) := by rw [hu]; exact h
  have hrun : (u.player p).state = .running := by rw [hu]
  have hresume : s.autoResume o true p = u.commitSuper p := by
    simp only [State.autoResume, hheld, s.safeClear_iff.mpr hclear, Player.commitsSuper_of h, Bool.true_or, Bool.and_self, if_true]
    rfl
  rw [hresume]
  refine ⟨by rw [(State.commitSuper_stepZero hpending hrun hfirst hplain).1, hu], ?_⟩
  rw [State.commitSuper_running hpending hrun, State.admitChain_stepZero_inputs (s := u.superCommitted p new)
    (by rw [u.superCommitted_player]; rfl) (State.superCommitted_plainAt (s := u) hfirst hplain), u.superCommitted_inputs]
  rfl

/-- A player HELD by SAFE that has committed already is RUNNING on step 0 of the new list. -/
theorem State.autoResume_stepZero (hclear : s.safe.state = .clear) (hheld : (s.player p).heldSafe = true)
    (hcommit : (s.player p).commitsSuper = false) (hact : (s.player p).activity = .none) (hindex : (s.player p).index = 0)
    (hplain : s.plainAt p 0 lines levels dwell) (o : Order) :
    (s.autoResume o true p).player p = (s.player p).unheld.atStepZero dwell ∧ (s.autoResume o true p).inputs = s.inputs := by
  rw [State.autoResume_held hclear hheld o (by rw [hcommit]; rfl), State.resumePlayer_stepZero hact hindex hplain]
  refine ⟨State.setPlayer_player_same _ _ _, ?_⟩
  rw [State.setPlayer_inputs]
  split <;> rfl

end Resume

end Sys2Proof.Machine

/-! PROOFS. A superframe start that is handed out while nobody plays: the agents before the Safe Unit, the release, and the agents after
it; each player has its turn before or after the release (O36). -/

namespace Sys2Proof.Machine

/-! ### What the agents keep -/

/-- `Around` the player, and with nobody else HELD by SAFE no latch has been consumed. -/
structure Apart (solo : Prop) (p : PlayerId) (s t : State) : Prop extends Around p s t where
  inputs : solo → t.inputs = s.inputs

theorem Apart.refl (solo : Prop) (p : PlayerId) (s : State) : Apart solo p s s := ⟨.refl p s, fun _ => rfl⟩

theorem Apart.trans {solo : Prop} {p : PlayerId} {s t u : State} (h1 : Apart solo p s t) (h2 : Apart solo p t u) :
    Apart solo p s u := ⟨h1.toAround.trans h2.toAround, fun h => (h2.inputs h).trans (h1.inputs h)⟩

/-- Since the state `e` the clock has not moved and each of these players is held as it was; the safe record is `r`. -/
structure State.Kept (e : State) (who : PlayerId → Prop) (r : Safe) (u : State) : Prop where
  safe : u.safe = r
  clock : u.clock = e.clock
  hold : ∀ q, who q → (u.player q).state = (e.player q).state ∧ (u.player q).holdCause = (e.player q).holdCause

theorem State.Kept.refl (e : State) (who : PlayerId → Prop) : e.Kept who e.safe e := ⟨rfl, rfl, fun _ _ => ⟨rfl, rfl⟩⟩

namespace State.Kept

variable {e u : State} {who : PlayerId → Prop} {r : Safe}

theorem params (h : e.Kept who r u) : u.params = e.params := State.params_of_clock h.clock

theorem resting (h : e.Kept who r u) {q : PlayerId} (hq : who q) (hrest : (e.player q).resting) : (u.player q).resting := by
  rw [Player.resting, (h.hold q hq).1]
  exact hrest

theorem heldSafe (h : e.Kept who r u) {q : PlayerId} (hq : who q) : (u.player q).heldSafe = (e.player q).heldSafe := by
  obtain ⟨hstate, hcause⟩ := h.hold q hq
  rw [Player.heldSafe, hstate, hcause, Player.heldSafe]

/-- While everybody rests an entry reaches nobody, nor does it in CLEAR. -/
theorem reach_still (h : e.Kept (fun _ => True) r u) (hrest : ∀ q, (e.player q).resting) (players exempt : List PlayerId) :
    u.reachPlayers players exempt = u := State.reachPlayers_still (fun q => h.resting trivial (hrest q)) _ _

theorem reach_clear (h : e.Kept who r u) (hr : r.state = .clear) (players exempt : List PlayerId) :
    u.reachPlayers players exempt = u := State.reachPlayers_clear (by rw [h.safe]; exact hr) _ _

/-- An act that keeps the clock, where FAULT_TO_SAFE is off keeps the record, and moves the hold of nobody in question. -/
theorem act {v : State} (h : e.Kept who r u) (hoff : e.params.faultToSafe = false) (hcalm : Calm u v) (hclock : v.clock = u.clock)
    (hhold : ∀ q, who q → (v.player q).state = (u.player q).state ∧ (v.player q).holdCause = (u.player q).holdCause) :
    e.Kept who r v where
  safe := (hcalm (by rw [h.params]; exact hoff)).2.trans h.safe
  clock := hclock.trans h.clock
  hold q hq := ⟨(hhold q hq).1.trans (h.hold q hq).1, (hhold q hq).2.trans (h.hold q hq).2⟩

end State.Kept

/-! ### The agents of a superframe start -/

/-- What an agent makes of a superframe start that is handed out in the state `e`. -/
def State.superAct (e : State) (o : Order) (ev : TbEvent) (a : Actor) (u : State) : State :=
  match a with
  | .player q => u.handTo o ev (e.player q) q
  | .safeUnit => u.autoRelease o
  | .superframeNotice => u.produce .superframe

theorem State.handOut_super (e : State) (o : Order) {ev : TbEvent} (hsuper : ev.super = true) :
    e.handOut o ev = runActors o (e.superAct o ev) (actorsOf o) e := by
  unfold State.handOut
  congr 1
  funext a u
  cases a with
  | player q => rfl
  | safeUnit | superframeNotice => exact if_pos hsuper

section Agents

variable {e : State} {o : Order} {ev : TbEvent} {who : PlayerId → Prop} {r : Safe}

/-- Every agent but the Safe Unit keeps what is held. -/
theorem State.superAct_kept (hsuper : ev.super = true) (hoff : e.params.faultToSafe = false) (hrest : ∀ q, (e.player q).resting)
    {a : Actor} (ha : a ≠ .safeUnit) {u : State} (hu : e.Kept who r u) : e.Kept who r (e.superAct o ev a u) := by
  cases a with
  | player q =>
    refine hu.act hoff (u.handTo_calm o ev _ q) (u.handTo_clock o ev _ q) fun q' hq' => ?_
    by_cases hq : q' = q
    · subst hq
      have hsame := State.handTo_sameHold (o := o) hsuper (hrest q') (hu.resting hq' (hrest q'))
      exact ⟨hsame.state, hsame.cause⟩
    · rw [show e.superAct o ev (.player q) u = u.handTo o ev (e.player q) q from rfl,
        (u.handTo_acts o ev (e.player q) q).others q' hq]
      exact ⟨rfl, rfl⟩
  | safeUnit => exact absurd rfl ha
  | superframeNotice =>
    refine hu.act hoff (u.produce_calm .superframe) (u.produce_clock .superframe) fun q _ => ?_
    rw [show e.superAct o ev .superframeNotice u = u.produce .superframe from rfl, State.produce_player]
    exact ⟨rfl, rfl⟩

/-- Every agent but the Safe Unit and the player acts apart from the player. -/
theorem State.superAct_apart (hsuper : ev.super = true) (hrest : ∀ q, (e.player q).resting) {solo : Prop} {p : PlayerId}
    (hsolo : solo → ∀ q, q ≠ p → who q) {a : Actor} (ha : a ≠ .safeUnit) (hp : a ≠ .player p) {u : State}
    (hu : e.Kept who r u) : Apart solo p u (e.superAct o ev a u) := by
  cases a with
  | player q =>
    have hq : q ≠ p := fun h => hp (congrArg Actor.player h)
    refine ⟨⟨(u.handTo_acts o ev _ q).others p hq.symm, u.handTo_fixed o ev _ q, u.handTo_clock o ev _ q,
      u.handTo_drains o ev _ q⟩, fun h => ?_⟩
    exact (State.handTo_sameHold hsuper (hrest q) (hu.resting (hsolo h q hq) (hrest q))).inputs
  | safeUnit => exact absurd rfl ha
  | superframeNotice =>
    exact ⟨⟨u.produce_player .superframe p, u.produce_fixed .superframe, u.produce_clock .superframe,
      .same (u.produce_inputs .superframe)⟩, fun _ => u.produce_inputs .superframe⟩

/-- Agents that keep what is held, act one after another, each but the player apart from it: the player has its turn among them, or is
not one of them. -/
theorem State.Kept.turn {act : Actor → State → State} {solo : Prop} {p : PlayerId} {before rest : List Actor} {s : State}
    (hs : e.Kept who r s) (hnodup : before.Nodup)
    (hreach : ∀ u, e.Kept who r u → ∀ players exempt, u.reachPlayers players exempt = u)
    (hkeep : ∀ a ∈ before, ∀ u, e.Kept who r u → e.Kept who r (act a u))
    (hapart : ∀ a ∈ before, a ≠ .player p → ∀ u, e.Kept who r u → Apart solo p u (act a u)) :
    ∃ v, e.Kept who r v ∧ runActors o act (before ++ rest) s = runActors o act rest v ∧
      ((.player p ∉ before → Apart solo p s v) ∧
        (.player p ∈ before → ∃ u, e.Kept who r u ∧ Apart solo p s u ∧ Apart solo p (act (.player p) u) v)) := by
  obtain ⟨hv, hrun⟩ := runActors_append hreach rest before hkeep hs
  exact ⟨_, hv, hrun, fun hnot => foldl_others (Apart.refl solo p) Apart.trans before hkeep hapart hnot hs,
    fun hmem => foldl_turn (Apart.refl solo p) Apart.trans before hkeep hapart hnodup hmem hs⟩

end Agents

/-! ### The automatic release (R136, R137) -/

/-- What the automatic release makes of the player. -/
def State.releaseTurn (s : State) (o : Order) (p : PlayerId) : State :=
  if s.params.autoResume then s.autoResume o true p else s

theorem State.releaseTurn_off {s : State} (h : s.params.autoResume = false) (o : Order) (p : PlayerId) : s.releaseTurn o p = s :=
  if_neg (by rw [h]; nofun)

theorem State.releaseTurn_on {s : State} (h : s.params.autoResume = true) (o : Order) (p : PlayerId) :
    s.releaseTurn o p = s.autoResume o true p := if_pos h

theorem State.releaseTurn_notHeld {s : State} {p : PlayerId} (h : (s.player p).heldSafe = false) (o : Order) :
    s.releaseTurn o p = s := by
  unfold State.releaseTurn
  split
  · exact State.autoResume_notHeld h o true
  · rfl

/-- The automatic release takes place: AUTO_RELEASE is on, and the state is LATCHED by HOLD_LINE alone. -/
def State.releases (s : State) : Prop :=
  s.params.autoRelease = true ∧ s.safe.state = .latched ∧ s.safe.causes = { holdLine := true, request := false, fault := false }

theorem State.autoRelease_releases {s : State} (h : s.releases) (o : Order) : s.autoRelease o = s.releaseSafe o true := by
  obtain ⟨hauto, hstate, hcauses⟩ := h
  refine if_pos ?_
  rw [hauto, hstate, hcauses]
  rfl

theorem State.autoRelease_stays {s : State} (h : ¬s.releases) (o : Order) : s.autoRelease o = s := by
  refine if_neg fun hc => h ?_
  simp only [Bool.and_eq_true, decide_eq_true_eq] at hc
  obtain ⟨⟨hauto, hstate⟩, hcauses⟩ := hc
  exact ⟨hauto, hstate, hcauses⟩

theorem safeUnit_mem_actorsOf (o : Order) : .safeUnit ∈ actorsOf o :=
  foldl_addActor_mem (.inr (List.mem_append.mpr (.inr (by simp [usualActors]))))

section Release

variable {e : State} {o : Order} {ev : TbEvent}

/-- Not HELD by SAFE as the start came. -/
def State.notHeldSafe (e : State) (q : PlayerId) : Prop := (e.player q).heldSafe = false

/-- Nobody but the player is HELD by SAFE as the start came. -/
def State.heldAlone (e : State) (p : PlayerId) : Prop := ∀ q, q ≠ p → e.notHeldSafe q

/-- A resume of another player at the release keeps what is held. -/
theorem State.autoResume_kept (hoff : e.params.faultToSafe = false) (q : PlayerId) {r : Safe} {u : State}
    (hu : e.Kept e.notHeldSafe r u) : e.Kept e.notHeldSafe r (u.autoResume o true q) := by
  refine hu.act hoff (u.autoResume_calm o true q) (u.autoResume_clock o true q) fun q' hq' => ?_
  by_cases hq : q' = q
  · subst hq
    rw [State.autoResume_notHeld ((hu.heldSafe hq').trans hq')]
    exact ⟨rfl, rfl⟩
  · rw [(u.autoResume_acts o true q).others q' hq]
    exact ⟨rfl, rfl⟩

theorem State.autoResume_apart {p q : PlayerId} (hq : q ≠ p) {r : Safe} {u : State} (hu : e.Kept e.notHeldSafe r u) :
    Apart (e.heldAlone p) p u (u.autoResume o true q) := by
  refine ⟨u.autoResume_around o true hq, fun h => ?_⟩
  rw [State.autoResume_notHeld ((hu.heldSafe (h q hq)).trans (h q hq))]

/-- The release made while everybody rests: the record released, and the player as its own part in it leaves it. -/
theorem State.Kept.release {v : State} (hv : e.Kept (fun _ => True) e.safe v) (hoff : e.params.faultToSafe = false)
    (hstamp : v.stamp = e.stamp) (p : PlayerId) :
    e.Kept e.notHeldSafe e.releasedSafe (v.releaseSafe o true) ∧
      ∃ x, e.Kept e.notHeldSafe e.releasedSafe x ∧ Apart (e.heldAlone p) p v x ∧
        Apart (e.heldAlone p) p (x.releaseTurn o p) (v.releaseSafe o true) := by
  let w := v.changeSafe .clear Causes.empty 0
  have hw : e.Kept e.notHeldSafe e.releasedSafe w := {
    safe := by
      rw [State.changeSafe_safe, hv.safe, hstamp]
      rfl
    clock := (v.changeSafe_clock _ _ _).trans hv.clock
    hold := fun q _ => by
      rw [State.changeSafe_player]
      exact hv.hold q trivial }
  have hvw : Apart (e.heldAlone p) p v w := ⟨v.changeSafe_around _ _ _ p, fun _ => v.changeSafe_inputs _ _ _⟩
  by_cases hauto : e.params.autoResume = true
  · have hrelease : v.releaseSafe o true = eachPlayer o (fun q u => u.autoResume o true q) w :=
      if_pos (by rw [hw.params]; exact hauto)
    obtain ⟨t, ht, hrun, -, hturn⟩ := hw.turn (o := o) (rest := []) (p := p) (solo := e.heldAlone p) (before := actorsOf o)
      (act := fun a u => match a with
        | .player q => u.autoResume o true q
        | .safeUnit | .superframeNotice => u)
      (actorsOf_nodup o) (fun u hu => hu.reach_clear rfl)
      (fun a _ u hu => by
        cases a with
        | player q => exact State.autoResume_kept hoff q hu
        | safeUnit | superframeNotice => exact hu)
      (fun a _ hne u hu => by
        cases a with
        | player q => exact State.autoResume_apart (fun h => hne (congrArg Actor.player h)) hu
        | safeUnit | superframeNotice => exact .refl _ p u)
    obtain ⟨x, hx, hwx, hxt⟩ := hturn (mem_actorsOf o p)
    have hend : v.releaseSafe o true = t := by
      rw [hrelease]
      rw [List.append_nil] at hrun
      exact hrun
    rw [hend]
    exact ⟨ht, x, hx, hvw.trans hwx, by rw [State.releaseTurn_on (by rw [hx.params]; exact hauto)]; exact hxt⟩
  · have hauto' : w.params.autoResume = false := by
      rw [hw.params]
      exact Bool.eq_false_iff.mpr hauto
    have hrelease : v.releaseSafe o true = w := if_neg (by rw [hauto']; nofun)
    rw [hrelease]
    exact ⟨hw, w, hw, hvw, by rw [State.releaseTurn_off hauto']; exact .refl _ p w⟩

/-- The player's turn before the release, or after it. -/
def State.TurnAtRelease (e : State) (o : Order) (ev : TbEvent) (p : PlayerId) (t : State) : Prop :=
  (∃ u x, Apart (e.heldAlone p) p e u ∧ Apart (e.heldAlone p) p (u.handTo o ev (e.player p) p) x ∧ x.safe = e.releasedSafe ∧
    Apart (e.heldAlone p) p (x.releaseTurn o p) t) ∨
  (∃ x y, Apart (e.heldAlone p) p e x ∧ x.safe = e.releasedSafe ∧ Apart (e.heldAlone p) p (x.releaseTurn o p) y ∧
    Apart (e.heldAlone p) p (y.handTo o ev (e.player p) p) t)

/-- A superframe start that makes no release keeps the safe record. -/
theorem State.handOut_keepsRecord (hsuper : ev.super = true) (hoff : e.params.faultToSafe = false)
    (hrest : ∀ q, (e.player q).resting) (h : ¬e.releases) : (e.handOut o ev).safe = e.safe := by
  rw [e.handOut_super o hsuper]
  have hkept := runActors_foldl (o := o) (P := e.Kept (fun _ => True) e.safe) (act := e.superAct o ev) (s := e)
    (fun u hu => hu.reach_still hrest) (actorsOf o) (fun a _ u hu => ?_) (.refl e _)
  · obtain ⟨hend, hrun⟩ := hkept
    rw [hrun, hend.safe]
  · by_cases ha : a = .safeUnit
    · subst ha
      have hstays : ¬u.releases := by
        rw [State.releases, hu.params, hu.safe]
        exact h
      rw [show e.superAct o ev .safeUnit u = u.autoRelease o from rfl, State.autoRelease_stays hstays]
      exact hu
    · exact State.superAct_kept hsuper hoff hrest ha hu

/-- A superframe start that makes the release: the record released, and each player with its turn before or after it. -/
theorem State.handOut_releases (hsuper : ev.super = true) (hoff : e.params.faultToSafe = false)
    (hrest : ∀ q, (e.player q).resting) (h : e.releases) (p : PlayerId) :
    (e.handOut o ev).safe = e.releasedSafe ∧ e.TurnAtRelease o ev p (e.handOut o ev) := by
  obtain ⟨before, after, hactors⟩ := List.append_of_mem (safeUnit_mem_actorsOf o)
  have hnodup := actorsOf_nodup o
  have hpmem := mem_actorsOf o p
  rw [hactors] at hnodup hpmem
  obtain ⟨hbefore, hrestNodup, hdisjoint⟩ := List.nodup_append.mp hnodup
  obtain ⟨hunit, hafter⟩ := List.nodup_cons.mp hrestNodup
  have hnotUnit : ∀ a ∈ before, a ≠ .safeUnit := fun a ha => hdisjoint a ha .safeUnit (List.mem_cons_self ..)
  have hnotUnit' : ∀ a ∈ after, a ≠ .safeUnit := fun a ha he => hunit (he ▸ ha)
  obtain ⟨v, hv, hrun, hout, hin⟩ := (State.Kept.refl e fun _ => True).turn (o := o) (act := e.superAct o ev) (p := p)
    (solo := e.heldAlone p) (rest := .safeUnit :: after) hbefore (fun u hu => hu.reach_still hrest)
    (fun a ha u hu => State.superAct_kept hsuper hoff hrest (hnotUnit a ha) hu)
    (fun a ha hne u hu => State.superAct_apart hsuper hrest (fun _ _ _ => trivial) (hnotUnit a ha) hne hu)
  have hvreleases : v.releases := by
    rw [State.releases, hv.params, hv.safe]
    exact h
  obtain ⟨hw, x, hx, hvx, hxw⟩ := hv.release (o := o) hoff (State.stamp_of_clock hv.clock) p
  obtain ⟨t, ht, hrun', hout', hin'⟩ := hw.turn (o := o) (act := e.superAct o ev) (p := p) (solo := e.heldAlone p) (rest := [])
    hafter (fun u hu => hu.reach_clear rfl)
    (fun a ha u hu => State.superAct_kept hsuper hoff hrest (hnotUnit' a ha) hu)
    (fun a ha hne u hu => State.superAct_apart hsuper hrest (fun h q hq => h q hq) (hnotUnit' a ha) hne hu)
  have hend : e.handOut o ev = t := by
    rw [e.handOut_super o hsuper, hactors, hrun, runActors]
    simp only [State.superAct, State.autoRelease_releases hvreleases, hw.reach_clear rfl]
    rw [List.append_nil] at hrun'
    exact hrun'
  rw [hend]
  refine ⟨ht.safe, ?_⟩
  by_cases hp : .player p ∈ before
  · obtain ⟨u, -, heu, huv⟩ := hin hp
    have hpafter : .player p ∉ after := fun ha => hdisjoint _ hp _ (List.mem_cons_of_mem _ ha) rfl
    exact .inl ⟨u, x, heu, huv.trans hvx, hx.safe, hxw.trans (hout' hpafter)⟩
  · have hpafter : .player p ∈ after := by
      rcases List.mem_append.mp hpmem with hb | hc
      · exact absurd hb hp
      · exact (List.mem_cons.mp hc).resolve_left nofun
    obtain ⟨y, -, hwy, hyt⟩ := hin' hpafter
    exact .inr ⟨x, y, (hout hp).trans hvx, hx.safe, hxw.trans hwy, hyt⟩

end Release

end Sys2Proof.Machine

/-! PROOFS. What a superframe start that releases the safe state leaves of each player, with its turn before or after the release (O36). -/

namespace Sys2Proof.Machine

/-! ### Records (R96, R137) -/

theorem Player.swapped_commitsSuper (r : Player) (new : ListId) : (r.swapped new).commitsSuper = false := rfl

theorem Player.atStepZero_commitsSuper (r : Player) (dwell : BitVec 16) : (r.atStepZero dwell).commitsSuper = r.commitsSuper := by
  unfold Player.atStepZero
  split <;> rfl

/-- With nothing owed to it, a player that is held no more is owed nothing. -/
theorem Player.unheld_nothingOwed {r : Player} (h : r.owed = none) :
    ({ r with state := .running, holdCause := none, owed := none } : Player) = r.unheld := by
  rw [Player.unheld, ← h]

section Turn

variable {e u x y t : State} {o : Order} {ev : TbEvent} {p : PlayerId} {new : ListId} {first : Step} {lines levels : LineSet}
  {dwell : BitVec 16}

/-- The player's turn at the start keeps the steps of lists and the parameters. -/
theorem Around.handTo (heu : Around p e u) {before : Player} (hux : Around p (u.handTo o ev before p) x) :
    (∀ l, (x.list l).steps = (e.list l).steps) ∧ x.params = e.params := by
  have hfixed : x.fixed = e.fixed := hux.fixed.trans ((u.handTo_fixed o ev before p).trans heu.fixed)
  have hclock : x.clock = e.clock := hux.clock.trans ((u.handTo_clock o ev before p).trans heu.clock)
  exact ⟨State.steps_of_fixed hfixed, State.params_of_clock hclock⟩

/-! ### A player without a commit -/

/-- A player without a commit, which the order does not make late, ends as the release leaves it. -/
theorem State.TurnAtRelease.player_plain (h : e.TurnAtRelease o ev p t) (hlate : p ∉ o.lateEvent) (hrest : (e.player p).resting)
    (hcommit : (e.player p).commitsSuper = false) {r : Player} (hr : r.commitsSuper = false)
    (hturn : ∀ x, Around p e x → x.safe = e.releasedSafe → (x.releaseTurn o p).player p = r) : t.player p = r := by
  rcases h with ⟨u, x, heu, hux, hx, hxt⟩ | ⟨x, y, hex, hx, hxy, hyt⟩
  · rw [State.handTo_rests hlate hrest (by rw [heu.player]; exact hcommit)] at hux
    rw [hxt.player, hturn x (heu.trans hux).toAround hx]
  · have hy : y.player p = r := by rw [hxy.player, hturn x hex.toAround hx]
    rw [hyt.player, State.handTo_rests hlate hrest (by rw [hy]; exact hr), hy]

/-- One that the release does not resume keeps its record. -/
theorem State.TurnAtRelease.player_stays (h : e.TurnAtRelease o ev p t) (hlate : p ∉ o.lateEvent) (hrest : (e.player p).resting)
    (hcommit : (e.player p).commitsSuper = false) (hstays : (e.player p).heldSafe = false ∨ e.params.autoResume = false) :
    t.player p = e.player p := by
  refine h.player_plain hlate hrest hcommit hcommit fun x hex _ => ?_
  rcases hstays with hheld | hoff
  · rw [State.releaseTurn_notHeld (by rw [hex.player]; exact hheld), hex.player]
  · rw [State.releaseTurn_off (by rw [hex.params]; exact hoff), hex.player]

/-- One whose frozen step counts goes on with it, and does not act on this start. -/
theorem State.TurnAtRelease.player_goesOn (h : e.TurnAtRelease o ev p t) (hlate : p ∉ o.lateEvent)
    (hcommit : (e.player p).commitsSuper = false) (hheld : (e.player p).heldSafe = true) (hauto : e.params.autoResume = true)
    (hact : (e.player p).activity = .stepping ∨ (e.player p).activity = .pulseWidth ∨ (e.player p).activity = .fitWait) :
    t.player p = (e.player p).unheld := by
  refine h.player_plain hlate (Player.heldSafe_resting hheld) hcommit hcommit fun x hex hx => ?_
  rw [State.releaseTurn_on (by rw [hex.params]; exact hauto), State.autoResume_held (by rw [hx]; rfl)
    (by rw [hex.player]; exact hheld) o (by rw [hex.player, hcommit]; rfl), State.resumePlayer_counts (by rw [hex.player]; exact hact),
    x.unheld_player, hex.player]

/-! ### A player whose replacement commits -/

/-- One that the release does not resume rests on the new list. -/
theorem State.TurnAtRelease.player_swapped (h : e.TurnAtRelease o ev p t) (hsuper : ev.super = true)
    (hlate : p ∉ o.lateEvent) (hrest : (e.player p).resting) (hpending : (e.player p).replacement = some (new, .superframe))
    (hoff : e.params.autoResume = false) : t.player p = (e.player p).swapped new := by
  have hcommits : ∀ z : State, z.player p = e.player p →
      (z.handTo o ev (e.player p) p).player p = (e.player p).swapped new := fun z hz => by
    rw [State.handTo_commits hlate hsuper (by rw [hz]; exact hrest) (by rw [hz]; exact hpending), z.superCommitted_player, hz]
  rcases h with ⟨u, x, heu, hux, -, hxt⟩ | ⟨x, y, hex, -, hxy, hyt⟩
  · obtain ⟨-, hparams⟩ := Around.handTo heu.toAround hux.toAround
    rw [hxt.player, State.releaseTurn_off (by rw [hparams]; exact hoff), hux.player, hcommits u heu.player]
  · rw [State.releaseTurn_off (by rw [hex.params]; exact hoff)] at hxy
    rw [hyt.player, hcommits y (hxy.player.trans hex.player)]

/-- A player HELD by SAFE as its turn before the release leaves it, late or not: the release puts it on step 0 of the new list. -/
theorem State.releaseTurn_afterStart (heu : Around p e u) (hux : Around p (u.handTo o ev (e.player p) p) x)
    (hx : x.safe = e.releasedSafe) (hsuper : ev.super = true) (hheld : (e.player p).heldSafe = true)
    (hpending : (e.player p).replacement = some (new, .superframe)) (hfirst : (e.list new).steps[0]? = some first)
    (hplain : first.plainSet lines levels dwell) (hauto : e.params.autoResume = true) (howed : (e.player p).owed = none) :
    (x.releaseTurn o p).player p = ((e.player p).unheld.swapped new).atStepZero dwell ∧
      (x.releaseTurn o p).inputs = x.inputs := by
  obtain ⟨hsteps, hparams⟩ := heu.handTo hux
  have hclear : x.safe.state = .clear := by rw [hx]; rfl
  have hfirst' : (x.list new).steps[0]? = some first := by rw [hsteps]; exact hfirst
  have hu : (u.player p).replacement = some (new, .superframe) := by rw [heu.player]; exact hpending
  rw [State.releaseTurn_on (by rw [hparams]; exact hauto)]
  by_cases hlate : p ∈ o.lateEvent
  · obtain ⟨w, hw⟩ := State.handTo_owes (o := o) (before := e.player p) hlate hsuper (Player.commitsSuper_of hu)
    have hxp : x.player p = { e.player p with owed := some w } := by
      rw [hux.player, hw, State.setPlayer_player_same, heu.player]
    obtain ⟨hplayer, hinputs⟩ := State.autoResume_commits hclear (by rw [hxp]; exact hheld) (by rw [hxp]; exact hpending) hfirst'
      hplain o
    refine ⟨?_, hinputs⟩
    rw [hplayer, hxp]
    exact congrArg (fun r : Player => (r.swapped new).atStepZero dwell) (Player.unheld_nothingOwed howed)
  · have hrest := Player.heldSafe_resting hheld
    have hxp : x.player p = (e.player p).swapped new := by
      rw [hux.player, State.handTo_commits hlate hsuper (by rw [heu.player]; exact hrest) hu, u.superCommitted_player, heu.player]
    obtain ⟨hplayer, hinputs⟩ := State.autoResume_stepZero hclear (by rw [hxp]; exact hheld) (by rw [hxp]; rfl) (by rw [hxp]; rfl)
      (by rw [hxp]; rfl) ⟨new, first, by rw [hxp]; rfl, hfirst', hplain⟩ o
    refine ⟨?_, hinputs⟩
    rw [hplayer, hxp]
    rfl

/-- A player HELD by SAFE is on step 0 of the new list, whichever of release and commit comes first, and with nobody else HELD by SAFE
every latch stays. -/
theorem State.TurnAtRelease.player_entered (h : e.TurnAtRelease o ev p t) (hsuper : ev.super = true)
    (hheld : (e.player p).heldSafe = true) (hpending : (e.player p).replacement = some (new, .superframe))
    (hfirst : (e.list new).steps[0]? = some first) (hplain : first.plainSet lines levels dwell)
    (hauto : e.params.autoResume = true) (howed : (e.player p).owed = none) :
    t.player p = ((e.player p).unheld.swapped new).atStepZero dwell ∧ (e.heldAlone p → t.inputs = e.inputs) := by
  have hrest := Player.heldSafe_resting hheld
  rcases h with ⟨u, x, heu, hux, hx, hxt⟩ | ⟨x, y, hex, hx, hxy, hyt⟩
  · obtain ⟨hplayer, hinputs⟩ := State.releaseTurn_afterStart heu.toAround hux.toAround hx hsuper hheld hpending hfirst hplain hauto
      howed
    have hstart := State.handTo_sameHold (s := u) (o := o) (p := p) hsuper hrest (by rw [heu.player]; exact hrest)
    refine ⟨by rw [hxt.player, hplayer], fun halone => ?_⟩
    rw [hxt.inputs halone, hinputs, hux.inputs halone, hstart.inputs, heu.inputs halone]
  · obtain ⟨hplayer, hinputs⟩ := State.autoResume_commits (s := x) (by rw [hx]; rfl) (by rw [hex.player]; exact hheld)
      (by rw [hex.player]; exact hpending) (by rw [hex.steps]; exact hfirst) hplain o
    rw [State.releaseTurn_on (by rw [hex.params]; exact hauto)] at hxy
    have hy : y.player p = ((e.player p).unheld.swapped new).atStepZero dwell := by
      rw [hxy.player, hplayer, hex.player, Player.unheld_nothingOwed howed]
    rw [State.handTo_committed hsuper hrest (Player.commitsSuper_of hpending)
      (by rw [hy, Player.atStepZero_commitsSuper, Player.swapped_commitsSuper])] at hyt
    refine ⟨by rw [hyt.player, hy], fun halone => ?_⟩
    rw [hyt.inputs halone, hxy.inputs halone, hinputs, hex.inputs halone]

end Turn

/-- Settles O36: the tick hands the superframe start out while everybody rests, and each player has its turn before the release or
after it. -/
theorem superframeStartReleasesTheSafeState : Obligations.SuperframeStartReleasesTheSafeState := by
  intro s c o htick hsuper _ hstill hoff hdue howed alone releases
  obtain ⟨e, ev, hexec, hev, hands⟩ := htick.handsSuper ⟨hstill, hdue, howed⟩ hsuper
  have hrest : ∀ q, (e.player q).resting := fun q => by
    rw [hands.player]
    exact hstill q
  have hoff' : e.params.faultToSafe = false := hands.toSafe.trans hoff
  have hreleases : e.releases ↔ releases := by rw [State.releases, hands.autoRelease, hands.safe]
  refine ⟨_, hexec, fun hno => ?_, fun hyes => ⟨?_, fun p => ?_⟩⟩
  · rw [State.transmit_safe, State.handOut_keepsRecord hev hoff' hrest (fun h => hno (hreleases.mp h)), hands.safe]
  · obtain ⟨hsafe, -⟩ := State.handOut_releases (o := o) hev hoff' hrest (hreleases.mpr hyes) 0
    rw [State.transmit_safe, hsafe, State.releasedSafe, hands.safe, hands.stamp]
    rfl
  · obtain ⟨-, hturn⟩ := State.handOut_releases (o := o) hev hoff' hrest (hreleases.mpr hyes) p
    intro r
    have hp : e.player p = r := hands.player p
    rw [State.transmit_player]
    refine ⟨fun hlate hcommit => ⟨fun hstays => ?_, fun hheld hauto hact => ?_⟩,
      fun new first lines levels dwell hheld hpending hfirst hplain => ?_⟩
    · rw [hturn.player_stays hlate (hrest p) (by rw [hp]; exact hcommit) (by rw [hp, hands.autoResume]; exact hstays), hp]
    · rw [hturn.player_goesOn hlate (by rw [hp]; exact hcommit) (by rw [hp]; exact hheld) (hands.autoResume.trans hauto)
        (by rw [hp]; exact hact), hp]
      rfl
    · intro swapped
      have hentered : s.params.autoResume = true → _ := fun hauto =>
        hturn.player_entered hev (by rw [hp]; exact hheld) (by rw [hp]; exact hpending) (by rw [hands.steps]; exact hfirst) hplain
          (hands.autoResume.trans hauto) (by rw [hp]; exact howed p)
      refine ⟨fun hlate hauto => ?_, fun hauto => ?_, fun hauto halone n => ?_⟩
      · rw [hturn.player_swapped hev hlate (hrest p) (by rw [hp]; exact hpending) (hands.autoResume.trans hauto), hp]
        rfl
      · rw [(hentered hauto).1, hp]
        rfl
      · have hinputs := (hentered hauto).2 fun q hq => by
          rw [State.notHeldSafe, hands.player]
          exact halone q hq
        rw [State.transmit_input, State.input, hinputs, hands.inputs]
        rfl

end Sys2Proof.Machine

/-! PROOFS. What the transmitter begins (R149, R170), and the end of a sent frame (O44). -/

namespace Sys2Proof.Machine

/-! ### What a free transmitter begins (R149, R170) -/

section Begins

variable {s : State}

theorem State.transmit_reply (hlive : s.phase = .live) (hfree : s.link.tx = none) {e : ReplyEntry} {es : List ReplyEntry}
    (h : s.link.replies = e :: es) :
    s.transmit = { s with link := { s.link with tx := some { source := .reply, frame := e.frame } } } := by
  simp only [State.transmit, hlive, hfree, h]

theorem State.transmit_reject (hlive : s.phase = .live) (hfree : s.link.tx = none) {f : Frame} (hr : s.link.replies = [])
    (h : s.link.reject = some f) :
    s.transmit = { s with link := { s.link with reject := none, tx := some { source := .reject, frame := f } } } := by
  simp only [State.transmit, hlive, hfree, hr, h]

theorem State.transmit_notice (hlive : s.phase = .live) (hfree : s.link.tx = none) {n : Notice} {ns : List Notice}
    (hr : s.link.replies = []) (hj : s.link.reject = none) (hm : s.notices.muted = false) (h : s.notices.queue = n :: ns) :
    s.transmit = { s with
      link := { s.link with tx := some { source := .notice, frame := noticeFrame n s.notices.gap s.notices.seq } }
      notices := { s.notices with queue := ns, gap := false, seq := s.notices.seq + 1 } } := by
  simp only [State.transmit, hlive, hfree, hr, hj, hm, h]

/-- No reply is filled, no reject waits, and no notice may be sent. -/
def State.nothingReady (s : State) : Prop :=
  s.link.replies = [] ∧ s.link.reject = none ∧ (s.notices.muted = true ∨ s.notices.queue = [])

theorem State.transmit_still (h : s.nothingReady) : s.transmit = s := by
  obtain ⟨hr, hj, hq⟩ := h
  unfold State.transmit
  split
  · simp only [hr, hj]
    rcases hq with hm | hq
    · simp only [hm]
    · cases s.notices.muted <;> simp only [hq]
  · rfl

/-- A transmitter that is sending begins nothing. -/
theorem State.transmit_sending {t : Sending} (h : s.link.tx = some t) : s.transmit = s := by
  unfold State.transmit
  split
  case h_1 hnone => cases h.symm.trans hnone
  case h_2 => rfl

end Begins

/-! ### The end of a sent frame (R142, R145, R149, R165) -/

section FrameEnd

variable {s : State} {t : Sending}

theorem State.frameEnd_idle (h : s.link.tx = none) : s.frameEnd = s := by
  simp only [State.frameEnd, h]

theorem State.frameEnd_other (h : s.link.tx = some t) (hs : t.source ≠ .reply) :
    s.frameEnd = { s with link := { s.link with tx := none } } := by
  unfold State.frameEnd
  simp only [h]
  split
  · contradiction
  · rfl

theorem State.frameEnd_reply {e : ReplyEntry} {es : List ReplyEntry} (h : s.link.tx = some t) (hs : t.source = .reply)
    (hr : s.link.replies = e :: es) :
    s.frameEnd = ({ s with link := { s.link with tx := none, replies := es } } : State).replyEnd e.effect := by
  simp only [State.frameEnd, h, hs, hr]

theorem exec_frameSent_live (h : s.phase = .live) : exec .frameSent s = .next s.frameEnd.transmit :=
  congrArg Host.Outcome.next (State.live_live h _)

/-- The start-up reset leaves nothing to send (R150, R172). -/
theorem State.startUpValues_nothingReady (s : State) (phase : Phase) : State.nothingReady { s.startUpValues with phase := phase } :=
  ⟨rfl, rfl, .inr rfl⟩

/-- The end of a RELOAD reply makes the start-up reset on a part that is not held (R165; log 12). -/
theorem State.replyEnd_reload (s : State) : (s.replyEnd .reload).transmit = { s.startUpValues with phase := .live } :=
  State.transmit_still (s.startUpValues_nothingReady .live)

theorem State.startUpValues_input (s : State) (n : InputId) : s.startUpValues.input n = Input.blank := by
  simp [State.input, State.startUpValues]

end FrameEnd

/-- Settles O44: by the source of the frame that is sent, and by what the end of its reply does; then by what is ready. -/
theorem frameSentFreesAndTheNextBegins : Obligations.FrameSentFreesAndTheNextBegins := by
  refine ⟨fun s hlive => ⟨fun hidle => ?_, fun t ht hs => ?_, fun t e es ht hs hr => ?_⟩, fun s hlive hfree =>
    ⟨fun e es hr => State.transmit_reply hlive hfree hr, fun f hr hj => State.transmit_reject hlive hfree hr hj,
      fun n ns hr hj hm hq => State.transmit_notice hlive hfree hr hj hm hq,
      fun hr hj hq => State.transmit_still ⟨hr, hj, hq⟩⟩⟩
  · rw [exec_frameSent_live hlive, State.frameEnd_idle hidle]
  · rw [exec_frameSent_live hlive, State.frameEnd_other ht hs]
  · rw [exec_frameSent_live hlive, State.frameEnd_reply ht hs hr]
    refine ⟨fun he => by rw [he]; rfl, fun r he => by rw [he]; rfl, fun he => ?_⟩
    rw [he, State.replyEnd_reload]
    exact ⟨_, rfl, rfl, rfl, rfl, rfl, rfl, rfl, rfl, State.replicate_player, rfl, rfl, rfl, rfl, rfl, rfl,
      s.startUpValues_input, rfl, rfl⟩

end Sys2Proof.Machine

/-! PROOFS. Frames received byte by byte and judged, and receive errors (O42). -/

namespace Sys2Proof.Machine

/-! ### A whole frame is received byte by byte (R143) -/

section Received

variable {s : State}

theorem State.rxByte_body {len : Nat} {got : List Byte} (h : s.link.rx = .body len got) (b : Byte) :
    s.rxByte b = s.setRx (if got.length + 1 < len then .body len (got ++ [b]) else .check (got ++ [b]) none) (some 0) := by
  simp only [State.rxByte, h]
  split <;> rfl

/-- The bytes that a frame still has after its LEN are stored, and the receiver waits for its check bytes. -/
theorem State.foldl_rxByte_body {len : Nat} (bs got : List Byte) (h : s.link.rx = .body len got) (hne : bs ≠ [])
    (hlen : got.length + bs.length = len) : bs.foldl State.rxByte s = s.setRx (.check (got ++ bs) none) (some 0) := by
  induction bs generalizing got s with
  | nil => exact absurd rfl hne
  | cons b bs ih =>
    rw [List.foldl_cons, State.rxByte_body h]
    rw [List.length_cons] at hlen
    cases bs with
    | nil => rw [if_neg (show ¬got.length + 1 < len by simp at hlen; omega), List.foldl_nil]
    | cons c bs =>
      have hmore : got.length + 1 < len := by rw [List.length_cons] at hlen; omega
      have hstored : (got ++ [b]).length + (c :: bs).length = len := by simp at hlen ⊢; omega
      rw [if_pos hmore, ih (s := s.setRx (.body len (got ++ [b])) (some 0)) (got ++ [b]) rfl (List.cons_ne_nil c bs) hstored,
        List.append_assoc]
      rfl

/-- The check bytes end a frame. -/
theorem State.rxByte_check {got : List Byte} (h : s.link.rx = .check got none) (hi lo : Byte) :
    (s.rxByte hi).rxByte lo = (s.setRx (.check got (some hi)) (some 0)).judgeFrame got (word16 hi lo) := by
  simp only [State.rxByte, h, State.setRx]

theorem State.setRx_setRx (s : State) (rx rx' : Receiver) (timer timer' : Option Nat) :
    (s.setRx rx timer).setRx rx' timer' = s.setRx rx' timer' := rfl

theorem State.setRx_linkError (s : State) (rx : Receiver) (timer : Option Nat) (cause : LinkCause) :
    (s.setRx rx timer).linkError cause = s.linkError cause := rfl

/-- The outcome of a whole frame: a good one is judged for its entry, any other is a receive error. -/
def State.frameJudged (s : State) (f : Frame) : State :=
  if f.check = frameCheck f.tag f.kind f.payload then (s.setRx .hunt none).enterInbox f else s.linkError .badCheck

theorem State.judgeFrame_whole (s : State) (rx : Receiver) (timer : Option Nat) (f : Frame) :
    (s.setRx rx timer).judgeFrame (f.tag :: f.kind :: f.payload) f.check = s.frameJudged f := by
  simp only [State.judgeFrame, State.frameJudged, State.setRx_setRx, State.setRx_linkError, eq_comm]

theorem frame_wellFormed_iff (f : Frame) : f.wellFormed = true ↔ f.payload.length ≤ 248 := by
  simp [Frame.wellFormed, legalLen]

/-- In LENGTH, what follows the SOF of a frame of a legal length is received and judged. -/
theorem State.rxBytes_afterSof {f : Frame} (h : s.link.rx = .length) (hlen : f.payload.length ≤ 248) :
    s.rxBytes (frameBytesAfterSof f) = s.frameJudged f := by
  have hsize : (BitVec.ofNat 8 (f.payload.length + 2)).toNat = f.payload.length + 2 := by
    rw [BitVec.toNat_ofNat, Nat.mod_eq_of_lt (by omega)]
  have hfirst : s.rxByte (BitVec.ofNat 8 (f.payload.length + 2)) = s.setRx (.body (f.payload.length + 2) []) (some 0) := by
    have hlegal : legalLen (f.payload.length + 2) = true := by simp [legalLen, hlen]
    simp only [State.rxByte, h, hsize, hlegal, if_true]
  have hbody := State.foldl_rxByte_body (s := s.setRx (.body (f.payload.length + 2) []) (some 0))
    (f.tag :: f.kind :: f.payload) [] rfl (List.cons_ne_nil _ _) (by simp)
  have hframe : frameBytesAfterSof f = BitVec.ofNat 8 (f.payload.length + 2) :: ((f.tag :: f.kind :: f.payload) ++
    [f.check.extractLsb' 8 8, f.check.extractLsb' 0 8]) := rfl
  rw [State.rxBytes_eq, hframe, List.foldl_cons, List.foldl_append, hfirst, hbody, List.foldl_cons, List.foldl_cons,
    List.foldl_nil, State.rxByte_check rfl, word16_countBytes, List.nil_append]
  exact s.judgeFrame_whole _ _ f

/-- A whole frame is received alike from HUNT and from LENGTH after its SOF (log 9). -/
theorem exec_frameReceived_live {f : Frame} (hlive : s.phase = .live) (hrx : s.link.rx = .hunt ∨ s.link.rx = .length)
    (hlen : f.payload.length ≤ 248) : exec (.frameReceived f) s = .next (s.frameJudged f).transmit := by
  refine congrArg Host.Outcome.next ((State.live_live hlive _).trans (congrArg State.transmit ?_))
  rw [if_pos ((frame_wellFormed_iff f).mpr hlen)]
  rcases hrx with h | h
  · have hsof : s.rxByte 0xA5#8 = s.setRx .length (some 0) := by simp [State.rxByte, h]
    have hrest := (s.setRx .length (some 0)).rxBytes_afterSof (f := f) rfl hlen
    rw [State.rxBytes_eq] at hrest
    rw [h, State.rxBytes_eq, bytesToCome, frameBytes, List.foldl_cons, hsof, hrest]
    rfl
  · rw [h, bytesToCome, State.rxBytes_afterSof h hlen]

/-! ### Inbox entry (R146 to R148) -/

theorem State.enterInbox_repeat {f : Frame} (h : ∃ g ∈ s.link.inbox, g.tag = f.tag ∧ g.check = f.check) :
    s.enterInbox f = s := by
  have hany : s.link.inbox.any (repeatsOf f) = true := by simpa [repeatsOf] using h
  simp only [State.enterInbox, hany, if_true]

theorem State.not_repeat {f : Frame} (h : ∀ g ∈ s.link.inbox, ¬(g.tag = f.tag ∧ g.check = f.check)) :
    s.link.inbox.any (repeatsOf f) = false := by
  simpa [repeatsOf] using h

/-- The first entry of the cache that a frame repeats is the one that answers it. -/
theorem State.cached_first {f : Frame} {before after : List CacheEntry} {e : CacheEntry}
    (hcache : s.link.cache = before ++ e :: after) (he : e.tag = f.tag ∧ e.check = f.check)
    (hbefore : ∀ e' ∈ before, ¬(e'.tag = f.tag ∧ e'.check = f.check)) : s.cached f = some e := by
  have hnone : before.find? (fun e => decide (e.tag = f.tag) && decide (e.check = f.check)) = none := by
    simpa using hbefore
  simp [State.cached, hcache, List.find?_append, hnone, he]

theorem State.cached_none {f : Frame} (h : ∀ e ∈ s.link.cache, ¬(e.tag = f.tag ∧ e.check = f.check)) : s.cached f = none := by
  simpa [State.cached] using h

theorem State.enterInbox_cached {f : Frame} {e : CacheEntry} (hnew : s.link.inbox.any (repeatsOf f) = false)
    (h : s.cached f = some e) : s.enterInbox f = if 0 < s.freeEntries then
      { s with link := { s.link with replies := s.link.replies ++ [{ frame := e.reply, effect := .plain }] } } else s := by
  simp only [State.enterInbox, hnew, h, Bool.false_eq_true, if_false]

theorem State.enterInbox_full {f : Frame} (hnew : s.link.inbox.any (repeatsOf f) = false) (h : s.cached f = none)
    (hfull : 8 ≤ s.link.inbox.length ∨ s.freeEntries = 0) :
    s.enterInbox f = { s with link := { s.link with reject := some (rejectFrame f) } } := by
  simp only [State.enterInbox, hnew, h, Bool.false_eq_true, if_false]
  exact if_pos hfull

theorem State.enterInbox_enters {f : Frame} (hnew : s.link.inbox.any (repeatsOf f) = false) (h : s.cached f = none)
    (hroom : s.link.inbox.length < 8) (hfree : 0 < s.freeEntries) :
    s.enterInbox f = { s with link := { s.link with inbox := s.link.inbox ++ [f] } } := by
  have hno : ¬(8 ≤ s.link.inbox.length ∨ s.freeEntries = 0) := by omega
  simp only [State.enterInbox, hnew, h, Bool.false_eq_true, if_false]
  exact if_neg hno

end Received

/-! ### Receive errors (R144) -/

section Errors

variable {s : State}

theorem State.byteError_eq (s : State) : s.byteError = if s.link.rx = .hunt then s else s.linkError .byteError := by
  unfold State.byteError
  cases s.link.rx <;> rfl

theorem exec_sofReceived_hunt (hlive : s.phase = .live) (h : s.link.rx = .hunt) :
    exec .sofReceived s = .next (s.setRx .length (some 0)).transmit := by
  refine congrArg Host.Outcome.next ((State.live_live hlive _).trans (congrArg State.transmit ?_))
  simp [State.rxByte, h]

theorem exec_linkBadLength_length {len : Byte} (hlive : s.phase = .live) (h : s.link.rx = .length)
    (hlen : len.toNat < 2 ∨ 250 < len.toNat) : exec (.linkBadLength len) s = .next (s.linkError .badLength).transmit := by
  have hbad : legalLen len.toNat = false := by
    rw [← Bool.not_eq_true, legalLen, Bool.and_eq_true, decide_eq_true_eq, decide_eq_true_eq]
    omega
  refine congrArg Host.Outcome.next ((State.live_live hlive _).trans (congrArg State.transmit ?_))
  simp [State.rxByte, h, hbad]

theorem exec_linkByteError_live (hlive : s.phase = .live) : exec .linkByteError s = .next s.byteError.transmit :=
  congrArg Host.Outcome.next (State.live_live hlive _)

theorem exec_linkTimeout_live (hlive : s.phase = .live) :
    exec .linkTimeout s = .next (if s.timerExpires then s.linkError .timeout else s).transmit :=
  congrArg Host.Outcome.next (State.live_live hlive _)

theorem exec_linkTimeout_early (hlive : s.phase = .live) (h : ¬s.timerExpires = true) : exec .linkTimeout s = .next s.transmit := by
  rw [exec_linkTimeout_live hlive, if_neg h]

/-! ### One byte on the line (R141) -/

theorem uartByte_stop (b : Byte) (stop : Bool) :
    uartByte ([false, b.getLsbD 0, b.getLsbD 1, b.getLsbD 2, b.getLsbD 3, b.getLsbD 4, b.getLsbD 5, b.getLsbD 6,
      b.getLsbD 7] ++ [stop]) = some (b, stop) := by
  have hbits := uartByte_uartBits b
  simp only [uartByte, uartBits, Option.some.injEq, Prod.mk.injEq, and_true] at hbits
  simp only [uartByte, List.cons_append, List.nil_append, hbits]

end Errors

/-- Settles O42: a whole frame is received and judged, by its CHECK, then as a repeat in the inbox, in the cache, or as new; then by
the receive error, and by the stop bit. -/
theorem receivedFramesAreJudged : Obligations.ReceivedFramesAreJudged := by
  refine ⟨fun s f hlive hrx hlen => ?_, fun s hlive => ⟨exec_sofReceived_hunt hlive,
    fun len h hbad => exec_linkBadLength_length hlive h hbad, fun h => ?_, fun h => ⟨?_, ?_⟩, fun k hk hearly => ?_,
    fun k h hk hlast => ?_⟩, fun s b => ⟨?_, ?_⟩⟩
  · intro link s1 repeats cached free
    rw [exec_frameReceived_live hlive hrx hlen, State.frameJudged]
    refine ⟨fun hbad => by rw [if_neg hbad]; rfl, fun hgood => ?_⟩
    rw [if_pos hgood]
    refine ⟨fun hrep => by rw [State.enterInbox_repeat (s := s.setRx .hunt none) hrep]; rfl, fun hnew => ?_⟩
    have hnot := State.not_repeat (s := s.setRx .hunt none) hnew
    refine ⟨fun before e after hcache he hbefore => ?_, fun hnone => ?_⟩
    · rw [State.enterInbox_cached hnot (State.cached_first (s := s.setRx .hunt none) hcache he hbefore)]
      split
      · rename_i hfree
        rw [if_pos (show 0 < free from hfree)]
        rfl
      · rename_i hfree
        rw [if_neg (show ¬0 < free from hfree)]
        rfl
    · have hcached := State.cached_none (s := s.setRx .hunt none) hnone
      exact ⟨fun hfull => by rw [State.enterInbox_full hnot hcached hfull]; rfl,
        fun hroom hfree => by rw [State.enterInbox_enters hnot hcached hroom hfree]; rfl⟩
  · rw [exec_linkByteError_live hlive, State.byteError_eq, if_neg h]
    rfl
  · rw [exec_linkByteError_live hlive, State.byteError_eq, if_pos h]
  · exact exec_linkTimeout_early hlive fun hexp => (s.timerExpires_iff.mp hexp).1 h
  · refine exec_linkTimeout_early hlive fun hexp => ?_
    obtain ⟨-, n, hn, hle⟩ := s.timerExpires_iff.mp hexp
    rw [hk, Option.some.injEq] at hn
    omega
  · rw [exec_linkTimeout_live hlive, if_pos (s.timerExpires_iff.mpr ⟨h, k, hk, hlast⟩)]
    rfl
  · simp only [State.rxUart, uartByte_stop]
  · simp only [State.rxUart, uartByte_stop]
    exact s.byteError_eq

end Sys2Proof.Machine

/-! PROOFS. The places of the Notice Queue (R168): no operation of play and no event of the Timebase, of an input or of HOLD_IN fills it
beyond them. -/

namespace Sys2Proof.Machine

/-! ### The Notice Queue within its places (R168) -/

/-- The Notice Queue holds at most 32 records, 31 while BOOTING. -/
def State.noticesFit (s : State) : Prop :=
  s.notices.queue.length ≤ 32 ∧ (s.boot ≠ .ready → s.notices.queue.length ≤ 31)

/-- READY alone has the number 0 (R166). -/
@[simp] theorem NoticeBody.number_eq_zero {body : NoticeBody} : body.number = 0 ↔
    ∃ result bank seq tbStarted entries, body = .ready result bank seq tbStarted entries := by
  cases body <;> simp [NoticeBody.number]

theorem State.noticesFit.of_same {s t : State} (h : s.noticesFit) (hn : t.notices = s.notices) (hb : t.boot = s.boot) :
    t.noticesFit := by
  rw [State.noticesFit, hn, hb]; exact h

/-- A notice finds a place, is merged or is discarded; only READY may take the place that is kept while BOOTING. -/
@[simp] theorem State.produce_noticesFit {s : State} {body : NoticeBody} (h : s.noticesFit) (hbody : body.number ≠ 0) :
    (s.produce body).noticesFit := by
  obtain ⟨hall, hboot⟩ := h
  rw [State.noticesFit, State.produce_boot]
  rcases s.produce_queue_length body with hsame | ⟨hmore, hroom⟩
  · rw [hsame]; exact ⟨hall, hboot⟩
  · rw [hmore]
    unfold State.noticeRoom at hroom
    split at hroom
    case isTrue hkept =>
      have : s.notices.queue.length < 31 := hroom
      exact ⟨by omega, fun _ => by omega⟩
    case isFalse hfree => exact ⟨hroom, fun hb => absurd ⟨hb, hbody⟩ hfree⟩

/-! ### Operations that leave the notices -/

@[simp] theorem State.setPlayer_noticesFit (s : State) (p : PlayerId) (r : Player) :
    (s.setPlayer p r).noticesFit ↔ s.noticesFit := Iff.rfl
@[simp] theorem State.setInput_noticesFit (s : State) (n : InputId) (r : Input) :
    (s.setInput n r).noticesFit ↔ s.noticesFit := Iff.rfl
@[simp] theorem State.rest_noticesFit (s : State) (p : PlayerId) (a : Activity) (n : Nat) :
    (s.rest p a n).noticesFit ↔ s.noticesFit := Iff.rfl
@[simp] theorem State.clearLatch_noticesFit (s : State) (n : InputId) : (s.clearLatch n).noticesFit ↔ s.noticesFit := Iff.rfl
@[simp] theorem State.writeLines_noticesFit (s : State) (lines levels : LineSet) :
    (s.writeLines lines levels).noticesFit ↔ s.noticesFit := Iff.rfl
@[simp] theorem State.idleLines_noticesFit (s : State) (lines : LineSet) :
    (s.idleLines lines).noticesFit ↔ s.noticesFit := Iff.rfl
@[simp] theorem State.clearDivider_noticesFit (s : State) : s.clearDivider.noticesFit ↔ s.noticesFit := Iff.rfl
@[simp] theorem State.lowerSyncOut_noticesFit (s : State) : s.lowerSyncOut.noticesFit ↔ s.noticesFit := Iff.rfl
@[simp] theorem State.clearPassBegun_noticesFit (s : State) : s.clearPassBegun.noticesFit ↔ s.noticesFit := Iff.rfl

@[simp] theorem State.useDownOpt_noticesFit (s : State) (l : Option ListId) :
    (s.useDownOpt l).noticesFit ↔ s.noticesFit := by cases l <;> rfl
@[simp] theorem State.raiseIf_noticesFit (s : State) (src : SyncOutSrc) : (s.raiseIf src).noticesFit ↔ s.noticesFit := by
  rw [s.raiseIf_frame]; rfl
@[simp] theorem State.trailingEdge_noticesFit (s : State) (st : Step) : (s.trailingEdge st).noticesFit ↔ s.noticesFit := by
  rw [s.trailingEdge_frame]; rfl
@[simp] theorem State.setTbState_noticesFit (s : State) (st : TbState) : (s.setTbState st).noticesFit ↔ s.noticesFit := by
  rw [s.setTbState_frame]; rfl
@[simp] theorem State.countFrame_noticesFit (s : State) (index : Nat) : (s.countFrame index).noticesFit ↔ s.noticesFit := by
  rw [s.countFrame_frame]; rfl
@[simp] theorem State.syncOutAtFrame_noticesFit (s : State) (super : Bool) :
    (s.syncOutAtFrame super).noticesFit ↔ s.noticesFit := by rw [s.syncOutAtFrame_frame]; rfl
@[simp] theorem State.syncOutAtTick_noticesFit (s : State) : s.syncOutAtTick.noticesFit ↔ s.noticesFit := by
  rw [s.syncOutAtTick_frame]; rfl
@[simp] theorem State.endSyncHold_noticesFit (s : State) : s.endSyncHold.noticesFit ↔ s.noticesFit := by
  rw [s.endSyncHold_frame]; rfl

@[simp] theorem State.abandonStep_noticesFit (s : State) (p : PlayerId) : (s.abandonStep p).noticesFit ↔ s.noticesFit := by
  unfold State.abandonStep; simp only; split <;> simp

/-! ### The safe record and the reach of an entry (R129, R133) -/

section Fits

variable {s : State}

@[simp] theorem State.changeSafe_noticesFit (h : s.noticesFit) (state : SafeState) (causes : Causes) (players : BitVec 6) :
    (s.changeSafe state causes players).noticesFit :=
  State.produce_noticesFit (State.noticesFit.of_same h rfl rfl) nofun

@[simp] theorem State.escalate_noticesFit (h : s.noticesFit) (p : PlayerId) : (s.escalate p).noticesFit := by
  unfold State.escalate
  simp only
  split
  · exact State.changeSafe_noticesFit h _ _ _
  · split
    · split
      · exact h
      · exact State.produce_noticesFit (State.noticesFit.of_same h rfl rfl) nofun
    · exact State.changeSafe_noticesFit h _ _ _

@[simp] theorem State.enterPlayer_noticesFit (h : s.noticesFit) (p : PlayerId) : (s.enterPlayer p).noticesFit := by
  unfold State.enterPlayer; simp only; split <;> simp [h]

@[simp] theorem State.reachPlayers_noticesFit (h : s.noticesFit) (players exempt : List PlayerId) :
    (s.reachPlayers players exempt).noticesFit := by
  unfold State.reachPlayers
  split
  · exact h
  · refine List.foldlRecOn players _ h fun u hu p _ => ?_
    split
    · exact hu
    · exact State.enterPlayer_noticesFit hu p

@[simp] theorem State.settle_noticesFit (h : s.noticesFit) (o : Order) : (s.settle o).noticesFit :=
  State.reachPlayers_noticesFit h _ _

theorem runActors_noticesFit {o : Order} {act : Actor → State → State} (hact : ∀ a u, u.noticesFit → (act a u).noticesFit)
    (actors : List Actor) (h : s.noticesFit) : (runActors o act actors s).noticesFit := by
  induction actors generalizing s with
  | nil => exact h
  | cons a rest ih => exact ih (State.reachPlayers_noticesFit (hact a s h) _ _)

theorem eachPlayer_noticesFit {o : Order} {act : PlayerId → State → State} (hact : ∀ p u, u.noticesFit → (act p u).noticesFit)
    (h : s.noticesFit) : (eachPlayer o act s).noticesFit := by
  refine runActors_noticesFit (fun a u hu => ?_) _ h
  cases a with
  | player p => exact hact p u hu
  | safeUnit | superframeNotice => exact hu

/-! ### Steps (R47 to R66, R84 to R89) -/

@[simp] theorem State.commitRecord_noticesFit (h : s.noticesFit) (p : PlayerId) (new : ListId) (point : CommitPoint) :
    (s.commitRecord p new point).noticesFit := by
  simp [State.commitRecord, h]

@[simp] theorem State.commitAtPassEnd_noticesFit (h : s.noticesFit) (p : PlayerId) : (s.commitAtPassEnd p).noticesFit := by
  unfold State.commitAtPassEnd; split <;> simp [h]

@[simp] theorem State.faultPlayer_noticesFit (h : s.noticesFit) (p : PlayerId) (cause : FaultCause) :
    (s.faultPlayer p cause).noticesFit := by
  unfold State.faultPlayer; simp only; split <;> simp [h]

@[simp] theorem State.noteBegin_noticesFit (h : s.noticesFit) (p : PlayerId) (st : Step) : (s.noteBegin p st).noticesFit := by
  unfold State.noteBegin; split <;> simp [h]

@[simp] theorem State.beginWait_noticesFit (h : s.noticesFit) (p : PlayerId) (st : Step) (n : InputId) (timeout : BitVec 16) :
    (s.beginWait p st n timeout).1.noticesFit := by
  unfold State.beginWait
  simp only
  split
  · split
    · simp [h]
    · split <;> simp [h]
  · simp [h]

@[simp] theorem State.beginStep_noticesFit (h : s.noticesFit) (p : PlayerId) (st : Step) : (s.beginStep p st).1.noticesFit := by
  unfold State.beginStep
  simp only
  split
  case h_2 | h_3 => simp [h]
  all_goals split <;> simp [h]

@[simp] theorem State.admitStep_noticesFit (h : s.noticesFit) (p : PlayerId) : (s.admitStep p).1.noticesFit := by
  unfold State.admitStep
  split
  · exact h
  · split
    · split <;> simp [h]
    · simp [h]

@[simp] theorem State.admitNext_noticesFit (h : s.noticesFit) (p : PlayerId) : (s.admitNext p).1.noticesFit := by
  unfold State.admitNext
  simp only
  split
  · split <;> simp [h]
  · simp [h]

@[simp] theorem State.endRun_noticesFit (h : s.noticesFit) (p : PlayerId) (cause : RunEndCause) :
    (s.endRun p cause).noticesFit := by
  simp [State.endRun, h]

@[simp] theorem State.holdQuestion_noticesFit (h : s.noticesFit) (p : PlayerId) (st : Step) :
    (s.holdQuestion p st).1.noticesFit := by
  unfold State.holdQuestion; simp only; split <;> simp [h]

@[simp] theorem State.passEnd_noticesFit (h : s.noticesFit) (p : PlayerId) (st : Step) : (s.passEnd p st).1.noticesFit := by
  have hpass : (s.produce (.passEnd p (s.player p).boundList (nextPass (s.player p).passCount))).noticesFit := by simp [h]
  unfold State.passEnd
  simp only
  generalize s.produce (.passEnd p (s.player p).boundList (nextPass (s.player p).passCount)) = s1 at hpass ⊢
  split
  · simp [hpass]
  · split
    · simp [hpass]
    · split <;> simp [hpass]

@[simp] theorem State.resolve_noticesFit (h : s.noticesFit) (p : PlayerId) (st : Step) : (s.resolve p st).1.noticesFit := by
  unfold State.resolve
  simp only
  split
  · simp [h]
  · split <;> simp [h]

theorem chain_noticesFit (fuel : Nat) (p : PlayerId) (h : s.noticesFit) : (chain fuel p s).noticesFit := by
  induction fuel generalizing s with
  | zero => exact h
  | succ fuel ih =>
    have hadmit := State.admitNext_noticesFit h p
    unfold chain
    split
    case h_1 s1 e => rw [e] at hadmit; exact hadmit
    case h_2 s1 st e =>
      rw [e] at hadmit
      have hresolve := State.resolve_noticesFit hadmit p st
      split
      case h_1 s2 e2 => rw [e2] at hresolve; exact ih hresolve
      case h_2 s2 e2 => rw [e2] at hresolve; exact hresolve

@[simp] theorem State.admitChain_noticesFit (h : s.noticesFit) (p : PlayerId) : (s.admitChain p).noticesFit :=
  chain_noticesFit _ p h

@[simp] theorem State.endStep_noticesFit (h : s.noticesFit) (p : PlayerId) (st : Step) : (s.endStep p st).noticesFit := by
  have hresolve := State.resolve_noticesFit h p st
  unfold State.endStep
  split
  case h_1 s1 e => rw [e] at hresolve; exact State.admitChain_noticesFit hresolve p
  case h_2 s1 e => rw [e] at hresolve; exact hresolve

@[simp] theorem State.beginRun_noticesFit (h : s.noticesFit) (p : PlayerId) (cause : StartCause) :
    (s.beginRun p cause).noticesFit := by
  simp [State.beginRun, h]

@[simp] theorem State.expire_noticesFit (h : s.noticesFit) (p : PlayerId) (st : Step) : (s.expire p st).noticesFit := by
  unfold State.expire; split <;> simp [h]

@[simp] theorem State.phaseEnd_noticesFit (h : s.noticesFit) (p : PlayerId) : (s.phaseEnd p).noticesFit := by
  unfold State.phaseEnd
  simp only
  split
  · split
    · simp [h]
    · split <;> simp [h]
    · simp [h]
    · simp [h]
  · exact h

@[simp] theorem State.commitSuper_noticesFit (h : s.noticesFit) (p : PlayerId) : (s.commitSuper p).noticesFit := by
  unfold State.commitSuper
  split
  · simp only
    split <;> simp [h]
  · exact h

@[simp] theorem State.resumeWait_noticesFit (h : s.noticesFit) (p : PlayerId) (st : Step) (n : InputId) :
    (s.resumeWait p st n).noticesFit := by
  unfold State.resumeWait
  simp only
  split
  · split <;> simp [h]
  · exact h

@[simp] theorem State.resumePlayer_noticesFit (h : s.noticesFit) (p : PlayerId) : (s.resumePlayer p).noticesFit := by
  unfold State.resumePlayer
  simp only
  split
  · simp [h]
  · split
    · simp [h]
    all_goals exact h
  · split
    · split <;> simp [h]
    all_goals exact h
  · exact h

@[simp] theorem State.startPlayer_noticesFit (h : s.noticesFit) (p : PlayerId) (sp : StartPoint) (limit : Nat)
    (stop : Option Nat) : (s.startPlayer p sp limit stop).noticesFit := by
  unfold State.startPlayer State.setLimits State.armPlayer
  simp only
  split <;> simp [h]

@[simp] theorem State.stopPlayer_noticesFit (h : s.noticesFit) (p : PlayerId) : (s.stopPlayer p).noticesFit := by
  simp [State.stopPlayer, h]

/-! ### The Safe Unit (R130, R136, R137) -/

@[simp] theorem State.enterSafe_noticesFit (h : s.noticesFit) (o : Order) (state : SafeState) (causes : Causes) :
    (s.enterSafe o state causes).noticesFit := by
  simp [State.enterSafe, h]

@[simp] theorem State.judgeHold_noticesFit (h : s.noticesFit) (o : Order) (active : Bool) :
    (s.judgeHold o active).noticesFit := by
  have hjudged : State.noticesFit { s with safe := { s.safe with holdActive := active } } := h.of_same rfl rfl
  unfold State.judgeHold
  simp only
  split
  · exact h
  · split <;> split <;> simp [hjudged]

@[simp] theorem State.autoResume_noticesFit (h : s.noticesFit) (o : Order) (super : Bool) (p : PlayerId) :
    (s.autoResume o super p).noticesFit := by
  unfold State.autoResume
  simp only
  split
  · split <;> simp [h]
  · exact h

@[simp] theorem State.releaseSafe_noticesFit (h : s.noticesFit) (o : Order) (super : Bool) :
    (s.releaseSafe o super).noticesFit := by
  have hreleased : (s.changeSafe .clear Causes.empty 0).noticesFit := by simp [h]
  unfold State.releaseSafe
  simp only
  split
  · exact eachPlayer_noticesFit (fun p u hu => State.autoResume_noticesFit hu o super p) hreleased
  · exact hreleased

@[simp] theorem State.autoRelease_noticesFit (h : s.noticesFit) (o : Order) : (s.autoRelease o).noticesFit := by
  unfold State.autoRelease; split <;> simp [h]

@[simp] theorem State.holdSample_noticesFit (h : s.noticesFit) (level : Bool) (o : Order) : (s.holdSample level o).noticesFit := by
  have hsampled : State.noticesFit { s with safe := { s.safe with holdIn := level } } := h.of_same rfl rfl
  unfold State.holdSample
  simp only
  split <;> simp [hsampled]

/-! ### Events on one player (R49, R56, R57, R60, R75) -/

@[simp] theorem State.countTick_noticesFit (h : s.noticesFit) (o : Order) (p : PlayerId) : (s.countTick o p).noticesFit := by
  unfold State.countTick
  simp only
  split
  · split <;> simp [h]
  · simp [h]

@[simp] theorem State.alignEvent_noticesFit (h : s.noticesFit) (p : PlayerId) (ev : TbEvent) : (s.alignEvent p ev).noticesFit := by
  unfold State.alignEvent
  split
  · split
    · split <;> simp [h]
    all_goals exact h
  · exact h

theorem State.follow_noticesFit {a : State × Admission} (h : a.1.noticesFit) (p : PlayerId) : (State.follow a p).noticesFit := by
  unfold State.follow
  split
  · exact h
  · exact State.endStep_noticesFit h p _

@[simp] theorem State.fitEvent_noticesFit (h : s.noticesFit) (p : PlayerId) (ev : TbEvent) : (s.fitEvent p ev).noticesFit := by
  unfold State.fitEvent
  split
  · split
    · simp [h]
    · exact State.follow_noticesFit (State.beginStep_noticesFit h p _) p
    · exact h
  · exact h

@[simp] theorem State.runningEvent_noticesFit (h : s.noticesFit) (o : Order) (p : PlayerId) (ev : TbEvent) :
    (s.runningEvent o p ev).noticesFit := by
  unfold State.runningEvent
  simp only
  split
  · split <;> simp [h]
  · split
    case h_4 | h_5 | h_6 => simp [h]
    all_goals split <;> simp [h]

@[simp] theorem State.superEvent_noticesFit (h : s.noticesFit) (o : Order) (p : PlayerId) (ev : TbEvent) :
    (s.superEvent o p ev).noticesFit := by
  unfold State.superEvent
  split
  · split <;> simp [h]
  · simp [h]

@[simp] theorem State.playerEvent_noticesFit (h : s.noticesFit) (o : Order) (ev : TbEvent) (before : PlayerState) (p : PlayerId) :
    (s.playerEvent o ev before p).noticesFit := by
  unfold State.playerEvent
  simp only
  split
  · simp [h]
  · split
    · simp [h]
    · split <;> simp [h]
    · exact h

@[simp] theorem State.handTo_noticesFit (h : s.noticesFit) (o : Order) (ev : TbEvent) (before : Player) (p : PlayerId) :
    (s.handTo o ev before p).noticesFit := by
  unfold State.handTo
  simp only
  split
  · split <;> simp [h]
  · simp [h]

@[simp] theorem State.owedEvent_noticesFit (h : s.noticesFit) (p : PlayerId) : (s.owedEvent p).noticesFit := by
  unfold State.owedEvent; simp only; split <;> simp [h]

@[simp] theorem State.owedNow_noticesFit (h : s.noticesFit) (p : PlayerId) : (s.owedNow p).noticesFit := by
  unfold State.owedNow; split <;> simp [h]

@[simp] theorem State.edgeReaches_noticesFit (h : s.noticesFit) (n : InputId) (doubled : Bool) (p : PlayerId) :
    (s.edgeReaches n doubled p).noticesFit := by
  unfold State.edgeReaches
  simp only
  split
  · simp [h]
  · split
    · split <;> simp [h]
    · exact h

/-! ### The Timebase (R25, R28, R31 to R36, R39) -/

@[simp] theorem State.tbNotice_noticesFit (h : s.noticesFit) (e : TbEventKind) (r : Option Stamp) :
    (s.tbNotice e r).noticesFit := State.produce_noticesFit h nofun

@[simp] theorem State.commitNotice_noticesFit (h : s.noticesFit) (before : State) : (s.commitNotice before).noticesFit := by
  unfold State.commitNotice; split <;> simp [h]

@[simp] theorem State.handOut_noticesFit (h : s.noticesFit) (o : Order) (ev : TbEvent) : (s.handOut o ev).noticesFit := by
  refine runActors_noticesFit (fun a u hu => ?_) _ h
  cases a with
  | player p => exact State.handTo_noticesFit hu o ev _ p
  | safeUnit => simp only; split <;> simp [hu]
  | superframeNotice => simp only; split <;> simp [hu]

theorem State.frameStart_noticesFit (h : s.noticesFit) (o : Order) (index : Nat) {first : State → State} (tick sync : Bool)
    (hfirst : ∀ u, u.noticesFit → (first u).noticesFit) : (s.frameStart o index first tick sync).noticesFit :=
  State.handOut_noticesFit (State.commitNotice_noticesFit (hfirst _ (by simp [h])) s) o _

@[simp] theorem State.catchUp_noticesFit (h : s.noticesFit) (o : Order) : (s.catchUp o).noticesFit :=
  eachPlayer_noticesFit (fun p _ hu => State.owedEvent_noticesFit (State.phaseEnd_noticesFit hu p) p) h

@[simp] theorem State.tick_noticesFit (h : s.noticesFit) (o : Order) : (s.tick o).noticesFit := by
  have hstart : ((s.catchUp o).syncOutAtTick).clearPassBegun.noticesFit := by simp [h]
  unfold State.tick
  generalize (s.catchUp o).syncOutAtTick.clearPassBegun = s1 at hstart ⊢
  simp only
  split
  · exact State.handOut_noticesFit (hstart.of_same (t := { s1 with tb := { s1.tb with position := s1.tb.position + 1 } }) rfl rfl) o _
  · exact State.frameStart_noticesFit hstart o _ true false fun _ => id

@[simp] theorem State.beginTbRun_noticesFit (h : s.noticesFit) (o : Order) (st : TbState) (sync : Bool) :
    (s.beginTbRun o st sync).noticesFit :=
  State.frameStart_noticesFit (by simp [h]) o 0 false sync fun _ => (State.tbNotice_noticesFit · .started none)

@[simp] theorem State.tbStartAction_noticesFit (h : s.noticesFit) (o : Order) : (s.tbStartAction o).noticesFit := by
  unfold State.tbStartAction; split <;> simp [h]

@[simp] theorem State.mergeEdge_noticesFit (h : s.noticesFit) (o : Order) : (s.mergeEdge o).noticesFit := by
  unfold State.mergeEdge
  simp only
  split
  · simp [h]
  · have hcommitted : State.noticesFit
        (State.raiseIf (State.commitStaged { s.clearDivider with tb := { s.clearDivider.tb with index := 0 } }) .superframe) :=
      (State.raiseIf_noticesFit _ _).mpr (h.of_same rfl rfl)
    exact State.handOut_noticesFit (State.commitNotice_noticesFit hcommitted s) o _

@[simp] theorem State.activeEdge_noticesFit (h : s.noticesFit) (o : Order) : (s.activeEdge o).noticesFit := by
  unfold State.activeEdge
  split
  · simp [h]
  · split
    · simp [h]
    · exact State.frameStart_noticesFit ((State.clearDivider_noticesFit s).mpr h) o 0 false true fun _ => id
  · simp [h]
  · simp [h]

@[simp] theorem State.inactiveEdge_noticesFit (h : s.noticesFit) : s.inactiveEdge.noticesFit := by
  unfold State.inactiveEdge; split <;> simp [h]

@[simp] theorem State.tbStopAction_noticesFit (h : s.noticesFit) : s.tbStopAction.noticesFit := by
  have hstopped : (s.setTbState .stopped).noticesFit := by simp [h]
  unfold State.tbStopAction
  generalize s.setTbState .stopped = s1 at hstopped ⊢
  have hzero : State.noticesFit { s1 with tb := { s1.tb with position := 0, index := 0, divider := 0 } } := hstopped.of_same rfl rfl
  refine State.tbNotice_noticesFit ?_ _ _
  split
  · exact hzero
  all_goals exact (State.lowerSyncOut_noticesFit _).mpr hzero

@[simp] theorem State.syncChange_noticesFit (h : s.noticesFit) (level : Bool) (o : Order) : (s.syncChange level o).noticesFit := by
  have hlevel : State.noticesFit { s.catchUp o with tb := { (s.catchUp o).tb with syncIn := level } } :=
    State.noticesFit.of_same (State.catchUp_noticesFit h o) rfl rfl
  unfold State.syncChange
  simp only
  split
  · exact h
  · split <;> simp [hlevel]

@[simp] theorem State.divide_noticesFit (h : s.noticesFit) (o : Order) : (s.divide o).noticesFit := by
  unfold State.divide
  split
  · simp [h]
  · split
    · exact h.of_same rfl rfl
    · exact h

/-! ### Inputs (R119 to R123) -/

@[simp] theorem State.acceptEdge_noticesFit (h : s.noticesFit) (n : InputId) (o : Order) : (s.acceptEdge n o).noticesFit := by
  unfold State.acceptEdge
  simp only
  split
  · refine eachPlayer_noticesFit (fun p u hu => ?_) (by simp [h])
    split <;> simp [hu]
  · simp [h]

@[simp] theorem State.acceptChange_noticesFit (h : s.noticesFit) (n : InputId) (o : Order) : (s.acceptChange n o).noticesFit := by
  unfold State.acceptChange; simp only; split <;> simp [h]

@[simp] theorem State.sample_noticesFit (h : s.noticesFit) (n : InputId) (level : Bool) (o : Order) :
    (s.sample n level o).noticesFit := by
  unfold State.sample
  simp only
  split
  · simp [h]
  · split
    · simp [h]
    · split <;> simp [h]

end Fits

end Sys2Proof.Machine

/-! PROOFS. What a block leaves while it serves a request (R145, R156): the part's phase, its boot state and the whole link, and the
Notice Queue within its places. -/

namespace Sys2Proof.Machine

/-- From `s` to `t` phase, boot state and link stay, and the Notice Queue keeps to its places. -/
structure Serves (s t : State) : Prop where
  phase : t.phase = s.phase
  boot : t.boot = s.boot
  link : t.link = s.link
  notices : s.noticesFit → t.noticesFit

namespace Serves

variable {s t u : State}

theorem refl (s : State) : Serves s s := ⟨rfl, rfl, rfl, id⟩

theorem trans (h1 : Serves s t) (h2 : Serves t u) : Serves s u :=
  ⟨h2.phase.trans h1.phase, h2.boot.trans h1.boot, h2.link.trans h1.link, fun h => h2.notices (h1.notices h)⟩

/-- Neither link nor notices move. -/
theorem aside (hp : t.phase = s.phase) (hl : t.link = s.link) (hn : t.notices = s.notices) (hb : t.boot = s.boot) : Serves s t :=
  ⟨hp, hb, hl, fun h => h.of_same hn hb⟩

/-- Play leaves phase, boot state and link (Laws/Play). -/
theorem play (hf : t.fixed = s.fixed) (hn : s.noticesFit → t.noticesFit) : Serves s t :=
  ⟨congrArg Fixed.phase hf, congrArg Fixed.boot hf, congrArg Fixed.link hf, hn⟩

end Serves

/-! ### Requests of the Cue Store (R11 to R20) -/

theorem State.changeList_serves {s : State} {b : Byte} {own : ListId → State × Reply} (h : ∀ l, Serves s (own l).1) :
    Serves s (s.changeList b own).1 := by
  unfold State.changeList
  split
  · exact .refl s
  · split
    · exact .refl s
    · exact h _

theorem serveListCreate_serves (q : Frame) (s : State) : Serves s (serveListCreate q s).1 := by
  unfold serveListCreate
  repeat' split
  all_goals exact .aside rfl rfl rfl rfl

theorem serveListAppend_serves (q : Frame) (s : State) : Serves s (serveListAppend q s).1 := by
  unfold serveListAppend
  split
  · refine State.changeList_serves fun l => ?_
    repeat' split
    all_goals exact .aside rfl rfl rfl rfl
  · exact .refl s

theorem serveListTruncate_serves (q : Frame) (s : State) : Serves s (serveListTruncate q s).1 := by
  unfold serveListTruncate
  split
  · refine State.changeList_serves fun l => ?_
    simp only
    repeat' split
    all_goals exact .aside rfl rfl rfl rfl
  · exact .refl s

theorem serveListSeal_serves (q : Frame) (s : State) : Serves s (serveListSeal q s).1 := by
  unfold serveListSeal
  split
  · refine State.changeList_serves fun l => ?_
    simp only
    repeat' split
    all_goals exact .aside rfl rfl rfl rfl
  · exact .refl s

theorem serveListUnseal_serves (q : Frame) (s : State) : Serves s (serveListUnseal q s).1 := by
  unfold serveListUnseal
  split
  · refine State.changeList_serves fun l => ?_
    simp only
    repeat' split
    all_goals exact .aside rfl rfl rfl rfl
  · exact .refl s

theorem serveListDelete_serves (q : Frame) (s : State) : Serves s (serveListDelete q s).1 := by
  unfold serveListDelete
  split
  · refine State.changeList_serves fun l => ?_
    simp only
    repeat' split
    all_goals exact .aside rfl rfl rfl rfl
  · exact .refl s

theorem serveListInfo_serves (q : Frame) (s : State) : Serves s (serveListInfo q s).1 := by
  unfold serveListInfo
  repeat' split
  all_goals exact .refl s

theorem serveListRead_serves (q : Frame) (s : State) : Serves s (serveListRead q s).1 := by
  unfold serveListRead
  simp only
  repeat' split
  all_goals exact .refl s

/-! ### Requests of the players (R70 to R94) -/

theorem onPlayer_serves {q : Frame} {s : State} {own : PlayerId → State × Reply} (h : ∀ p, Serves s (own p).1) :
    Serves s (onPlayer q s own).1 := by
  unfold onPlayer
  split
  · split
    · exact h _
    · exact .refl s
  · exact .refl s

theorem State.owedNow_serves (s : State) (p : PlayerId) : Serves s (s.owedNow p) :=
  .play (s.owedNow_fixed p) (State.owedNow_noticesFit · p)

theorem thenOwed_serves {s : State} (p : PlayerId) {a : State × Reply} (h : Serves s a.1) : Serves s (thenOwed p a).1 :=
  h.trans (State.owedNow_serves _ p)

theorem State.settle_serves (s : State) (o : Order) : Serves s (s.settle o) :=
  .play (s.settle_fixed o) (State.settle_noticesFit · o)

theorem State.setPlayer_serves (s : State) (p : PlayerId) (r : Player) : Serves s (s.setPlayer p r) := .aside rfl rfl rfl rfl

theorem servePlayerBind_serves (q : Frame) (s : State) : Serves s (servePlayerBind q s).1 := by
  unfold servePlayerBind
  simp only
  repeat' split
  all_goals exact .aside rfl rfl rfl rfl

theorem State.useDownOpt_serves (s : State) (l : Option ListId) : Serves s (s.useDownOpt l) :=
  .play (s.useDownOpt_fixed l) (State.useDownOpt_noticesFit s l).mpr

theorem State.unbindPlayer_serves (s : State) (p : PlayerId) : Serves s (s.unbindPlayer p) := by
  have hreleased : Serves s ((s.idleLines (s.player p).claimed).releaseLines p) :=
    .aside (State.releaseLines_phase _ p) (State.releaseLines_link _ p) (State.releaseLines_notices _ p) (State.releaseLines_boot _ p)
  exact ((hreleased.trans (State.useDownOpt_serves _ _)).trans (State.useDownOpt_serves _ _)).trans (State.setPlayer_serves _ p _)

theorem servePlayerUnbind_serves (q : Frame) (s : State) : Serves s (servePlayerUnbind q s).1 := by
  refine onPlayer_serves fun p => ?_
  split
  · exact s.unbindPlayer_serves p
  · exact s.unbindPlayer_serves p
  all_goals exact .refl s

theorem State.startPlayer_serves (s : State) (p : PlayerId) (sp : StartPoint) (limit : Nat) (stop : Option Nat) (o : Order) :
    Serves s ((s.startPlayer p sp limit stop).settle o) := by
  have hstart : Serves s (s.startPlayer p sp limit stop) :=
    .play (s.startPlayer_fixed p sp limit stop) (State.startPlayer_noticesFit · p sp limit stop)
  exact hstart.trans (State.settle_serves _ o)

theorem servePlayerStart_serves (o : Order) (q : Frame) (s : State) : Serves s (servePlayerStart o q s).1 := by
  unfold servePlayerStart
  split
  · split
    · exact .refl s
    · split
      · exact .refl s
      · split
        · exact .refl s
        · split
          · exact .refl s
          · exact .refl s
          · exact .refl s
          · exact thenOwed_serves _ (s.startPlayer_serves _ _ _ _ o)
          · exact thenOwed_serves _ (s.startPlayer_serves _ _ _ _ o)
          · split
            · exact .refl s
            · exact thenOwed_serves _ (.aside rfl rfl rfl rfl)
  · exact .refl s

theorem servePlayerCancel_serves (q : Frame) (s : State) : Serves s (servePlayerCancel q s).1 := by
  refine onPlayer_serves fun p => ?_
  split
  · exact thenOwed_serves p (.aside rfl rfl rfl rfl)
  all_goals exact .refl s

theorem State.stopPlayer_serves (s : State) (p : PlayerId) : Serves s (s.stopPlayer p) := by
  have hidle : Serves s (s.idleLines (s.player p).claimed) := .aside rfl rfl rfl rfl
  exact (hidle.trans (State.setPlayer_serves _ p _)).trans
    (.play (State.commitAtPassEnd_fixed _ p) (State.commitAtPassEnd_noticesFit · p))

theorem servePlayerStop_serves (q : Frame) (s : State) : Serves s (servePlayerStop q s).1 := by
  refine onPlayer_serves fun p => ?_
  simp only
  split
  case h_4 => exact .refl s
  case h_5 | h_6 => exact .refl s
  all_goals exact thenOwed_serves p (s.stopPlayer_serves p)

theorem servePlayerHold_serves (q : Frame) (s : State) : Serves s (servePlayerHold q s).1 := by
  refine onPlayer_serves fun p => ?_
  simp only
  split
  · exact thenOwed_serves p (.aside rfl rfl rfl rfl)
  · split
    · exact thenOwed_serves p (.aside rfl rfl rfl rfl)
    · exact .refl s
  all_goals exact .refl s

theorem servePlayerResume_serves (o : Order) (q : Frame) (s : State) : Serves s (servePlayerResume o q s).1 := by
  refine onPlayer_serves fun p => ?_
  split
  · exact .refl s
  · split
    · exact thenOwed_serves p
        (.trans (.play (s.resumePlayer_fixed p) (State.resumePlayer_noticesFit · p)) (State.settle_serves _ o))
    all_goals exact .refl s

theorem servePlayerSetStop_serves (q : Frame) (s : State) : Serves s (servePlayerSetStop q s).1 := by
  unfold servePlayerSetStop
  split
  · split
    · exact .refl s
    · simp only
      split
      · exact .refl s
      · exact thenOwed_serves _ (.aside rfl rfl rfl rfl)
  · exact .refl s

theorem servePlayerClear_serves (q : Frame) (s : State) : Serves s (servePlayerClear q s).1 := by
  refine onPlayer_serves fun p => ?_
  simp only
  split <;> exact .aside rfl rfl rfl rfl

theorem State.applyReplacement_serves (s : State) (p : PlayerId) (l : ListId) : Serves s (s.applyReplacement p l) := by
  have hbound : Serves s ((s.setPlayer p { s.player p with
      boundList := some l, index := 0, passCount := 0, replacement := none }).useUp l) := .aside rfl rfl rfl rfl
  exact (hbound.trans (State.useDownOpt_serves _ _)).trans (State.useDownOpt_serves _ _)

theorem State.pendReplacement_serves (s : State) (p : PlayerId) (l : ListId) (point : CommitPoint) :
    Serves s (s.pendReplacement p l point) := by
  have hpending : Serves s ((s.setPlayer p { s.player p with replacement := some (l, point) }).useUp l) := .aside rfl rfl rfl rfl
  exact hpending.trans (State.useDownOpt_serves _ _)

theorem servePlayerReplace_serves (q : Frame) (s : State) : Serves s (servePlayerReplace q s).1 := by
  unfold servePlayerReplace
  split
  · split
    · split
      · exact .refl s
      · simp only
        split
        · exact .refl s
        · split
          · split
            · exact .refl s
            · split
              · exact thenOwed_serves _ (s.applyReplacement_serves _ _)
              · split <;> exact thenOwed_serves _ (s.pendReplacement_serves _ _ _)
          · exact .refl s
    · exact .refl s
  · exact .refl s

theorem servePlayerWithdraw_serves (q : Frame) (s : State) : Serves s (servePlayerWithdraw q s).1 := by
  refine onPlayer_serves fun p => ?_
  simp only
  split
  · exact thenOwed_serves p (.aside rfl rfl rfl rfl)
  · exact .refl s

/-! ### Requests of the Timebase, of lines and inputs, of the Safe Unit -/

theorem serveTbStart_serves (o : Order) (q : Frame) (s : State) : Serves s (serveTbStart o q s).1 := by
  have hstart : Serves s ((s.catchUp o).tbStartAction o) :=
    .play (by simp) fun h => State.tbStartAction_noticesFit (State.catchUp_noticesFit h o) o
  unfold serveTbStart
  split
  · simp only
    split <;> exact hstart
  all_goals exact .refl s

theorem serveTbStop_serves (o : Order) (q : Frame) (s : State) : Serves s (serveTbStop o q s).1 := by
  unfold serveTbStop
  split
  · exact .refl s
  all_goals exact .play (by simp) fun h => State.tbStopAction_noticesFit (State.catchUp_noticesFit h o)

theorem serveLineDrive_serves (q : Frame) (s : State) : Serves s (serveLineDrive q s).1 := by
  unfold serveLineDrive
  simp only
  repeat' split
  all_goals exact .aside rfl rfl rfl rfl

theorem serveInputRead_serves (q : Frame) (s : State) : Serves s (serveInputRead q s).1 := by
  unfold serveInputRead
  split
  · split
    · exact .refl s
    · split
      · exact .refl s
      · simp only
        split <;> exact .aside rfl rfl rfl rfl
  · exact .refl s

theorem serveSafeEnter_serves (o : Order) (q : Frame) (s : State) : Serves s (serveSafeEnter o q s).1 := by
  unfold serveSafeEnter
  simp only
  split
  · exact .play (by simp) fun h => State.settle_noticesFit (State.enterSafe_noticesFit h o _ _) o
  · split
    · exact .refl s
    · exact .play (by simp) (State.changeSafe_noticesFit · _ _ _)

theorem serveSafeRelease_serves (o : Order) (q : Frame) (s : State) : Serves s (serveSafeRelease o q s).1 := by
  unfold serveSafeRelease
  split
  · exact .play (by simp) fun h => State.settle_noticesFit (State.releaseSafe_noticesFit h o false) o
  all_goals exact .refl s

/-! ### Requests of parameters (R161, R162) -/

theorem serveParamGet_serves (q : Frame) (s : State) : Serves s (serveParamGet q s).1 := by
  unfold serveParamGet
  repeat' split
  all_goals exact .refl s

theorem serveParamSet_serves {own : Byte → Byte → Nat → State → State × Reply}
    (h : ∀ id index v s, Serves s (own id index v s).1) (q : Frame) (s : State) : Serves s (serveParamSet own q s).1 := by
  unfold serveParamSet
  split
  · simp only
    split
    · exact .refl s
    · split
      · exact .refl s
      · exact h _ _ _ s
  · exact .refl s

theorem ownStaged_serves (id index : Byte) (v : Nat) (s : State) : Serves s (ownStaged id index v s).1 := by
  unfold ownStaged State.paramReply
  split <;> simp only <;> split <;> exact .aside rfl rfl rfl rfl

theorem ownStoppedClass_serves (id index : Byte) (v : Nat) (s : State) : Serves s (ownStoppedClass id index v s).1 := by
  unfold ownStoppedClass
  split <;> exact .aside rfl rfl rfl rfl

theorem ownSyncOutSrc_serves (id index : Byte) (v : Nat) (s : State) : Serves s (ownSyncOutSrc id index v s).1 := by
  unfold ownSyncOutSrc State.paramReply
  simp only
  split <;> exact .aside rfl rfl rfl rfl

theorem ownHoldLevel_serves (o : Order) (id index : Byte) (v : Nat) (s : State) : Serves s (ownHoldLevel o id index v s).1 := by
  have hlevel : Serves s { s with params := { s.params with holdLevel := decide (v = 1) } } := .aside rfl rfl rfl rfl
  exact hlevel.trans (.trans (.play (State.judgeHold_fixed _ o _) (State.judgeHold_noticesFit · o _)) (State.settle_serves _ o))

theorem ownInEdge_serves (id index : Byte) (v : Nat) (s : State) : Serves s (ownInEdge id index v s).1 := by
  unfold ownInEdge State.paramReply
  split
  · simp only
    split <;> exact .aside rfl rfl rfl rfl
  · exact .refl s

theorem ownInFilter_serves (id index : Byte) (v : Nat) (s : State) : Serves s (ownInFilter id index v s).1 := by
  unfold ownInFilter
  split <;> exact .aside rfl rfl rfl rfl

/-! ### Requests of notices, images and the autostart table -/

/-- The mute flag moves, and the queue stays. -/
theorem serveMute_serves (on : Bool) (q : Frame) (s : State) : Serves s (serveMute on q s).1 := by
  unfold serveMute
  split
  · exact .refl s
  · exact ⟨rfl, rfl, rfl, id⟩

theorem State.setBank_serves (s : State) (k : BankId) (b : Bank) : Serves s (s.setBank k b) := by
  cases k <;> exact .aside rfl rfl rfl rfl

theorem State.setHeader_serves (s : State) (k : BankId) (st : BankState) : Serves s (s.setHeader k st) :=
  (s.setBank_serves k _).trans (.aside rfl rfl rfl rfl)

theorem serveImageSave_serves (q : Frame) (s : State) : Serves s (serveImageSave q s).1 := by
  unfold serveImageSave
  split
  · exact .refl s
  · split
    · exact .refl s
    · exact (s.setHeader_serves _ _).trans (.aside rfl rfl rfl rfl)

theorem serveImageErase_serves (q : Frame) (s : State) : Serves s (serveImageErase q s).1 := by
  unfold serveImageErase
  split <;> exact .aside rfl rfl rfl rfl

theorem serveAutostartSet_serves (q : Frame) (s : State) : Serves s (serveAutostartSet q s).1 := by
  unfold serveAutostartSet serveAutoEntry serveAutoFlag
  repeat' split
  all_goals exact .aside rfl rfl rfl rfl

theorem serveAutostartClear_serves (q : Frame) (s : State) : Serves s (serveAutostartClear q s).1 := by
  unfold serveAutostartClear
  repeat' split
  all_goals exact .aside rfl rfl rfl rfl

end Sys2Proof.Machine

/-! PROOFS. Every take answers and records its request (O3). -/

namespace Sys2Proof.Machine

/-- From `s` to `t` the request `q` is answered: the phase and the filled replies stay, the Notice Queue keeps to its
places, and the inbox stays but for a WARM reset that is carried out (R151). -/
structure Answers (q : Frame) (s t : State) : Prop where
  phase : t.phase = s.phase
  replies : t.link.replies = s.link.replies
  inbox : t.link.inbox = s.link.inbox ∨ (q.kind = 0x61 ∧ q.payload = [0] ∧ s.boot = .ready ∧ t.link.inbox = [])
  notices : s.noticesFit → t.noticesFit

theorem Serves.answers {s t : State} (h : Serves s t) (q : Frame) : Answers q s t :=
  ⟨h.phase, congrArg Link.replies h.link, .inl (congrArg Link.inbox h.link), h.notices⟩

/-- The shared refusals change nothing (R157). -/
theorem State.answer_answers {q : Frame} {s : State} {serve : Frame → State → State × Reply}
    (h : s.sharedRefusal q = none → Answers q s (serve q s).1) : Answers q s (s.answer q serve).1 := by
  unfold State.answer
  split
  case h_1 => exact (Serves.refl s).answers q
  case h_2 hown => exact h hown

/-- While BOOTING, DEVICE_STATUS alone comes through the shared refusals (R157). -/
theorem State.sharedRefusal_none_ready {q : Frame} {s : State} (h : s.sharedRefusal q = none) (hkind : q.kind ≠ 0x60) :
    s.boot = .ready := by
  by_contra hboot
  rw [State.sharedRefusal, if_pos ⟨hboot, hkind⟩] at h
  cases h

/-- A WARM reset keeps the filled replies and empties inbox and Notice Queue (R151, R172). -/
theorem State.warmReset_answers {q : Frame} {s : State} (hkind : q.kind = 0x61) (hq : q.payload = [0]) (hboot : s.boot = .ready) :
    Answers q s s.warmReset where
  phase := rfl
  replies := rfl
  inbox := .inr ⟨hkind, hq, hboot, rfl⟩
  notices _ := ⟨Nat.zero_le _, fun _ => Nat.zero_le _⟩

theorem serveResetWarm_answers {q : Frame} (hmine : asksWarm q = true) (s : State) :
    Answers q s (s.answer q serveResetWarm).1 := by
  have hkind : q.kind = 0x61 := of_decide_eq_true (Bool.and_eq_true_iff.mp hmine).1
  refine State.answer_answers fun hnone => ?_
  unfold serveResetWarm
  split
  case isTrue hq => exact State.warmReset_answers hkind hq (State.sharedRefusal_none_ready hnone (by rw [hkind]; decide))
  case isFalse => exact (Serves.refl s).answers q

/-! ### Every take row takes and answers -/

/-- The row is a take of the requests that `takesOf` gives, and what it serves answers them. -/
def AnswersTakes (c : Instr) : Prop :=
  ∃ mine serve, takesOf c = some mine ∧ (∀ s, exec c s = .next (s.take mine serve)) ∧
    ∀ q s, mine q = true → Answers q s (s.answer q serve).1

theorem AnswersTakes.of_serves {c : Instr} {mine : Frame → Bool} {serve : Frame → State → State × Reply}
    (hserve : ∀ q s, Serves s (serve q s).1) (hmine : takesOf c = some mine) (hexec : ∀ s, exec c s = .next (s.take mine serve)) :
    AnswersTakes c :=
  ⟨mine, serve, hmine, hexec, fun q s _ => State.answer_answers fun _ => (hserve q s).answers q⟩

theorem answersTakes (c : Instr) (h : (takesOf c).isSome) : AnswersTakes c := by
  have hreports : ∀ u : State, Serves u u := .refl
  cases c with
  | listCreate => exact .of_serves serveListCreate_serves rfl fun _ => rfl
  | listAppend => exact .of_serves serveListAppend_serves rfl fun _ => rfl
  | listTruncate => exact .of_serves serveListTruncate_serves rfl fun _ => rfl
  | listSeal => exact .of_serves serveListSeal_serves rfl fun _ => rfl
  | listUnseal => exact .of_serves serveListUnseal_serves rfl fun _ => rfl
  | listDelete => exact .of_serves serveListDelete_serves rfl fun _ => rfl
  | listInfo => exact .of_serves serveListInfo_serves rfl fun _ => rfl
  | listRead => exact .of_serves serveListRead_serves rfl fun _ => rfl
  | storeInfo => exact .of_serves (serve := serveStoreInfo) (fun _ => hreports) rfl fun _ => rfl
  | playerBind => exact .of_serves servePlayerBind_serves rfl fun _ => rfl
  | playerUnbind => exact .of_serves servePlayerUnbind_serves rfl fun _ => rfl
  | playerStart o => exact .of_serves (servePlayerStart_serves o) rfl fun _ => rfl
  | playerCancel => exact .of_serves servePlayerCancel_serves rfl fun _ => rfl
  | playerStop => exact .of_serves servePlayerStop_serves rfl fun _ => rfl
  | playerHold => exact .of_serves servePlayerHold_serves rfl fun _ => rfl
  | playerResume o => exact .of_serves (servePlayerResume_serves o) rfl fun _ => rfl
  | playerSetStop => exact .of_serves servePlayerSetStop_serves rfl fun _ => rfl
  | playerClear => exact .of_serves servePlayerClear_serves rfl fun _ => rfl
  | playerStatus => exact .of_serves (serve := servePlayerStatus) (fun _ u => onPlayer_serves fun _ => hreports u) rfl fun _ => rfl
  | playerReplace => exact .of_serves servePlayerReplace_serves rfl fun _ => rfl
  | playerWithdraw => exact .of_serves servePlayerWithdraw_serves rfl fun _ => rfl
  | tbStart o => exact .of_serves (serveTbStart_serves o) rfl fun _ => rfl
  | tbStop o => exact .of_serves (serveTbStop_serves o) rfl fun _ => rfl
  | tbStatus => exact .of_serves (serve := serveTbStatus) (fun _ => hreports) rfl fun _ => rfl
  | lineDrive => exact .of_serves serveLineDrive_serves rfl fun _ => rfl
  | lineStatus => exact .of_serves (serve := serveLineStatus) (fun _ => hreports) rfl fun _ => rfl
  | inputRead => exact .of_serves serveInputRead_serves rfl fun _ => rfl
  | safeEnter o => exact .of_serves (serveSafeEnter_serves o) rfl fun _ => rfl
  | safeRelease o => exact .of_serves (serveSafeRelease_serves o) rfl fun _ => rfl
  | safeStatus => exact .of_serves (serve := serveSafeStatus) (fun _ => hreports) rfl fun _ => rfl
  | paramGet => exact .of_serves serveParamGet_serves rfl fun _ => rfl
  | paramSetStaged => exact .of_serves (serveParamSet_serves ownStaged_serves) rfl fun _ => rfl
  | paramSetStoppedClass => exact .of_serves (serveParamSet_serves ownStoppedClass_serves) rfl fun _ => rfl
  | paramSetSyncOutSrc => exact .of_serves (serveParamSet_serves ownSyncOutSrc_serves) rfl fun _ => rfl
  | paramSetLinkRate => exact .of_serves (serveParamSet_serves fun _ _ _ => hreports) rfl fun _ => rfl
  | paramSetHoldLevel o => exact .of_serves (serveParamSet_serves (ownHoldLevel_serves o)) rfl fun _ => rfl
  | paramSetInEdge => exact .of_serves (serveParamSet_serves ownInEdge_serves) rfl fun _ => rfl
  | paramSetInFilter => exact .of_serves (serveParamSet_serves ownInFilter_serves) rfl fun _ => rfl
  | paramSet | paramSetLineIdle | paramSetLineSafe | paramSetNoticeMask =>
    exact .of_serves (serveParamSet_serves fun _ _ _ _ => .aside rfl rfl rfl rfl) rfl fun _ => rfl
  | noticeMute => exact .of_serves (serveMute_serves true) rfl fun _ => rfl
  | noticeUnmute => exact .of_serves (serveMute_serves false) rfl fun _ => rfl
  | imageSave => exact .of_serves serveImageSave_serves rfl fun _ => rfl
  | imageErase => exact .of_serves serveImageErase_serves rfl fun _ => rfl
  | imageInfo => exact .of_serves (serve := serveImageInfo) (fun _ => hreports) rfl fun _ => rfl
  | autostartSet => exact .of_serves serveAutostartSet_serves rfl fun _ => rfl
  | autostartClear => exact .of_serves serveAutostartClear_serves rfl fun _ => rfl
  | autostartRead => exact .of_serves (serve := serveAutostartRead) (fun _ => hreports) rfl fun _ => rfl
  | deviceStatus => exact .of_serves (serve := serveDeviceStatus) (fun _ => hreports) rfl fun _ => rfl
  | deviceResetWarm => exact ⟨asksWarm, serveResetWarm, rfl, fun _ => rfl, fun _ s hmine => serveResetWarm_answers hmine s⟩
  | deviceResetReload => exact .of_serves (serve := serveResetReload) (fun _ _ => .aside rfl rfl rfl rfl) rfl fun _ => rfl
  | unknownKindRequest => exact .of_serves (serve := serveUnknown) (fun _ => hreports) rfl fun _ => rfl
  | _ => cases h

/-- Settles O3: by what every take row answers; the reply is queued and cached, and the transmitter leaves replies, cache and inbox. -/
theorem takeAnswersAndRecordsItsRequest : Obligations.TakeAnswersAndRecordsItsRequest := by
  intro c mine s q rest htakes hmine hfront
  obtain ⟨mine', serve, htakes', hexec, hanswers⟩ := answersTakes c (by rw [htakes]; rfl)
  obtain rfl : mine = mine' := Option.some.inj (htakes.symm.trans htakes')
  have answers := hanswers q (s.taking rest) hmine
  set a := (s.taking rest).answer q serve
  refine ⟨(a.1.queueReply q a.2).transmit, { frame := replyFrame q a.2, effect := a.2.effect }, ?_, ?_, rfl, rfl, ?_,
    fun _ => ?_, ?_⟩
  · rw [hexec, State.take_front hfront hmine]
  · rw [State.transmit_replies]
    exact congrArg (· ++ _) answers.replies
  · rw [State.transmit_cache]
    exact cacheAdd_last _ _
  · rw [State.transmit_cache]
    exact cacheAdd_length _ _
  · rw [State.transmit_inbox]
    exact answers.inbox

end Sys2Proof.Machine

/-! PROOFS. The queues of link and notices keep their sizes, and an idle transmitter has nothing ready to begin (O51): of every event of
a live part, then of every row, then of every step. -/

namespace Sys2Proof.Machine

/-! ### The queues within their sizes -/

/-- Inbox, reply queue and replay cache are within their sizes (R145, R147). -/
def Link.fits (l : Link) : Prop := l.inbox.length ≤ 8 ∧ l.replies.length + l.inbox.length ≤ 12 ∧ l.cache.length ≤ 4

theorem Link.fits.of_same {l m : Link} (h : l.fits) (hi : m.inbox = l.inbox) (hr : m.replies = l.replies)
    (hc : m.cache = l.cache) : m.fits := by
  rw [Link.fits, hi, hr, hc]; exact h

theorem Link.blank_fits : Link.blank.fits := ⟨Nat.zero_le _, Nat.zero_le _, Nat.zero_le _⟩

theorem State.bounded_iff {s : State} : s.bounded ↔ s.link.fits ∧ s.noticesFit := by
  simp only [State.bounded, Link.fits, State.noticesFit, and_assoc]

theorem State.noticesFit_of_empty {s : State} (h : s.notices.queue = []) : s.noticesFit := by
  simp [State.noticesFit, h]

/-- A start-up that goes on leaves the place for READY free (R168). -/
theorem State.noticesFit.booting {s t : State} (h : s.noticesFit) (hb : s.boot ≠ .ready) (hn : t.notices = s.notices) :
    t.noticesFit := by
  rw [State.noticesFit, hn]
  exact ⟨h.1, fun _ => h.2 hb⟩

/-- The start-up's last action may take the place that is kept for READY (R168, R179). -/
theorem State.noticesFit.ready {s : State} (h : s.noticesFit) (body : NoticeBody) :
    State.noticesFit { s.produce body with boot := .ready } := by
  refine ⟨?_, fun hb => absurd rfl hb⟩
  obtain ⟨hall, -⟩ := h
  change (s.produce body).notices.queue.length ≤ 32
  rcases s.produce_queue_length body with hsame | ⟨hmore, hroom⟩
  · rw [hsame]; exact hall
  · have hsize : s.noticeRoom body ≤ 32 := by
      unfold State.noticeRoom
      split <;> decide
    omega

/-- From `s` to `t` a live part stays live, and the queues of link and notices keep to their sizes. -/
structure KeepsQueues (s t : State) : Prop where
  live : s.phase = .live → t.phase = .live
  link : s.link.fits → t.link.fits
  notices : s.noticesFit → t.noticesFit

namespace KeepsQueues

variable {s t u : State}

theorem refl (s : State) : KeepsQueues s s := ⟨id, id, id⟩

theorem trans (h1 : KeepsQueues s t) (h2 : KeepsQueues t u) : KeepsQueues s u :=
  ⟨fun h => h2.live (h1.live h), fun h => h2.link (h1.link h), fun h => h2.notices (h1.notices h)⟩

theorem of_serves (h : Serves s t) : KeepsQueues s t :=
  ⟨h.phase.trans, fun hl => by rw [h.link]; exact hl, h.notices⟩

/-- Play leaves phase and link (Laws/Play). -/
theorem play (hf : t.fixed = s.fixed) (hn : s.noticesFit → t.noticesFit) : KeepsQueues s t := .of_serves (.play hf hn)

/-- The link moves alone. -/
theorem linked (hp : t.phase = s.phase) (hl : s.link.fits → t.link.fits) (hn : t.notices = s.notices) (hb : t.boot = s.boot) :
    KeepsQueues s t :=
  ⟨hp.trans, hl, fun h => h.of_same hn hb⟩

/-- A start-up reset of a part that goes on live. -/
theorem startUpValues (s : State) : KeepsQueues s { s.startUpValues with phase := .live } :=
  ⟨fun _ => rfl, fun _ => Link.blank_fits, fun _ => State.noticesFit_of_empty rfl⟩

end KeepsQueues

/-! ### The transmitter (R149) -/

theorem State.transmit_queues (s : State) : KeepsQueues s s.transmit where
  live := s.transmit_phase.trans
  link h := h.of_same s.transmit_inbox s.transmit_replies s.transmit_cache
  notices h := by
    obtain ⟨hall, hboot⟩ := h
    rw [State.noticesFit, State.transmit_boot]
    rcases s.transmit_queue with hsame | htail
    · rw [hsame]; exact ⟨hall, hboot⟩
    · rw [htail, List.length_tail]
      exact ⟨by omega, fun hb => by have := hboot hb; omega⟩

/-- What a live part's transmitter leaves: it is busy, or nothing is ready for it. -/
theorem State.transmit_nothingWaits {s : State} (h : s.phase = .live) : s.transmit.nothingWaits := by
  intro _ hidle
  have hbusy : ∀ {t : Sending}, s.transmit.link.tx = some t → s.transmit.nothingReady := fun ht => by
    rw [ht] at hidle
    cases hidle
  cases htx : s.link.tx with
  | some t => exact hbusy (by rw [State.transmit_sending htx]; exact htx)
  | none =>
    cases hr : s.link.replies with
    | cons e es => exact hbusy (by rw [State.transmit_reply h htx hr])
    | nil =>
      cases hj : s.link.reject with
      | some f => exact hbusy (by rw [State.transmit_reject h htx hr hj])
      | none =>
        have hstill : s.notices.muted = true ∨ s.notices.queue = [] → s.transmit.nothingReady := fun hq => by
          rw [State.transmit_still ⟨hr, hj, hq⟩]
          exact ⟨hr, hj, hq⟩
        cases hm : s.notices.muted with
        | true => exact hstill (.inl hm)
        | false =>
          cases hq : s.notices.queue with
          | nil => exact hstill (.inr hq)
          | cons n ns => exact hbusy (by rw [State.transmit_notice h htx hr hj hm hq])

/-! ### Link events (R143 to R149) -/

theorem State.setRx_queues (s : State) (rx : Receiver) (timer : Option Nat) : KeepsQueues s (s.setRx rx timer) :=
  .linked rfl (fun h => h.of_same rfl rfl rfl) rfl rfl

theorem State.linkError_queues (s : State) (cause : LinkCause) : KeepsQueues s (s.linkError cause) :=
  (s.setRx_queues .hunt none).trans (.play (State.produce_fixed _ _) (State.produce_noticesFit · nofun))

/-- A frame enters, or its cached reply is queued, where the reply queue has a free entry (R145, R146). -/
theorem State.enterInbox_queues (s : State) (f : Frame) : KeepsQueues s (s.enterInbox f) := by
  unfold State.enterInbox
  split
  · exact .refl s
  · split
    · split
      case isTrue hfree =>
        have hroom : 0 < 12 - (s.link.replies.length + s.link.inbox.length) := hfree
        refine .linked rfl (fun ⟨hinbox, _, hcache⟩ => ⟨hinbox, ?_, hcache⟩) rfl rfl
        simp only [List.length_append, List.length_cons, List.length_nil]
        omega
      case isFalse => exact .refl s
    · split
      case isTrue => exact .linked rfl (fun h => h.of_same rfl rfl rfl) rfl rfl
      case isFalse hroom =>
        obtain ⟨hinbox, hfree⟩ := not_or.mp hroom
        have hplaces : ¬8 ≤ s.link.inbox.length := hinbox
        have hentry : ¬12 - (s.link.replies.length + s.link.inbox.length) = 0 := hfree
        refine .linked rfl (fun ⟨_, _, hcache⟩ => ⟨?_, ?_, hcache⟩) rfl rfl <;>
          simp only [List.length_append, List.length_cons, List.length_nil] <;> omega

theorem State.judgeFrame_queues (s : State) (got : List Byte) (check : BitVec 16) : KeepsQueues s (s.judgeFrame got check) := by
  unfold State.judgeFrame
  split
  · split
    · exact (s.setRx_queues _ _).trans (State.enterInbox_queues _ _)
    · exact s.linkError_queues _
  · exact s.linkError_queues _

theorem State.rxByte_queues (s : State) (b : Byte) : KeepsQueues s (s.rxByte b) := by
  unfold State.rxByte
  split
  · split
    · exact s.setRx_queues _ _
    · exact .refl s
  · split
    · exact s.setRx_queues _ _
    · exact s.linkError_queues _
  · split <;> exact s.setRx_queues _ _
  · exact s.setRx_queues _ _
  · exact s.judgeFrame_queues _ _

theorem State.rxBytes_queues (s : State) (bs : List Byte) : KeepsQueues s (s.rxBytes bs) := by
  rw [State.rxBytes_eq]
  induction bs generalizing s with
  | nil => exact .refl s
  | cons b bs ih => exact (s.rxByte_queues b).trans (ih _)

theorem State.byteError_queues (s : State) : KeepsQueues s s.byteError := by
  unfold State.byteError
  split
  · exact s.linkError_queues _
  · exact .refl s

theorem State.replyEnd_queues (s : State) (e : ReplyEffect) : KeepsQueues s (s.replyEnd e) := by
  cases e with
  | plain => exact .refl s
  | setRate r => exact .linked rfl (fun h => h.of_same rfl rfl rfl) rfl rfl
  | reload => exact .startUpValues s

/-- A sent reply frees its entry (R145). -/
theorem State.frameEnd_queues (s : State) : KeepsQueues s s.frameEnd := by
  unfold State.frameEnd
  split
  · exact .refl s
  · simp only
    split
    case h_1 e rest _ hreplies =>
      have hfreed : KeepsQueues s { s with link := { s.link with tx := none, replies := rest } } := by
        refine .linked rfl (fun ⟨hinbox, hentries, hcache⟩ => ⟨hinbox, ?_, hcache⟩) rfl rfl
        rw [hreplies, List.length_cons] at hentries
        change rest.length + s.link.inbox.length ≤ 12
        omega
      exact hfreed.trans (State.replyEnd_queues _ _)
    case h_2 => exact .linked rfl (fun h => h.of_same rfl rfl rfl) rfl rfl

/-! ### The Timebase and HOLD_IN -/

theorem State.passMicrosecond_queues (s : State) (o : Order) : KeepsQueues s (s.passMicrosecond o) := by
  have hbyte : KeepsQueues s s.timeByte := by
    unfold State.timeByte
    split
    · exact s.linkError_queues _
    · exact .linked rfl (fun h => h.of_same rfl rfl rfl) rfl rfl
  have hfixed : ((s.timeByte.endSyncHold.catchUp o).divide o).fixed = s.timeByte.fixed := s.passMicrosecond_fixed o
  exact hbyte.trans (.play hfixed fun h =>
    State.divide_noticesFit (State.catchUp_noticesFit ((State.endSyncHold_noticesFit _).mpr h) o) o)

theorem State.syncChange_queues (s : State) (level : Bool) (o : Order) : KeepsQueues s (s.syncChange level o) :=
  .play (s.syncChange_fixed level o) (State.syncChange_noticesFit · level o)

theorem State.holdSample_queues (s : State) (level : Bool) (o : Order) : KeepsQueues s (s.holdSample level o) :=
  .play (s.holdSample_fixed level o) (State.holdSample_noticesFit · level o)

/-! ### Saves and erases (R174 to R176) -/

theorem State.judged_endOp_serves (s : State) : Serves s s.judgeBanks.endOp := .aside rfl rfl rfl rfl

theorem State.produce_serves (s : State) {body : NoticeBody} (h : body.number ≠ 0) : Serves s (s.produce body) :=
  .play (s.produce_fixed body) (State.produce_noticesFit · h)

theorem State.completeSave_serves (s : State) (ok : Bool) : Serves s (s.completeSave ok) := by
  unfold State.completeSave
  split
  · split
    · exact ((s.setBank_serves _ _).trans (State.judged_endOp_serves _)).trans (State.produce_serves _ nofun)
    · exact ((s.setHeader_serves _ _).trans (State.judged_endOp_serves _)).trans (State.produce_serves _ nofun)
  all_goals exact .refl s

theorem State.treatedA_serves (s : State) (ok : Bool) : Serves s (s.treatedA ok) := by
  unfold State.treatedA
  split
  · exact ((s.setHeader_serves _ _).trans (State.setHeader_serves _ _ _)).trans (.aside rfl rfl rfl rfl)
  all_goals exact .refl s

theorem State.completeErase_serves (s : State) (ok : Bool) : Serves s (s.completeErase ok) := by
  unfold State.completeErase
  split
  · exact ((s.setHeader_serves _ _).trans (State.judged_endOp_serves _)).trans (State.produce_serves _ nofun)
  all_goals exact .refl s

/-! ### Start-up (R179, R180) -/

theorem State.loadBanks_serves (s : State) : Serves s s.loadBanks.1 := by
  unfold State.loadBanks
  simp only
  split
  · split
    · rename_i img _
      obtain ⟨hframe, -⟩ := State.restoreLists_frame img.lists s.judgeBanks
      unfold State.loadImage
      simp only
      rw [hframe]
      exact .aside rfl rfl rfl rfl
    · exact .aside rfl rfl rfl rfl
  · exact .aside rfl rfl rfl rfl

theorem State.autostartTimebase_serves (s : State) (o : Order) : Serves s (s.autostartTimebase o) := by
  unfold State.autostartTimebase
  split
  · exact .play (s.tbStartAction_fixed o) (State.tbStartAction_noticesFit · o)
  · exact .refl s

theorem State.bindPlayer_serves (s : State) (p : PlayerId) (l : ListId) (lines : LineSet) : Serves s (s.bindPlayer p l lines) :=
  .aside rfl rfl rfl rfl

theorem State.runEntry_serves (s : State) (o : Order) (p : PlayerId) : Serves s (s.runEntry o p).1 := by
  unfold State.runEntry
  split
  · exact .refl s
  · split
    · split
      · exact .refl s
      · split
        · exact .refl s
        · simp only
          split
          · exact s.bindPlayer_serves p _ _
          · exact (s.bindPlayer_serves p _ _).trans (State.startPlayer_serves _ p _ _ _ o)
    · exact .refl s

/-- While BOOTING, a part that has served goes on with the next action (log 42). -/
theorem KeepsQueues.booting {s t : State} (h : Serves s t) (hb : s.boot ≠ .ready) (b : Boot) :
    KeepsQueues s { t with boot := b } where
  live := h.phase.trans
  link hl := by
    change t.link.fits
    rw [h.link]
    exact hl
  notices hn := (h.notices hn).booting (by rw [h.boot]; exact hb) rfl

theorem State.startUpAction_queues (s : State) (o : Order) : KeepsQueues s (s.startUpAction o) := by
  unfold State.startUpAction
  split
  case h_1 hb => exact .booting s.loadBanks_serves (by rw [hb]; nofun) _
  case h_2 hb => exact .booting (s := s) (t := s.judgeHoldAtBoot) (.aside rfl rfl rfl rfl) (by rw [hb]; nofun) _
  case h_3 hb => exact .booting (s.autostartTimebase_serves o) (by rw [hb]; nofun) _
  case h_4 hb =>
    split
    · exact .booting (s.runEntry_serves o _) (by rw [hb]; nofun) _
    · refine ⟨(s.produce_phase _).trans, fun hl => ?_, fun hn => hn.ready _⟩
      change (s.produce _).link.fits
      rw [State.produce_link]
      exact hl
  case h_5 => exact .refl s

theorem State.startUp_queues (s : State) (o : Order) (n : Nat) : KeepsQueues s (s.startUp o n) := by
  induction n generalizing s with
  | zero => exact .refl s
  | succ n ih => exact (s.startUpAction_queues o).trans (ih _)

end Sys2Proof.Machine

/-! PROOFS. Every row and every step: the queues keep their sizes, and nothing waits for an idle transmitter (O51). -/

namespace Sys2Proof.Machine

/-- From `s` to `t` both conditions go on holding. -/
structure StaysSound (s t : State) : Prop where
  bounded : s.bounded → t.bounded
  waits : s.nothingWaits → t.nothingWaits

namespace StaysSound

variable {s t u : State}

theorem refl (s : State) : StaysSound s s := ⟨id, id⟩

theorem trans (h1 : StaysSound s t) (h2 : StaysSound t u) : StaysSound s u :=
  ⟨fun h => h2.bounded (h1.bounded h), fun h => h2.waits (h1.waits h)⟩

theorem of_next (h : (Host.Outcome.next u : Host.Outcome State Fault Refusal) = .next t) (hu : StaysSound s u) : StaysSound s t := by
  cases h; exact hu

/-- Neither condition reads what moves. -/
theorem aside (hp : t.phase = s.phase) (hl : t.link = s.link) (hn : t.notices = s.notices) (hb : t.boot = s.boot) :
    StaysSound s t where
  bounded := by unfold State.bounded; rw [hl, hn, hb]; exact id
  waits := by unfold State.nothingWaits; rw [hp, hl, hn]; exact id

/-- A live part's transmitter begins what is ready at the end (R149). -/
theorem transmitted (h : KeepsQueues s t) (hlive : s.phase = .live) : StaysSound s t.transmit where
  bounded hs := by
    obtain ⟨hlink, hnotices⟩ := State.bounded_iff.mp hs
    have hall := h.trans t.transmit_queues
    exact State.bounded_iff.mpr ⟨hall.link hlink, hall.notices hnotices⟩
  waits _ := State.transmit_nothingWaits (h.live hlive)

theorem live {event : State → State} (hevent : ∀ s, KeepsQueues s (event s)) : StaysSound s (s.live event) := by
  by_cases hlive : s.phase = .live
  · rw [State.live_live hlive]
    exact .transmitted (hevent s) hlive
  · rw [State.live_other hlive]
    exact .refl s

/-- The row of an event of a live part. -/
theorem of_live {event : State → State} (hevent : ∀ s, KeepsQueues s (event s))
    (h : (Host.Outcome.next (s.live event) : Host.Outcome State Fault Refusal) = .next t) : StaysSound s t :=
  .of_next h (.live hevent)

/-- The row of an event of a live part that takes place where a condition holds. -/
theorem of_live_if {c : State → Prop} {_ : ∀ s, Decidable (c s)} {event : State → State} (hevent : ∀ s, KeepsQueues s (event s))
    (h : (Host.Outcome.next (s.live fun s => if c s then event s else s) : Host.Outcome State Fault Refusal) = .next t) :
    StaysSound s t :=
  .of_live (fun s => by
    split
    · exact hevent s
    · exact .refl s) h

end StaysSound

/-! ### Takes -/

/-- The reply takes the entry that its request held in the inbox (R145). -/
theorem State.queueReply_queues {s t : State} {q : Frame} {rest : List Frame} (hinbox : s.link.inbox = q :: rest)
    (h : Answers q (s.taking rest) t) (r : Reply) : KeepsQueues s (t.queueReply q r) where
  live := h.phase.trans
  link hs := by
    obtain ⟨hplaces, hentries, -⟩ := hs
    rw [hinbox, List.length_cons] at hplaces hentries
    have hkept : t.link.inbox.length ≤ rest.length := by
      rcases h.inbox with hsame | ⟨-, -, -, hempty⟩
      · rw [hsame]; rfl
      · rw [hempty]; exact Nat.zero_le _
    have hreplies : t.link.replies = s.link.replies := h.replies
    refine ⟨?_, ?_, cacheAdd_length _ _⟩
    · change t.link.inbox.length ≤ 8
      omega
    · change (t.link.replies ++ [_]).length + t.link.inbox.length ≤ 12
      rw [hreplies, List.length_append, List.length_singleton]
      omega
  notices hs := h.notices hs

theorem AnswersTakes.staysSound {c : Instr} (hc : AnswersTakes c) {s t : State} (h : exec c s = .next t) : StaysSound s t := by
  obtain ⟨mine, serve, -, hexec, hanswers⟩ := hc
  rw [hexec] at h
  refine .of_next h ?_
  unfold State.take
  split
  case h_1 q rest hmay hinbox =>
    have hlive : s.phase = .live := of_decide_eq_true (Bool.and_eq_true_iff.mp hmay).1
    split
    case isTrue hmine => exact .transmitted (State.queueReply_queues hinbox (hanswers q _ hmine) _) hlive
    case isFalse => exact .refl s
  case h_2 => exact .refl s

/-! ### Rows of events -/

section Events

variable {s t : State} {o : Order} {level : Bool}

/-- SYNC_IN is followed by a part that is not live, and by nothing else of it (log 13). -/
theorem execSyncInEdge_staysSound (h : execSyncInEdge level o s = .next t) : StaysSound s t := by
  unfold execSyncInEdge at h
  split at h
  · exact .of_live (fun s => s.syncChange_queues level o) h
  all_goals exact .of_next h (.aside rfl rfl rfl rfl)

/-- HOLD_IN is followed by a part that is not live, and by nothing else of it (log 13). -/
theorem execHoldInChange_staysSound (h : execHoldInChange level o s = .next t) : StaysSound s t := by
  unfold execHoldInChange at h
  split at h
  · exact .of_live (fun s => s.holdSample_queues level o) h
  all_goals exact .of_next h (.aside rfl rfl rfl rfl)

theorem State.phaseRow_staysSound (s : State) (p : PlayerId) (o : Order) (a : Activity) (ofRow : StepAction → Bool) :
    StaysSound s (s.phaseRow p o a ofRow) := by
  refine .live fun s => ?_
  split
  · refine .play (runActors_fixed (fun a u => ?_) _ s) fun h => runActors_noticesFit (fun a u hu => ?_) _ h
    · cases a with
      | player p' =>
        simp only
        split
        · exact u.phaseEnd_fixed p'
        · rfl
      | safeUnit | superframeNotice => rfl
    · cases a with
      | player p' =>
        simp only
        split
        · exact State.phaseEnd_noticesFit hu p'
        · exact hu
      | safeUnit | superframeNotice => exact hu
  · exact .refl s

/-- A start-up reset empties the queues (R150, R172). -/
theorem execStartUpReset_staysSound {cause : ResetCause} (h : execStartUpReset cause s = .next t) : StaysSound s t := by
  unfold execStartUpReset at h
  split at h
  · exact .of_next h (.refl s)
  · exact .of_next h ⟨fun _ => State.bounded_iff.mpr ⟨Link.blank_fits, State.noticesFit_of_empty rfl⟩,
      fun _ _ _ => s.startUpValues_nothingReady .held⟩

/-- A held part has supply, so that nothing waits as it goes live (R150). -/
theorem execResetNRelease_staysSound (h : execResetNRelease s = .next t) : StaysSound s t := by
  unfold execResetNRelease at h
  split at h
  case h_1 hheld => exact .of_next h ⟨id, fun hs _ hidle => hs (by rw [hheld]; nofun) hidle⟩
  all_goals exact .of_next h (.refl s)

/-- A part without supply sends nothing (R150). -/
theorem execPowerFailure_staysSound (h : execPowerFailure s = .next t) : StaysSound s t :=
  .of_next h ⟨id, fun _ hsupply => absurd rfl hsupply⟩

end Events

/-! ### Every row, and every step -/

theorem exec_staysSound {s t : State} (c : Instr) (h : exec c s = .next t) : StaysSound s t := by
  by_cases htakes : (takesOf c).isSome
  · exact (answersTakes c htakes).staysSound h
  cases c with
  | frameReceived f => exact .of_live_if (fun s => s.rxBytes_queues _) h
  | linkBadLength len => exact .of_live_if (fun s => s.rxByte_queues len) h
  | linkByteError => exact .of_live State.byteError_queues h
  | linkTimeout => exact .of_live_if (fun s => s.linkError_queues _) h
  | frameSent => exact .of_live State.frameEnd_queues h
  | sofReceived => exact .of_live_if (fun s => s.rxByte_queues _) h
  | internalTick o => exact .of_live_if (fun s => s.passMicrosecond_queues o) h
  | tickInEdge o => exact .of_live_if (fun s => .play (s.tick_fixed o) (State.tick_noticesFit · o)) h
  | syncInEdge level o => exact execSyncInEdge_staysSound h
  | syncOutPulseEnd => exact .of_live_if (fun s => .play s.lowerSyncOut_fixed s.lowerSyncOut_noticesFit.mpr) h
  | setDwellEnd p o | pulseTrailingEdge p o | pulseDwellEnd p o | waitEdgeTimeout p o =>
    exact .of_next h (s.phaseRow_staysSound p o _ _)
  | acceptedChange n o =>
    exact .of_live (fun s => .play (s.acceptChange_fixed n o) (State.acceptChange_noticesFit · n o)) h
  | inputSample n level o =>
    exact .of_live (fun s => .play (s.sample_fixed n level o) (State.sample_noticesFit · n level o)) h
  | holdInChange level o => exact execHoldInChange_staysSound h
  | saveCompletion ok => exact .of_live (fun s => .of_serves (s.completeSave_serves ok)) h
  | eraseCompletion ok => exact .of_live (fun s => .of_serves (s.completeErase_serves ok)) h
  | bankATreated ok => exact .of_live (fun s => .of_serves (s.treatedA_serves ok)) h
  | imageLoad o => exact .of_live (fun s => s.startUp_queues o _) h
  | startUpReset cause => exact execStartUpReset_staysSound h
  | resetNRelease => exact execResetNRelease_staysSound h
  | powerFailure => exact execPowerFailure_staysSound h
  | _ => exact absurd rfl htakes

/-- Every step keeps both conditions. -/
theorem step_staysSound {s t : State} (h : step s = .next t) : StaysSound s t := by
  unfold step at h
  split at h
  case h_1 c rest _ =>
    have hpop : StaysSound s { s with pending := rest } := .aside rfl rfl rfl rfl
    exact hpop.trans (exec_staysSound c h)
  case h_2 => exact .of_live (fun s => s.passMicrosecond_queues _) h

/-- Settles O51: a take turns its inbox place into a reply entry and an event of a live part keeps the queues to their sizes; either
ends with the transmitter busy or with nothing ready, and outside a live part the queues stay or are emptied. -/
theorem linkAndNoticeQueuesStaySound : Obligations.LinkAndNoticeQueuesStaySound :=
  ⟨fun _ _ hs h => (step_staysSound h).bounded hs, fun _ _ hs h => (step_staysSound h).waits hs⟩

end Sys2Proof.Machine
